-- ==== Sys2Proof/Word.lean ====
section
/-! DEFINITION. The word types of the SL8 and their plainest arithmetic. -/

namespace Sys2Proof

/-- An octet. -/
abbrev Byte := BitVec 8

/-- A 16-bit value: a host tag, a generation, a parameter index. -/
abbrev Half := BitVec 16

/-- A 32-bit value: an address, a register, a timebase instant, a counter. -/
abbrev Word := BitVec 32

/-- A Station Link port, 0 to 7. -/
abbrev PortId := Fin 8

/-- A synchronisation group, 0 to 3. -/
abbrev GroupId := Fin 4

/-- The data of one bus read, at most 32 octets: octet i stands in bits 8i to 8i + 7 (R166). -/
abbrev ReadData := BitVec 256

end Sys2Proof
end

