-- ==== Sys2Proof/Machine/Octets.lean ====
section
/-! DEFINITION. Octet order and the CRC of the Station Link. -/

namespace Sys2Proof.Machine

/-- The octet at octet offset `i` of a little-endian value (R166). -/
def octetAt {w : Nat} (v : BitVec w) (i : Nat) : Byte := v.extractLsb' (8 * i) 8

/-- The first `n` octets of a value, least significant first (R166). -/
def octets {w : Nat} (n : Nat) (v : BitVec w) : List Byte := (List.range n).map (octetAt v)

/-- One shift of the CRC register, generator 2Fh (R8). -/
def crcShift (r : Byte) : Byte := if r.msb then (r <<< 1) ^^^ 0x2F#8 else r <<< 1

/-- The CRC register after one covered octet (R8). -/
def crcOctet (r b : Byte) : Byte := (List.range 8).foldl (fun x _ => crcShift x) (r ^^^ b)

/-- The CRC register preset (R8). -/
def crcPreset : Byte := 0xFF#8

/-- The CRC octet of a list of covered octets (R8). -/
def crc (l : List Byte) : Byte := l.foldl crcOctet crcPreset

/-- The ten line levels of a character, recessive as true: start bit, data least significant bit first, stop bit (R3). -/
def charBits (b : Byte) : List Bool := false :: ((List.range 8).map b.getLsbD ++ [true])

/-- How many bit times at the end of a character are recessive: its stop bit and the ones before it (R3). -/
def tailRecessive (b : Byte) : Nat := 1 + ((List.range 8).takeWhile b.getMsbD).length

/-- A 32-bit counter that saturates (R39). -/
def satAdd (a b : Word) : Word := if a.toNat + b.toNat < 2 ^ 32 then a + b else BitVec.allOnes 32

end Sys2Proof.Machine
end

