-- ==== Sys2Proof/Config.lean ====
section
/-! DEFINITION. What the part fixes, and the values the spec leaves free. -/

namespace Sys2Proof.Config

/-- The ID register: vendor 4C2h, part 081h, revision 01h (section 10.8, R155). -/
def idWord : Word := 0x010814C2#32

/-- Units of `State.time` in one microsecond: 1/32 µs, in which every Tb and every half Tb of R2 is whole (log entry 2). -/
def unitsPerUs : Nat := 32

/-- The sampling lead: 64 µs before the start instant (R74). -/
def samplingLead : Nat := 64

/-- The fire lead: 100 µs from a fire to its epoch (R67, R68). -/
def fireLead : Nat := 100

/-- The length of a SYNC_OUT pulse: 10 µs (R77). -/
def syncOutLen : Nat := 10

/-- The dominant level of a wake pulse: 120 µs (R18). -/
def wakeDominant : Nat := 120

/-- The quiet time of a wake pulse: 400 µs (R18). -/
def wakeQuiet : Nat := 400

/-- A line dominant this long in WAITING is stuck: 10,000 µs (R11). -/
def stuckTime : Nat := 10000

/-- The unit of the configured backoff: 10,000 µs (R27, R49). -/
def backoffUnit : Nat := 10000

/-- The guard after an exchange, in Tb (R16). -/
def guardTb : Nat := 8

/-- The modulus of the beat number: the least common multiple of 1 to 16 (R64). -/
def beatModulus : Nat := 720720

/-- ORT entries (R130). -/
def ortSize : Nat := 64

/-- Entries of a port's acyclic queue (R26). -/
def queueSize : Nat := 8

/-- FREE VALUE. Which of several steps that are due at one instant is taken: the k-th choice the part makes.
No rule orders them (log entry 5). -/
opaque dueChoice : Nat → Nat

/-- FREE VALUE. Whether the first start of a free port, whose bound falls within a microsecond, is brought to the
next timebase value or to the one it falls in; the argument is the bound in 1/32 µs (R57, R73; log entry 10). -/
opaque startRoundsUp : Nat → Bool

end Sys2Proof.Config
end

