-- ==== Sys2Proof/Syntax.lean ====
section
/-! DEFINITION. The commands of the SL8: one constructor per row of spec/opcode_table.json. -/

namespace Sys2Proof

/-- A request record without its kind octet, which the row itself names (section 10.2): octet 1, octets 2 and 3,
and octets 4 to 31, octet 4 lowest. -/
structure ReqRecord where
  target : Byte
  tag : Half
  fields : BitVec 224
  deriving DecidableEq, Repr

/-- One character of a station reply as the receiver assembles it (R4). -/
structure RxChar where
  /-- From the end of the character before it to its start edge, in 1/32 µs (R14); not examined where the start edge
  is known already, from REPLY_START_EDGE or from the STATION_REPLY before. -/
  gap : Nat
  /-- The eight data samples. -/
  octet : Byte
  /-- The stop bit sample is recessive. -/
  stop : Bool
  deriving DecidableEq, Repr

/-- A request with a target: its record, and whether it reaches its target only after the take (R134, R135; log entry 6). -/
structure Routed where
  record : ReqRecord
  late : Bool
  deriving DecidableEq, Repr

/-- The width of a slave write (R154). -/
inductive AccessWidth where
  | w8 | w16 | w32
  deriving DecidableEq, Repr

/-- The commands. A bus read ends with its data or, `none`, with a bus error; a bus write ends with success or not
(R165). Times are in 1/32 µs. A taken request acts at its target within its row, or, where it is late, reaches its target
only after the take: then it stays ROUTED until the part brings it there, still at the instant of the take (R134, R135;
log entry 6). -/
inductive Instr where
  /-- NOP, a fetched record (R136). -/
  | nop (r : ReqRecord)
  /-- PORT_CONFIG, a fetched record (R27). -/
  | portConfig (q : Routed)
  /-- PORT_ENABLE, a fetched record (R28). -/
  | portEnable (q : Routed)
  /-- PORT_DISABLE, a fetched record (R29). -/
  | portDisable (q : Routed)
  /-- BRING_UP, a fetched record (R43). -/
  | bringUp (q : Routed)
  /-- CYCLE_START, a fetched record (R79). -/
  | cycleStart (q : Routed)
  /-- CYCLE_STOP, a fetched record (R98). -/
  | cycleStop (q : Routed)
  /-- GROUP_CONFIG, a fetched record (R65). -/
  | groupConfig (q : Routed)
  /-- SYNC_FIRE, a fetched record (R67). -/
  | syncFire (q : Routed)
  /-- PARAM_READ, a fetched record (R26). -/
  | paramRead (q : Routed)
  /-- PARAM_WRITE, a fetched record (R26). -/
  | paramWrite (q : Routed)
  /-- ABORT, a fetched record (R137). -/
  | abort (q : Routed)
  /-- PORT_QUERY, a fetched record (R40). -/
  | portQuery (q : Routed)
  /-- A fetched record whose kind octet names no request kind (R132). -/
  | unknownRequestKind (kind : Byte) (r : ReqRecord)
  /-- The request fetch ends with a bus error (R128). -/
  | reqBusError
  /-- The Dispatcher claims a request fetch (R126). -/
  | fetch
  /-- The arbiter grants one claim (R164). -/
  | bmuGrant
  /-- The Completion Writer claims a record write (R142, R151). -/
  | completionWriteClaim
  /-- The record write ends (R142, R143). -/
  | recordWriteEnd (ok : Bool)
  /-- The holdoff timer expires (R152). -/
  | holdoffExpiry
  /-- A write to REQ_TAIL (R124). -/
  | reqTail (v : Word)
  /-- A write to CPL_HEAD (R146). -/
  | cplHead (v : Word)
  /-- A write to CTRL that changes ENABLE, the whole value written (R156). -/
  | enable (v : Word)
  /-- A write to CTRL with SOFT_RESET set, the whole value written (R162). -/
  | softReset (v : Word)
  /-- The access in flight at the soft reset ends (R162). -/
  | softResetEnd
  /-- A write to CTRL that stores INT_ENABLE, the whole value written (R156). -/
  | intEnable (v : Word)
  /-- A slave write at an offset of the register window (R154). -/
  | registerWrite (offset : BitVec 6) (width : AccessWidth) (v : Word)
  /-- RESET_N is asserted (R163). -/
  | powerOnReset
  /-- RESET_N is deasserted (R163). -/
  | resetNDeasserted
  /-- The setup read ends (R158, R159). -/
  | setupReadEnd (d : Option ReadData)
  /-- SYNC_IN takes a level, high or low (R68). -/
  | syncIn (high : Bool)
  /-- A RUNNING group reaches its next beat (R64). -/
  | beat (g : GroupId)
  /-- The SYNC_OUT pulse ends (R77). -/
  | syncOutPulseEnd
  /-- The sampling instant is delivered (R74, R85). -/
  | samplingInstant (p : PortId)
  /-- A sampling read ends (R85, R96). -/
  | samplingReadEnd (d : Option ReadData)
  /-- The start instant is delivered (R74, R89). -/
  | startInstant (p : PortId)
  /-- An input image write ends (R93, R96). -/
  | inputImageWriteEnd (ok : Bool)
  /-- The idle check holds for the frame or pulse in WAITING (R11). -/
  | idleCheck (p : PortId)
  /-- The echo differs from the level driven at the sample of bit number `bit` of the frame (R12). -/
  | collision (p : PortId) (bit : Nat)
  /-- The last stop bit of the master frame ends (R12). -/
  | masterFrameEnd (p : PortId)
  /-- T_resp expires; `hold` is how long after the expiry a candidate edge held the judgement, and proved a glitch: 0 where none
did (R4, R13). -/
  | noReply (p : PortId) (hold : Nat)
  /-- G expires; `hold` as for NO_REPLY (R4, R14). -/
  | gap (p : PortId) (hold : Nat)
  /-- Reply characters, in order, the last ending at this command; or, with `next`, also the confirmed start edge of the
  character after them, by its gap (R4, R14, R15; log entry 11). -/
  | stationReply (p : PortId) (chars : List RxChar) (next : Option Nat)
  /-- The guard ends (R16). -/
  | guardEnd (p : PortId)
  /-- The dominant level of the wake pulse ends (R18). -/
  | wakeDominantEnd (p : PortId)
  /-- The quiet time of the wake pulse ends (R18, R45). -/
  | quietTimeEnd (p : PortId)
  /-- The line has been dominant for 10,000 µs in WAITING (R11, R36). -/
  | lineStuck (p : PortId)
  /-- FLT_n is asserted (R35). -/
  | fltNAsserted (p : PortId)
  /-- FLT_n is deasserted (R35). -/
  | fltNDeasserted (p : PortId)
  /-- The fault blank timer reaches the blank time (R35). -/
  | overcurrent (p : PortId)
  /-- A bring-up attempt begins (R45). -/
  | attempt (p : PortId)
  /-- The backoff timer expires (R49). -/
  | backoffExpiry (p : PortId)
  /-- The Transfer Engine activates the head of the acyclic queue (R108). -/
  | activation (p : PortId)
  /-- The built segment is handed to the Line Framer (R105, R106). -/
  | segmentHandOver (p : PortId)
  /-- The SVC_ABANDON is handed to the Line Framer (R117). -/
  | svcAbandon (p : PortId)
  /-- A fetch of write segment data ends (R109). -/
  | transferFetchEnd (d : Option ReadData)
  /-- A store of read data ends (R110). -/
  | transferStoreEnd (ok : Bool)
  /-- A port report write ends (R41). -/
  | portReportWriteEnd (ok : Bool)
  /-- A start edge `edge` after the end of the master frame is confirmed by its half-Tb sample (R4, R13). -/
  | replyStartEdge (p : PortId) (edge : Nat)
  /-- RXD changes to the recessive (true) or dominant (false) level; a change to the dominant level is a candidate start edge where
the receiver looks for one (R4, R11). -/
  | rxdLevelChange (p : PortId) (recessive : Bool)
  deriving DecidableEq, Repr

end Sys2Proof
end

