-- ==== Sys2Proof/Machine/State.lean ====
section
/-! DEFINITION. The state of the SL8 as plain data, its reset value, and the reasons a step can stop. -/

namespace Sys2Proof.Machine

/-! ### Names the spec gives values -/

/-- Line speeds (R2). -/
inductive Speed where
  | l1 | l2 | l3
  deriving DecidableEq, Repr

/-- Master frame kinds (R5). -/
inductive FrameKind where
  | cyclic | identify | svcWrite | svcRead | svcAbandon
  deriving DecidableEq, Repr

/-- The causes of a failed exchange (R15). -/
inductive Cause where
  | collision | noReply | framing | gap | length | crc | toggle
  deriving DecidableEq, Repr

/-- Port states (R21). -/
inductive PortState where
  | disabled | idle | bringup | ready | armed | cyclic | recovery | fault
  deriving DecidableEq, Repr

/-- Stale policies (R27, R88). -/
inductive StalePolicy where
  | repeatData | mark | skip
  deriving DecidableEq, Repr

/-- Fault causes of a port (R20). -/
inductive FaultCause where
  | overcurrent | lineStuck
  deriving DecidableEq, Repr

/-- Stale causes (R86). -/
inductive StaleCause where
  | torn | late | unchanged
  deriving DecidableEq, Repr

/-- Completion statuses (section 8.6 and 10.3). -/
inductive Status where
  | ok | badRequest | badPort | badParameter | badPortState | busy | queueFull | badPeriod | aborted | cancelled
  | portDisabled | portFault | noLink | linkLost | bringupFailed | linkError | stationError | stationBusy
  | windowTooSmall | bufferFault | tooLong
  deriving DecidableEq, Repr

/-- Event kinds (R145). -/
inductive EventKind where
  | linkLost | linkRestored | linkDown | stationAttention | cycleSlip | outputStale | portFault | imageFault
  deriving DecidableEq, Repr

/-- Part states (R157). -/
inductive PartState where
  | off | starting | running | paused | halted | resetting
  deriving DecidableEq, Repr

/-- Halt causes (R161). -/
inductive HaltCause where
  | badSetup | setupBusError | reqBusError | cplBusError | badTail | badHead
  deriving DecidableEq, Repr

/-- States of an ORT entry (R130). -/
inductive OrtState where
  | fetching | routed | queued | active | waiting | done
  deriving DecidableEq, Repr

/-- Occupants of a control slot (R25). -/
inductive ControlKind where
  | bringUp | cycleStart | cycleStop
  deriving DecidableEq, Repr

/-- The engines that hand frames to a Line Framer (R23). -/
inductive Engine where
  | bringUp | cycle | transfer
  deriving DecidableEq, Repr

/-- Line Framer states (R10). -/
inductive FramerState where
  | off | free | waiting | sending | awaiting | receiving | guard | waking
  deriving DecidableEq, Repr

/-- Phases of the Bring-up Sequencer (R42). -/
inductive SeqPhase where
  | stopped | lineWait | wake | identify | backoff
  deriving DecidableEq, Repr

/-- Modes of the Bring-up Sequencer (R42). -/
inductive SeqMode where
  | bringUp | recovery
  deriving DecidableEq, Repr

/-- Phases of the Transfer Engine (R101). -/
inductive XferPhase where
  | none | fetching | sendWait | exchange | storing | abandonWait | abandonExchange
  deriving DecidableEq, Repr

/-- Abandon causes (R101, R116). -/
inductive AbandonCause where
  | aborted | tooLong | linkError | bufferFault
  deriving DecidableEq, Repr

/-- The reads of a sampling round, in their order (R85). -/
inductive ReadStage where
  | gen1 | data | gen2
  deriving DecidableEq, Repr

/-- Group sources (R63). -/
inductive Source where
  | host | line
  deriving DecidableEq, Repr

/-! ### Ports -/

/-- The configuration of a port, the fields of PORT_CONFIG (R27). -/
structure PortConfig where
  /-- bit 0 L1, bit 1 L2, bit 2 L3 -/
  speedMask : BitVec 3
  tResp : Nat
  gapLimit : Nat
  missLimit : Nat
  stalePolicy : StalePolicy
  staleLimit : Nat
  autoRecovery : Bool
  attempts : Nat
  /-- in units of 10,000 µs -/
  backoff : Nat
  /-- in µs -/
  blankTime : Nat
  retryLimit : Nat
  busyLimit : Nat
  outImage : Word
  inImage : Word
  deriving DecidableEq, Repr

/-- The reset configuration (R27). -/
def PortConfig.reset : PortConfig :=
  { speedMask := 7#3, tResp := 16, gapLimit := 2, missLimit := 3, stalePolicy := .mark, staleLimit := 4,
    autoRecovery := false, attempts := 3, backoff := 5, blankTime := 1000, retryLimit := 2, busyLimit := 32,
    outImage := 0, inImage := 0 }

/-- The station descriptor, as received (R47). -/
structure Descriptor where
  stationClass : Byte
  revision : Byte
  /-- in units of 100 µs -/
  minPeriod : Byte
  outLen : Byte
  inLen : Byte
  segCode : Byte
  stationId : Half
  deriving DecidableEq, Repr

/-- The descriptor with the link speed: present together or absent together (R20). -/
structure Link where
  desc : Descriptor
  speed : Speed
  deriving DecidableEq, Repr

/-- How a transfer that has been ended, but waits for something of its own, will be handed (R30, R34, R43). -/
structure Ending where
  status : Status
  result : Word
  /-- it waits for its SVC_ABANDON exchange (R43), else for its memory access -/
  onExchange : Bool
  deriving DecidableEq, Repr

/-- A PARAM_READ or PARAM_WRITE of the acyclic queue (R26, R101). -/
structure Transfer where
  /-- its ORT entry -/
  ort : Nat
  tag : Half
  write : Bool
  index : Half
  /-- length, or maximum length of a read -/
  length : Nat
  buffer : Word
  ending : Option Ending
  deriving DecidableEq, Repr

/-- Where a port takes its starts from (R70). -/
inductive SchedKind where
  | free
  | grouped (g : GroupId) (divisor : Nat) (phase : Nat)
  deriving DecidableEq, Repr

/-- The schedule entry of a port: its period, group membership and next start time (R70, R20). -/
structure Sched where
  kind : SchedKind
  period : Nat
  next : Option Word
  delivered : Bool
  deriving DecidableEq, Repr

/-- The counters and flags of a port (R39). -/
structure Counters where
  misses : Nat
  stales : Nat
  attention : Bool
  cyclesStarted : Word
  failed : Word
  slips : Word
  staleCycles : Word
  lastFailure : Option Cause
  deriving DecidableEq, Repr

def Counters.reset : Counters :=
  { misses := 0, stales := 0, attention := false, cyclesStarted := 0, failed := 0, slips := 0, staleCycles := 0,
    lastFailure := none }

/-- A PORT_QUERY whose report write is claimed or in flight, with its snapshot (R40). -/
structure Query where
  ort : Nat
  buffer : Word
  report : List Byte
  state : PortState
  deriving DecidableEq, Repr

/-- A PORT_DISABLE that waits for an access, with the count that is its result (R31). -/
structure DisableWait where
  ort : Nat
  count : Nat
  deriving DecidableEq, Repr

/-- A claim of a port in the class of transfer data and port reports (R101, R164). -/
inductive XClaim where
  | fetch (addr : Word) (len : Nat)
  | store (addr : Word) (octets : List Byte)
  | report (ort : Nat)
  deriving DecidableEq, Repr

/-- What the Dispatcher has handed to a Port Controller or to the Schedule Unit, and has not yet reached it (R134, R135): a
request, by its table entry, its kind and its record, or the abort of the entry `id`, handed for the ABORT `abort` (R138). -/
inductive Arrival where
  | request (id : Nat) (kind : Byte) (r : ReqRecord)
  | abort (abort id : Nat)
  deriving DecidableEq, Repr

/-! ### The Line Framer (R10) -/

/-- A master frame as an engine hands it over (R2, R5, R7). -/
structure Frame where
  engine : Engine
  kind : FrameKind
  speed : Speed
  toggle : Bool
  first : Bool
  last : Bool
  stale : Bool
  payload : List Byte
  /-- CYCLIC and IDENTIFY: the reply octets between STS and CRC -/
  replyLen : Nat
  /-- service kinds: the segment size S -/
  seg : Nat
  deriving DecidableEq, Repr

/-- What a Line Framer holds: a frame, or a wake pulse with its speed (R10, R18). -/
inductive Handed where
  | frame (f : Frame)
  | pulse (speed : Speed)
  deriving DecidableEq, Repr

/-- The exchange in flight, or in its guard, and the leading edge of its first start bit (R12, R71). -/
structure Exchange where
  frame : Frame
  start : Nat
  deriving DecidableEq, Repr

/-- The reply characters received so far (R10, R14). -/
structure Rx where
  /-- start edge of the character under way, or none between characters -/
  edge : Option Nat
  count : Nat
  crc : Byte
  octets : List Byte
  /-- end of the last character received -/
  lastEnd : Nat
  deriving DecidableEq, Repr

structure Framer where
  state : FramerState
  held : Option Handed
  flight : Option Exchange
  txen : Bool
  recessiveSince : Option Nat
  dominantSince : Option Nat
  waitSince : Nat
  /-- the instant the running line timer ends, or none -/
  timer : Option Nat
  rx : Option Rx
  /-- the last candidate start edge seen while a limit runs: it awaits its sample half a Tb later, or was a glitch (R4) -/
  candidate : Option Nat
  deriving DecidableEq, Repr

def Framer.reset : Framer :=
  { state := .off, held := none, flight := none, txen := false, recessiveSince := none, dominantSince := none,
    waitSince := 0, timer := none, rx := none, candidate := none }

/-! ### The engines -/

/-- The Bring-up Sequencer (R42). -/
structure Sequencer where
  phase : SeqPhase
  mode : SeqMode
  ladder : List Speed
  rung : Nat
  attempts : Nat
  backoff : Option Nat
  stopRequested : Bool
  deriving DecidableEq, Repr

def Sequencer.reset : Sequencer :=
  { phase := .stopped, mode := .bringUp, ladder := [], rung := 1, attempts := 0, backoff := none,
    stopRequested := false }

/-- The sample of the Cycle Engine (R78, R85). -/
inductive Sample where
  | empty
  /-- under way: whether the one resample is in use, and what has been read -/
  | reading (second : Bool) (gen1 : Half) (data : List Byte)
  /-- complete: its generation (absent when nothing was read), its data, and whether it is torn -/
  | complete (gen : Option Half) (data : List Byte) (torn : Bool)
  deriving DecidableEq, Repr

/-- An entry of the image access list (R84). -/
inductive ImageAccess where
  | sample (stage : ReadStage)
  | write (header : Bool) (addr : Word) (octets : List Byte)
  deriving DecidableEq, Repr

/-- The Cycle Engine (R78). -/
structure CycleEngine where
  lastGen : Option Half
  lastData : Option (List Byte)
  inputGen : Half
  sample : Sample
  list : List ImageAccess
  writing : Nat
  underWay : Option Word
  faultPending : Bool
  /-- the sampling instant of the next start has been admitted and its start not yet taken (R83, R98) -/
  admitted : Bool
  /-- a start instant that waits for the guard to end within its microsecond (R89) -/
  startWait : Option Word
  deriving DecidableEq, Repr

def CycleEngine.reset : CycleEngine :=
  { lastGen := none, lastData := none, inputGen := 0, sample := .empty, list := [], writing := 0, underWay := none,
    faultPending := false, admitted := false, startWait := none }

/-- The segment to be sent (R101). -/
structure Segment where
  write : Bool
  first : Bool
  last : Bool
  payload : List Byte
  /-- data octets of a write segment -/
  dataLen : Nat
  /-- its TOGGLE, once it has been handed over (R104) -/
  toggle : Option Bool
  deriving DecidableEq, Repr

/-- The Transfer Engine (R101). -/
structure TransferEngine where
  phase : XferPhase
  transfer : Option Transfer
  octetsDone : Nat
  segment : Option Segment
  sent : Bool
  retries : Nat
  busies : Nat
  cause : Option AbandonCause
  lastToggle : Bool
  /-- LEN and LAST of the reply whose data are being stored (R110) -/
  storing : Option (Nat × Bool)
  deriving DecidableEq, Repr

def TransferEngine.reset : TransferEngine :=
  { phase := .none, transfer := none, octetsDone := 0, segment := none, sent := false, retries := 0, busies := 0,
    cause := none, lastToggle := true, storing := none }

/-- The port context with the engines of its Port Controller (R20). -/
structure Port where
  state : PortState
  config : PortConfig
  link : Option Link
  /-- the occupant of the control slot and its ORT entry -/
  slot : Option (ControlKind × Nat)
  queue : List Transfer
  sched : Option Sched
  resume : Bool
  stopPending : Bool
  faultCause : Option FaultCause
  counters : Counters
  lf : Framer
  seq : Sequencer
  cyc : CycleEngine
  te : TransferEngine
  queries : List Query
  disables : List DisableWait
  /-- the claims of class 2 not yet granted, oldest first; a claim of the Transfer Engine that stands here while an access it has
  given up is still in flight counts as made when that access ends (R101, R164; DEDUCED, log entry 26) -/
  xclaims : List XClaim
  /-- what the Dispatcher has handed and the Port Controller has not yet taken, in that order (R135) -/
  inbox : List Arrival
  /-- the start of the fault blank timer, or none while it is stopped (R35) -/
  blank : Option Nat
  /-- FLT_n is asserted -/
  flt : Bool
  /-- the level the station and the wiring give the line is recessive (R1) -/
  rxd : Bool
  deriving DecidableEq, Repr

/-- A port after power-on or soft reset (R20), its input pins at the given levels. -/
def Port.resetWith (flt rxd : Bool) : Port :=
  { state := .disabled, config := .reset, link := none, slot := none, queue := [], sched := none, resume := false,
    stopPending := false, faultCause := none, counters := .reset, lf := .reset, seq := .reset, cyc := .reset,
    te := .reset, queries := [], disables := [], xclaims := [], inbox := [], blank := none, flt := flt, rxd := rxd }

/-! ### Groups (R63) -/

structure Member where
  port : PortId
  divisor : Nat
  phase : Nat
  tentative : Bool
  deriving DecidableEq, Repr

/-- The instants of a RUNNING group (R63). -/
structure Beats where
  epoch : Word
  next : Word
  /-- no beat of the current fire has been reached yet: the MODEL's own (log entry 15) -/
  fresh : Bool
  deriving DecidableEq, Repr

structure Group where
  period : Nat
  source : Source
  /-- none while UNFIRED -/
  running : Option Beats
  beatNumber : Nat
  members : List Member
  deriving DecidableEq, Repr

def Group.reset : Group :=
  { period := 1000, source := .host, running := none, beatNumber := 0, members := [] }

/-! ### Dispatcher, Completion Writer, bus -/

/-- An entry of the Outstanding Request Table (R130). -/
structure OrtEntry where
  /-- the entry's place in the table, 0 to 63: the MODEL's own name for it (log entry 14) -/
  id : Nat
  tag : Half
  kind : Byte
  target : Byte
  st : OrtState
  /-- ABORT in WAITING: how many entries its take matched (R137) -/
  matched : Nat
  /-- ABORT in WAITING: its matched entries not yet handed; their number is the pending matches (R139) -/
  awaited : List Nat
  deriving DecidableEq, Repr

/-- A request completion handed over and not yet written (R148). -/
structure Completion where
  ort : Nat
  tag : Half
  kind : Byte
  target : Byte
  status : Status
  result : Word
  /-- when it reached the Completion Writer (R151) -/
  arrival : Nat
  deriving DecidableEq, Repr

/-- An entry of the Event Pending List (R149). -/
structure Event where
  port : PortId
  kind : EventKind
  count : Nat
  detail : Word
  first : Word
  /-- when its first occurrence reached the Completion Writer (R151) -/
  arrival : Nat
  deriving DecidableEq, Repr

/-- The Completion Writer (R140) and its interrupt moderator (R152). -/
structure CompletionWriter where
  tail : Nat
  phase : Bool
  head : Nat
  used : Nat
  reserved : Nat
  done : List Completion
  events : List Event
  unsignalled : Nat
  holdoff : Option Nat
  condition : Bool
  deriving DecidableEq, Repr

def CompletionWriter.reset : CompletionWriter :=
  { tail := 0, phase := true, head := 0, used := 0, reserved := 0, done := [], events := [], unsignalled := 0,
    holdoff := none, condition := false }

/-- The accepted setup block (R159). -/
structure Setup where
  reqBase : Word
  reqK : Nat
  cplBase : Word
  cplK : Nat
  threshold : Nat
  holdoff : Nat
  syncOut : Option GroupId
  fallingEdge : Bool
  deriving DecidableEq, Repr

/-- Which list a claimed record write serves (R151). -/
inductive RecordClaim where
  | completion | event
  deriving DecidableEq, Repr

/-- An access on the bus (R166). A write carries its octets, lowest address first. -/
inductive Access where
  | setupRead (addr : Word)
  | requestFetch (addr : Word)
  /-- `ort`: the entry a REQUEST_DONE record reports, none for an EVENT record -/
  | recordWrite (addr : Word) (octets : List Byte) (ort : Option Nat)
  | sampleRead (p : PortId) (stage : ReadStage) (addr : Word) (len : Nat)
  | imageWrite (p : PortId) (header : Bool) (addr : Word) (octets : List Byte)
  | transferFetch (p : PortId) (addr : Word) (len : Nat)
  | transferStore (p : PortId) (addr : Word) (octets : List Byte)
  | reportWrite (p : PortId) (ort : Nat) (addr : Word) (octets : List Byte)
  /-- an access left on the bus by a soft reset (R162) -/
  | left
  deriving DecidableEq, Repr

/-- The access in flight. -/
structure BusFlight where
  access : Access
  /-- its end still concerns the engine that claimed it (R30, R121) -/
  live : Bool
  /-- its data are still wanted (R84) -/
  wanted : Bool
  deriving DecidableEq, Repr

/-- The Bus Master Unit (R164), with the claims that no port's state holds. -/
structure Bus where
  flight : Option BusFlight
  setupClaim : Option Word
  fetchClaim : Bool
  recordClaim : Option RecordClaim
  last1 : PortId
  last2 : PortId
  deriving DecidableEq, Repr

def Bus.reset : Bus :=
  { flight := none, setupClaim := none, fetchClaim := false, recordClaim := none, last1 := 7, last2 := 7 }

/-! ### The whole part -/

structure State where
  /-- reference time in 1/32 µs (R61, log entry 2) -/
  time : Nat
  /-- RESET_N is asserted (R163) -/
  resetAsserted : Bool
  part : PartState
  haltCause : Option HaltCause
  ctrlEnable : Bool
  intEnable : Bool
  setupAddr : Word
  reqTailReg : Word
  cplHeadReg : Word
  setup : Option Setup
  head : Nat
  tail : Nat
  ort : List OrtEntry
  cpl : CompletionWriter
  bus : Bus
  ports : Vector Port 8
  groups : Vector Group 4
  /-- what the Dispatcher has handed and the Schedule Unit has not yet taken, in that order (R135) -/
  unitInbox : List Arrival
  /-- SYNC_IN is high -/
  syncInLevel : Bool
  /-- the end of the SYNC_OUT pulse under way, or none -/
  syncOutEnd : Option Nat
  /-- hand-overs and posts that have reached the Completion Writer (R151): the MODEL's own -/
  arrivals : Nat
  /-- free choices made among due steps: the MODEL's own (log entry 5) -/
  choices : Nat
  /-- commands waiting, first in, first out -/
  pending : List Instr
  deriving DecidableEq, Repr

/-- The part right after a power-on reset: RESET_N deasserted, the part OFF, the timebase at 0, every block at its
reset value (R163). Input pins stand at the levels log entry 8 names. -/
def State.reset : State :=
  { time := 0, resetAsserted := false, part := .off, haltCause := none, ctrlEnable := false, intEnable := false,
    setupAddr := 0, reqTailReg := 0, cplHeadReg := 0, setup := none, head := 0, tail := 0, ort := [], cpl := .reset,
    bus := .reset, ports := Vector.replicate 8 (Port.resetWith false true), groups := Vector.replicate 4 Group.reset,
    unitInbox := [], syncInLevel := false, syncOutEnd := none, arrivals := 0, choices := 0, pending := [] }

/-- Reasons a step stops with a fault. There are none: the spec gives every command of the table an effect, and a halt
of the part is a state (R157). -/
inductive Fault where
  deriving DecidableEq, Repr

/-- Reasons a step is refused. -/
inductive Refusal where
  /-- The dispatch of a command that has no meaning yet raises it; no command of this model does. Stopping is safe:
  a claim about such a command is unprovable, never false. -/
  | notModelled (mnemonic : String)
  deriving DecidableEq, Repr

/-- What a meaning answers. -/
abbrev Result := Host.Outcome State Fault Refusal

end Sys2Proof.Machine
end

