-- ==== Sys2Proof/Machine/Operands.lean ====
section
/-! DEFINITION. The fields of every record the part reads: request records and their validation at take (R132, R133,
section 10.2), the setup block (R159, section 10.4), the station descriptor (section 10.7). -/

namespace Sys2Proof.Machine

/-! ### Request records -/

/-- The octet at record offset `o`, 4 to 31. -/
def recOctet (r : ReqRecord) (o : Nat) : Byte := octetAt r.fields (o - 4)

def recHalf (r : ReqRecord) (o : Nat) : Half := r.fields.extractLsb' (8 * (o - 4)) 16

def recWord (r : ReqRecord) (o : Nat) : Word := r.fields.extractLsb' (8 * (o - 4)) 32

/-- Kind octets (section 10.2). -/
def kindNop : Byte := 0x01#8
def kindPortConfig : Byte := 0x02#8
def kindPortEnable : Byte := 0x03#8
def kindPortDisable : Byte := 0x04#8
def kindBringUp : Byte := 0x05#8
def kindCycleStart : Byte := 0x06#8
def kindCycleStop : Byte := 0x07#8
def kindGroupConfig : Byte := 0x08#8
def kindSyncFire : Byte := 0x09#8
def kindParamRead : Byte := 0x0A#8
def kindParamWrite : Byte := 0x0B#8
def kindAbort : Byte := 0x0C#8
def kindPortQuery : Byte := 0x0D#8

/-- A kind octet that names one of the thirteen request kinds (R132). -/
def kindNamed (k : Byte) : Bool := 1 ≤ k.toNat && k.toNat ≤ 13

/-- A kind whose target octet names a port (R130, section 10.2): every named kind but NOP, GROUP_CONFIG, SYNC_FIRE and
ABORT. -/
def kindOfPort (k : Byte) : Bool :=
  kindNamed k && k != kindNop && k != kindGroupConfig && k != kindSyncFire && k != kindAbort

/-- Every octet of 4 to 31 that the kind does not name is 0 (R132 check 2, R167). -/
def reservedClear (used : List Nat) (r : ReqRecord) : Bool :=
  (List.range 28).all fun i => used.contains (i + 4) || recOctet r (i + 4) == 0

/-- The status of the first check that fails, or none for a valid record (R132). -/
def firstFailure (checks : List (Bool × Status)) : Option Status :=
  (checks.find? fun c => !c.1).map (·.2)

def inRange (n lo hi : Nat) : Bool := lo ≤ n && n ≤ hi

/-- The target octet names a port 0 to 7 (R132 check 3). -/
def portNamed (r : ReqRecord) : Bool := r.target.toNat < 8

/-- The port the target octet names. -/
def targetPort (r : ReqRecord) : PortId := ⟨r.target.toNat % 8, Nat.mod_lt _ (by decide)⟩

/-- The group the target octet names (GROUP_CONFIG). -/
def targetGroup (r : ReqRecord) : GroupId := ⟨r.target.toNat % 4, Nat.mod_lt _ (by decide)⟩

/-- Checks of a kind that carries its port and nothing more. -/
def checkPortOnly (r : ReqRecord) : Option Status :=
  firstFailure [(reservedClear [] r, .badRequest), (portNamed r, .badPort)]

/-- NOP: the target octet is reserved (section 10.2). -/
def checkNop (r : ReqRecord) : Option Status :=
  firstFailure [(reservedClear [] r && r.target == 0, .badRequest)]

/-- An image address: a multiple of 8 whose last octet does not pass FFFFFFFFh, 0 allowed (R133). -/
def imageAddrOk (a : Word) (lastOctet : Nat) : Bool := a.toNat % 8 == 0 && a.toNat + lastOctet < 2 ^ 32

/-- The blank time of its code (section 10.2). -/
def blankOfCode (c : Byte) : Nat := 500 * 2 ^ c.toNat

def stalePolicyOfCode (c : Byte) : StalePolicy :=
  if c == 0 then .repeatData else if c == 1 then .mark else .skip

/-- The configuration a PORT_CONFIG record carries (R27, section 10.2). -/
def portConfigOf (r : ReqRecord) : PortConfig :=
  { speedMask := (recOctet r 4).setWidth 3
    tResp := (recOctet r 5).toNat
    gapLimit := (recOctet r 6).toNat
    missLimit := (recOctet r 7).toNat
    stalePolicy := stalePolicyOfCode (recOctet r 8)
    staleLimit := (recOctet r 9).toNat
    autoRecovery := recOctet r 10 == 1
    attempts := (recOctet r 11).toNat
    backoff := (recOctet r 12).toNat
    blankTime := blankOfCode (recOctet r 13)
    retryLimit := (recOctet r 14).toNat
    busyLimit := (recOctet r 15).toNat
    outImage := recWord r 16
    inImage := recWord r 20 }

/-- The range checks of PORT_CONFIG (R133). -/
def portConfigInRange (r : ReqRecord) : Bool :=
  (recOctet r 4).toNat % 8 != 0 && inRange (recOctet r 5).toNat 6 60 && inRange (recOctet r 6).toNat 0 6 &&
  inRange (recOctet r 7).toNat 1 15 && inRange (recOctet r 8).toNat 0 2 && inRange (recOctet r 9).toNat 1 255 &&
  inRange (recOctet r 10).toNat 0 1 && inRange (recOctet r 11).toNat 1 7 && inRange (recOctet r 12).toNat 1 255 &&
  inRange (recOctet r 13).toNat 0 3 && inRange (recOctet r 14).toNat 0 3 && inRange (recOctet r 15).toNat 1 255 &&
  imageAddrOk (recWord r 16) 39 && imageAddrOk (recWord r 20) 79

def checkPortConfig (r : ReqRecord) : Option Status :=
  firstFailure
    [(reservedClear ((List.range 20).map (· + 4)) r && (recOctet r 4).toNat < 8, .badRequest),
     (portNamed r, .badPort), (portConfigInRange r, .badParameter)]

/-- The group octet of a CYCLE_START: a group, or none for FFh (section 10.2). -/
def cycleGroup (r : ReqRecord) : Option GroupId :=
  if recOctet r 4 == 0xFF#8 then none else some ⟨(recOctet r 4).toNat % 4, Nat.mod_lt _ (by decide)⟩

def cycleDivisor (r : ReqRecord) : Nat := (recOctet r 5).toNat

def cyclePhase (r : ReqRecord) : Nat := (recWord r 8).toNat

def cycleFreePeriod (r : ReqRecord) : Nat := (recWord r 12).toNat

/-- The legal periods of a group and of a free port (R63, R70). -/
def periodOk (n : Nat) : Bool := inRange n 250 1000000

def checkCycleStart (r : ReqRecord) : Option Status :=
  firstFailure
    [(reservedClear [4, 5, 8, 9, 10, 11, 12, 13, 14, 15] r, .badRequest),
     (portNamed r && (recOctet r 4 == 0xFF#8 || (recOctet r 4).toNat < 4), .badPort),
     (if recOctet r 4 == 0xFF#8 then periodOk (cycleFreePeriod r) else inRange (cycleDivisor r) 1 16, .badParameter)]

def groupPeriodOf (r : ReqRecord) : Nat := (recWord r 4).toNat

def groupSourceOf (r : ReqRecord) : Source := if recOctet r 8 == 1 then .line else .host

def checkGroupConfig (r : ReqRecord) : Option Status :=
  firstFailure
    [(reservedClear [4, 5, 6, 7, 8] r, .badRequest), (r.target.toNat < 4, .badPort),
     (periodOk (groupPeriodOf r) && inRange (recOctet r 8).toNat 0 1, .badParameter)]

/-- The mask of a SYNC_FIRE names group `g` (section 10.2). -/
def maskNames (r : ReqRecord) (g : GroupId) : Bool := r.target.getLsbD g.val

def checkSyncFire (r : ReqRecord) : Option Status :=
  firstFailure
    [(reservedClear [] r && r.target.toNat < 16, .badRequest), (r.target != 0, .badParameter)]

def paramIndex (r : ReqRecord) : Half := recHalf r 4

/-- The length of a PARAM_WRITE, the maximum length of a PARAM_READ. -/
def paramLength (r : ReqRecord) : Nat := (recHalf r 6).toNat

def paramBuffer (r : ReqRecord) : Word := recWord r 8

/-- PARAM_READ and PARAM_WRITE (R133). -/
def checkParam (r : ReqRecord) : Option Status :=
  firstFailure
    [(reservedClear [4, 5, 6, 7, 8, 9, 10, 11] r, .badRequest), (portNamed r, .badPort),
     (inRange (paramLength r) 1 4096 && paramBuffer r != 0 &&
        (paramBuffer r).toNat + paramLength r - 1 < 2 ^ 32, .badParameter)]

/-- The port field of an ABORT that stands for ALL (section 10.2). -/
def abortAll : Byte := 0xFF#8

def abortTag (r : ReqRecord) : Half := recHalf r 4

def checkAbort (r : ReqRecord) : Option Status :=
  firstFailure [(reservedClear [4, 5] r, .badRequest), (portNamed r || r.target == abortAll, .badPort)]

def queryBuffer (r : ReqRecord) : Word := recWord r 4

def checkPortQuery (r : ReqRecord) : Option Status :=
  firstFailure
    [(reservedClear [4, 5, 6, 7] r, .badRequest), (portNamed r, .badPort),
     (queryBuffer r != 0 && (queryBuffer r).toNat % 8 == 0 && (queryBuffer r).toNat + 63 < 2 ^ 32, .badParameter)]

/-! ### The setup block (section 10.4, R159) -/

/-- The reserved octets of the setup block are 0. -/
def setupReservedClear (d : ReadData) : Bool :=
  ((List.range 32).filter fun i => inRange i 5 7 || inRange i 18 31).all fun i => octetAt d i == 0

/-- The ring base of the setup block is usable: non-zero, aligned, and its ring ends by FFFFFFFFh. -/
def ringOk (base align entry k : Nat) : Bool :=
  base != 0 && base % align == 0 && base + entry * 2 ^ k ≤ 2 ^ 32

/-- The setup block, or none where a field is illegal (R159; every failure has the one cause BAD_SETUP). -/
def setupOf (d : ReadData) : Option Setup :=
  let reqBase : Word := d.extractLsb' 0 32
  let reqK := (octetAt d 4).toNat
  let cplBase : Word := d.extractLsb' 64 32
  let cplK := (octetAt d 12).toNat
  let threshold := (octetAt d 13).toNat
  let out := octetAt d 16
  let edge := octetAt d 17
  if setupReservedClear d && inRange reqK 3 12 && ringOk reqBase.toNat 32 32 reqK && inRange cplK 4 12 &&
      ringOk cplBase.toNat 16 16 cplK && inRange threshold 1 255 && (out.toNat < 4 || out == 0xFF#8) &&
      edge.toNat < 2 then
    some { reqBase, reqK, cplBase, cplK, threshold, holdoff := (d.extractLsb' 112 16 : Half).toNat
           syncOut := if out == 0xFF#8 then none else some ⟨out.toNat % 4, Nat.mod_lt _ (by decide)⟩
           fallingEdge := edge == 1 }
  else none

def Setup.reqSize (u : Setup) : Nat := 2 ^ u.reqK

def Setup.cplSize (u : Setup) : Nat := 2 ^ u.cplK

/-! ### The station descriptor -/

/-- The descriptor in the eight octets of an IDENTIFY reply (section 10.7). -/
def descriptorOf (l : List Byte) : Descriptor :=
  { stationClass := l.getD 0 0, revision := l.getD 1 0, minPeriod := l.getD 2 0, outLen := l.getD 3 0
    inLen := l.getD 4 0, segCode := l.getD 5 0, stationId := l.getD 7 0 ++ l.getD 6 0 }

/-- The eight octets of a descriptor, in line order (section 10.7). -/
def descriptorOctets (d : Descriptor) : List Byte :=
  [d.stationClass, d.revision, d.minPeriod, d.outLen, d.inLen, d.segCode, d.stationId.setWidth 8,
   d.stationId.extractLsb' 8 8]

/-- The segment size S of a descriptor: 8, 16 or 32 (R47). -/
def segSize (d : Descriptor) : Nat := 8 * 2 ^ d.segCode.toNat

/-- The failure reason of a descriptor, none for a valid one: 2 BAD_REVISION, 3 BAD_DESCRIPTOR (R48). -/
def descriptorFailure (d : Descriptor) : Option Nat :=
  if d.revision != 1 then some 2
  else if d.minPeriod == 0 || d.outLen.toNat > 32 || d.inLen.toNat > 32 || d.segCode.toNat > 2 then some 3
  else none

end Sys2Proof.Machine
end

