-- ==== Sys2Proof/Decode.lean ====
section
/-! DEFINITION. The table's words, of which there are none, and the request records of section 10.2: the row a record
spells, and the record of a row. -/

namespace Sys2Proof

/-- The command that a word spells by the table's bits. No row of this block has bits: a command comes from the bus, the
lines, the pins or a timer, so no word spells one. -/
def decodeTableWord (_nbits _w : Nat) : Option Instr := none

/-- The octets of a record after its kind (section 10.2). -/
def recordBody (d : BitVec 256) : ReqRecord :=
  { target := Machine.octetAt d 1, tag := d.extractLsb' 16 16, fields := d.extractLsb' 32 224 }

/-- The row that takes a fetched record of kind `k`; `late` tells when a routed request reaches its target (R127, R132, R134,
section 10.2). -/
def rowOfKind (k : Byte) (late : Bool) (r : ReqRecord) : Instr :=
  match k.toNat with
  | 0x01 => .nop r
  | 0x02 => .portConfig ⟨r, late⟩
  | 0x03 => .portEnable ⟨r, late⟩
  | 0x04 => .portDisable ⟨r, late⟩
  | 0x05 => .bringUp ⟨r, late⟩
  | 0x06 => .cycleStart ⟨r, late⟩
  | 0x07 => .cycleStop ⟨r, late⟩
  | 0x08 => .groupConfig ⟨r, late⟩
  | 0x09 => .syncFire ⟨r, late⟩
  | 0x0A => .paramRead ⟨r, late⟩
  | 0x0B => .paramWrite ⟨r, late⟩
  | 0x0C => .abort ⟨r, late⟩
  | 0x0D => .portQuery ⟨r, late⟩
  | _ => .unknownRequestKind k r

/-- The row that takes the record a request fetch brought in, octet i of the record in bits 8i to 8i + 7. -/
def decodeRecord (late : Bool) (d : BitVec 256) : Instr := rowOfKind (Machine.octetAt d 0) late (recordBody d)

/-- The kind octet and the rest of the record that a row takes; none for a row that takes no record. -/
def recordOf (i : Instr) : Option (Byte × ReqRecord) :=
  match i with
  | .nop r => some (Machine.kindNop, r)
  | .portConfig q => some (Machine.kindPortConfig, q.record)
  | .portEnable q => some (Machine.kindPortEnable, q.record)
  | .portDisable q => some (Machine.kindPortDisable, q.record)
  | .bringUp q => some (Machine.kindBringUp, q.record)
  | .cycleStart q => some (Machine.kindCycleStart, q.record)
  | .cycleStop q => some (Machine.kindCycleStop, q.record)
  | .groupConfig q => some (Machine.kindGroupConfig, q.record)
  | .syncFire q => some (Machine.kindSyncFire, q.record)
  | .paramRead q => some (Machine.kindParamRead, q.record)
  | .paramWrite q => some (Machine.kindParamWrite, q.record)
  | .abort q => some (Machine.kindAbort, q.record)
  | .portQuery q => some (Machine.kindPortQuery, q.record)
  | .unknownRequestKind k r => some (k, r)
  | .reqBusError | .fetch | .bmuGrant | .completionWriteClaim | .recordWriteEnd _ | .holdoffExpiry | .reqTail _
  | .cplHead _ | .enable _ | .softReset _ | .softResetEnd | .intEnable _ | .registerWrite _ _ _ | .powerOnReset
  | .resetNDeasserted | .setupReadEnd _ | .syncIn _ | .beat _ | .syncOutPulseEnd | .samplingInstant _
  | .samplingReadEnd _ | .startInstant _ | .inputImageWriteEnd _ | .idleCheck _ | .collision _ _ | .masterFrameEnd _
  | .noReply _ _ | .gap _ _ | .stationReply _ _ _ | .guardEnd _ | .wakeDominantEnd _ | .quietTimeEnd _ | .lineStuck _
  | .fltNAsserted _ | .fltNDeasserted _ | .overcurrent _ | .attempt _ | .backoffExpiry _ | .activation _
  | .segmentHandOver _ | .svcAbandon _ | .transferFetchEnd _ | .transferStoreEnd _ | .portReportWriteEnd _
  | .replyStartEdge _ _ | .rxdLevelChange _ _ => none

/-- The 32 octets of a record of kind `k` (section 10.2). -/
def packRecord (k : Byte) (r : ReqRecord) : BitVec 256 :=
  ((r.fields ++ r.tag) ++ r.target) ++ k

/-- The 32 octets of the record that a row takes. -/
def encodeRecord (i : Instr) : Option (BitVec 256) := (recordOf i).map fun x => packRecord x.1 x.2

end Sys2Proof
end

