-- ==== Sys2Proof/Machine/Flags.lean ====
section
/-! DEFINITION. Every code and flag octet the part writes, sends or shows: the codes of chapter 10, the CTL and STS octets,
completion and event records, image headers, the port report, the registers. -/

namespace Sys2Proof.Machine

/-! ### Codes (section 10.3) -/

def Status.code : Status → Byte
  | .ok => 0 | .badRequest => 1 | .badPort => 2 | .badParameter => 3 | .badPortState => 4 | .busy => 5
  | .queueFull => 6 | .badPeriod => 7 | .aborted => 8 | .cancelled => 9 | .portDisabled => 10 | .portFault => 11
  | .noLink => 12 | .linkLost => 13 | .bringupFailed => 14 | .linkError => 15 | .stationError => 16
  | .stationBusy => 17 | .windowTooSmall => 18 | .bufferFault => 19 | .tooLong => 20

def EventKind.code : EventKind → Byte
  | .linkLost => 1 | .linkRestored => 2 | .linkDown => 3 | .stationAttention => 4 | .cycleSlip => 5
  | .outputStale => 6 | .portFault => 7 | .imageFault => 8

def Cause.code : Cause → Byte
  | .collision => 1 | .noReply => 2 | .framing => 3 | .gap => 4 | .length => 5 | .crc => 6 | .toggle => 7

def StaleCause.code : StaleCause → Byte
  | .torn => 1 | .late => 2 | .unchanged => 3

def FaultCause.code : FaultCause → Byte
  | .overcurrent => 1 | .lineStuck => 2

def Speed.code : Speed → Byte
  | .l1 => 1 | .l2 => 2 | .l3 => 3

def PortState.code : PortState → Byte
  | .disabled => 0 | .idle => 1 | .bringup => 2 | .ready => 3 | .armed => 4 | .cyclic => 5 | .recovery => 6 | .fault => 7

def ControlKind.code : ControlKind → Byte
  | .bringUp => kindBringUp | .cycleStart => kindCycleStart | .cycleStop => kindCycleStop

def Transfer.kindCode (t : Transfer) : Byte := if t.write then kindParamWrite else kindParamRead

def PartState.code : PartState → Word
  | .off => 0 | .starting => 1 | .running => 2 | .paused => 3 | .halted => 4 | .resetting => 5

def HaltCause.code : HaltCause → Word
  | .badSetup => 1 | .setupBusError => 2 | .reqBusError => 3 | .cplBusError => 4 | .badTail => 5 | .badHead => 6

def FrameKind.code : FrameKind → Byte
  | .cyclic => 0 | .identify => 1 | .svcWrite => 2 | .svcRead => 3 | .svcAbandon => 4

def AbandonCause.status : AbandonCause → Status
  | .aborted => .aborted | .tooLong => .tooLong | .linkError => .linkError | .bufferFault => .bufferFault

def flagBit (b : Bool) (n : Nat) : Byte := if b then 1#8 <<< n else 0

/-! ### The line (R5, R6, section 10.7) -/

def FrameKind.service : FrameKind → Bool
  | .svcWrite | .svcRead | .svcAbandon => true
  | .cyclic | .identify => false

/-- The kinds whose TOGGLE is sent and compared (R5, R9). -/
def FrameKind.toggles : FrameKind → Bool
  | .svcWrite | .svcRead => true
  | .cyclic | .identify | .svcAbandon => false

/-- The CTL octet: a flag the kind does not serve is sent clear (R5). -/
def ctlOctet (f : Frame) : Byte :=
  f.kind.code ||| flagBit (f.toggle && f.kind.toggles) 3 ||| flagBit (f.first && f.kind.toggles) 4 |||
  flagBit (f.last && f.kind == .svcWrite) 5 ||| flagBit (f.stale && f.kind == .cyclic) 6

/-- The octets of a master frame: CTL, payload, CRC (R5, R8). -/
def frameOctets (f : Frame) : List Byte :=
  let covered := ctlOctet f :: f.payload
  covered ++ [crc covered]

/-- The line levels of a master frame, one a bit time, recessive as true (R3). -/
def frameBits (f : Frame) : List Bool := (frameOctets f).flatMap charBits

/-- Reply codes; a code that names none reads as ERROR (R6). -/
inductive ReplyCode where
  | ok | busy | error
  deriving DecidableEq, Repr

def replyCode (sts : Byte) : ReplyCode :=
  if sts.toNat % 4 = 0 then .ok else if sts.toNat % 4 = 1 then .busy else .error

def stsToggle (sts : Byte) : Bool := sts.getLsbD 2

def stsLast (sts : Byte) : Bool := sts.getLsbD 3

def stsAttention (sts : Byte) : Bool := sts.getLsbD 4

/-! ### Records (R144, R145, section 10.3) -/

/-- A REQUEST_DONE record. -/
def doneRecord (c : Completion) (phase : Bool) (timestamp : Word) (head : Nat) : List Byte :=
  [1#8 ||| flagBit phase 7, c.kind] ++ octets 2 c.tag ++ octets 4 c.result ++ octets 4 timestamp ++
  octets 2 (BitVec.ofNat 16 head) ++ [c.status.code, c.target]

/-- An EVENT record. -/
def eventRecord (e : Event) (phase : Bool) (head : Nat) : List Byte :=
  [2#8 ||| flagBit phase 7, e.kind.code] ++ octets 2 (BitVec.ofNat 16 e.count) ++ octets 4 e.detail ++
  octets 4 e.first ++ octets 2 (BitVec.ofNat 16 head) ++ [BitVec.ofNat 8 e.port.val, 0]

/-- The result of a BRING_UP that completes OK (section 10.3). -/
def bringUpResult (l : Link) : Word :=
  l.desc.stationId.setWidth 32 ||| (l.desc.outLen.setWidth 32 <<< 16) ||| (l.desc.inLen.setWidth 32 <<< 22) |||
  (l.desc.segCode.setWidth 32 <<< 28) ||| (l.speed.code.setWidth 32 <<< 30)

/-- The detail of LINK_RESTORED (section 10.3). -/
def restoredDetail (changed resumed : Bool) : Word :=
  (flagBit changed 0 ||| flagBit resumed 1).setWidth 32

/-- The header of an input slot (R93, section 10.5). -/
def inputHeader (gen : Half) (len : Nat) (stale attention : Bool) (start cycles : Word) : List Byte :=
  octets 2 gen ++ [BitVec.ofNat 8 len ||| flagBit stale 6 ||| flagBit attention 7] ++ octets 3 start ++ octets 2 cycles

/-! ### The port report (R40, section 10.6) -/

/-- The group octet, divisor octet and phase of a port's membership. -/
def membershipOctets : Option Sched → Byte × Byte × Word
  | some { kind := .grouped g d ph, .. } => (BitVec.ofNat 8 g.val, BitVec.ofNat 8 d, BitVec.ofNat 32 ph)
  | _ => (0xFF#8, 0, 0)

/-- The 64 octets of a port report: `now` is the timebase, `rxdRecessive` the level on RXD. -/
def portReport (p : Port) (now : Word) (rxdRecessive : Bool) : List Byte :=
  let c := p.counters
  let m := membershipOctets p.sched
  let next := p.sched.bind (·.next)
  octets 4 now ++
  [p.state.code, (p.faultCause.map (·.code)).getD 0, (p.link.map (·.speed.code)).getD 0, flagBit p.link.isSome 0] ++
  ((p.link.map fun l => descriptorOctets l.desc).getD (List.replicate 8 0)) ++
  [(p.slot.map (·.1.code)).getD 0, BitVec.ofNat 8 p.queue.length, (p.te.transfer.map (·.kindCode)).getD 0,
   flagBit p.resume 0 ||| flagBit p.stopPending 1 ||| flagBit c.attention 2 ||| flagBit p.flt 3 |||
   flagBit rxdRecessive 4 ||| flagBit p.cyc.lastGen.isSome 5 ||| flagBit p.sched.isSome 6 ||| flagBit next.isSome 7] ++
  octets 2 ((p.te.transfer.map (·.tag)).getD 0) ++ [m.1, m.2.1] ++
  octets 4 (BitVec.ofNat 32 ((p.sched.map (·.period)).getD 0)) ++ octets 4 m.2.2 ++ octets 4 (next.getD 0) ++
  octets 2 (p.cyc.lastGen.getD 0) ++ octets 2 p.cyc.inputGen ++
  [BitVec.ofNat 8 c.misses, BitVec.ofNat 8 c.stales, (c.lastFailure.map (·.code)).getD 0, 0] ++
  octets 4 c.cyclesStarted ++ octets 4 c.failed ++ octets 4 c.slips ++ octets 4 c.staleCycles ++ octets 4 (0 : Word)

/-! ### Registers (R155, section 10.8) -/

/-- CTRL as read: SOFT_RESET reads clear. -/
def ctrlWord (s : State) : Word := (if s.ctrlEnable then 1 else 0) ||| (if s.intEnable then 4 else 0)

/-- STATUS. -/
def statusWord (s : State) : Word := s.part.code ||| (((s.haltCause.map (·.code)).getD 0) <<< 8)

/-- The 32-bit register at a word offset of the window; 0 where none is (R154). -/
def registerWord (s : State) (offset : Nat) : Word :=
  if offset = 0x00 then Config.idWord
  else if offset = 0x04 then ctrlWord s
  else if offset = 0x08 then statusWord s
  else if offset = 0x0C then s.setupAddr
  else if offset = 0x10 then s.reqTailReg
  else if offset = 0x14 then BitVec.ofNat 32 (s.head % 4096)
  else if offset = 0x18 then s.cplHeadReg
  else 0

def widthOctets : AccessWidth → Nat
  | .w8 => 1 | .w16 => 2 | .w32 => 4

/-- What a slave read returns: the octets it covers, 0 outside the registers and while RESET_N is asserted (R154). A read
has no effect on the part, and no row. A wide read at an offset that is not a multiple of its width returns the octets it
covers of both registers (DESIGN CHOICE, log entry 38). -/
def readWindow (s : State) (offset : Nat) (width : AccessWidth) : Word :=
  if s.resetAsserted then 0
  else (List.range (widthOctets width)).foldl
    (fun acc i => acc ||| ((octetAt (registerWord s ((offset + i) / 4 * 4)) ((offset + i) % 4)).setWidth 32 <<< (8 * i))) 0

/-- The INT output (R152). -/
def intPin (s : State) : Bool := s.cpl.condition && s.intEnable

end Sys2Proof.Machine
end

