-- ==== Sys2Proof/Machine/Ops.lean ====
section
/-! DEFINITION. The named operations every command is built from: parts of the state, time, the Outstanding Request Table,
hand-overs to the Completion Writer, event posts, halts, the access in flight. -/

namespace Sys2Proof.Machine

/-! ### Parts of the state -/

def State.port (s : State) (p : PortId) : Port := s.ports[p.val]

def State.modPort (p : PortId) (f : Port → Port) (s : State) : State :=
  { s with ports := s.ports.set p.val (f s.ports[p.val]) }

def State.group (s : State) (g : GroupId) : Group := s.groups[g.val]

def State.modGroup (g : GroupId) (f : Group → Group) (s : State) : State :=
  { s with groups := s.groups.set g.val (f s.groups[g.val]) }

def State.modCpl (f : CompletionWriter → CompletionWriter) (s : State) : State := { s with cpl := f s.cpl }

def State.modBus (f : Bus → Bus) (s : State) : State := { s with bus := f s.bus }

def State.modLf (p : PortId) (f : Framer → Framer) (s : State) : State :=
  s.modPort p fun x => { x with lf := f x.lf }

def State.modSeq (p : PortId) (f : Sequencer → Sequencer) (s : State) : State :=
  s.modPort p fun x => { x with seq := f x.seq }

def State.modCyc (p : PortId) (f : CycleEngine → CycleEngine) (s : State) : State :=
  s.modPort p fun x => { x with cyc := f x.cyc }

def State.modTe (p : PortId) (f : TransferEngine → TransferEngine) (s : State) : State :=
  s.modPort p fun x => { x with te := f x.te }

def State.modCounters (p : PortId) (f : Counters → Counters) (s : State) : State :=
  s.modPort p fun x => { x with counters := f x.counters }

def State.setPortState (p : PortId) (st : PortState) (s : State) : State :=
  s.modPort p fun x => { x with state := st }

/-- Every port, in number order. -/
def allPorts : List PortId := List.finRange 8

def allGroups : List GroupId := List.finRange 4

/-! ### Time -/

/-- Microseconds since the timebase started. -/
def State.micros (s : State) : Nat := s.time / Config.unitsPerUs

/-- The 32-bit timebase (R61). -/
def State.timebase (s : State) : Word := BitVec.ofNat 32 s.micros

/-- `b` is not earlier than `a` (R62). -/
def notEarlier (a b : Word) : Bool := (b - a).toNat < 2 ^ 31

/-- The time at which the timebase takes the value `w` nearest to now (R62). -/
def State.timeOf (s : State) (w : Word) : Nat :=
  let d := (w - s.timebase).toNat
  (if d < 2 ^ 31 then s.micros + d else s.micros + d - 2 ^ 32) * Config.unitsPerUs

def usUnits (us : Nat) : Nat := us * Config.unitsPerUs

/-- The bit time in 1/32 µs (R2). -/
def Speed.tb : Speed → Nat
  | .l1 => 1600 | .l2 => 200 | .l3 => 50

/-! ### The Outstanding Request Table (R130) -/

def State.ortFind (s : State) (id : Nat) : Option OrtEntry := s.ort.find? fun e => e.id = id

def State.setOrt (id : Nat) (f : OrtEntry → OrtEntry) (s : State) : State :=
  { s with ort := s.ort.map fun e => if e.id = id then f e else e }

/-- A change of where a request is held; an entry that is DONE stays so (R131). -/
def State.setOrtState (id : Nat) (st : OrtState) (s : State) : State :=
  s.setOrt id fun e => if e.st = .done then e else { e with st := st }

/-- The lowest place of the table that is not in use. -/
def State.freeId (s : State) : Nat :=
  ((List.range Config.ortSize).find? fun i => s.ort.all fun e => e.id ≠ i).getD 0

/-- A fetch reserves a slot and allocates an entry in FETCHING, together (R126, R130). -/
def State.allocate (s : State) : State :=
  { s with
    ort := s.ort ++ [{ id := s.freeId, tag := 0, kind := 0, target := 0, st := .fetching, matched := 0, awaited := [] }]
    cpl := { s.cpl with reserved := s.cpl.reserved + 1 } }

/-- The first entry that meets `q` is freed and gives up its reservation, together (R130). -/
def State.freeEntry (q : OrtEntry → Bool) (s : State) : State :=
  if s.ort.any q then
    { s with ort := s.ort.eraseP q, cpl := { s.cpl with reserved := s.cpl.reserved - 1 } }
  else s

/-- A fetch is withdrawn or dropped: its entry and its reservation go (R129). -/
def State.dropFetch (s : State) : State := s.freeEntry fun e => e.st = .fetching

/-! ### Hand-over to the Completion Writer (R131, R139, R148) -/

/-- A request is handed to the Completion Writer and its entry becomes DONE; an entry already DONE is not handed again
(R131, R148). -/
def State.complete (id : Nat) (st : Status) (result : Word) (s : State) : State :=
  match s.ortFind id with
  | none => s
  | some e =>
    if e.st = .done then s
    else
      { s.setOrtState id .done with
        cpl := { s.cpl with
          done := s.cpl.done ++ [{ ort := id, tag := e.tag, kind := e.kind, target := e.target, status := st,
                                   result := result, arrival := s.arrivals }] }
        arrivals := s.arrivals + 1 }

/-- The ABORT entries for which the hand-over of `id` is the last of their matches (R139), in the order of the table, in which
they were taken: where there are several, the spec does not order them (DESIGN CHOICE, log entry 36). -/
def State.settledBy (s : State) (id : Nat) : List OrtEntry :=
  s.ort.filter fun e => e.st = .waiting && e.awaited.contains id && (e.awaited.filter (· ≠ id)).isEmpty

/-- A request is handed over: each ABORT that matched it counts it, and one whose count reaches 0 is handed with the
number it matched (R139). The ABORT follows its last match at once, ahead of what the same event hands over next, a
PORT_DISABLE that ended the match among it: the spec leaves that order open (DESIGN CHOICE, log entry 35). -/
def State.handOver (id : Nat) (st : Status) (result : Word) (s : State) : State :=
  let settled := s.settledBy id
  let s := s.complete id st result
  let s := { s with ort := s.ort.map fun e => { e with awaited := e.awaited.filter (· ≠ id) } }
  settled.foldl (fun s e => s.complete e.id .ok (BitVec.ofNat 32 e.matched)) s

/-- Several requests are handed over with one status and result 0, in order. -/
def State.handAll (ids : List Nat) (st : Status) (s : State) : State :=
  ids.foldl (fun s id => s.handOver id st 0) s

/-! ### Events (R150) -/

/-- A further occurrence of a pending event: the count and, for CYCLE_SLIP, the detail grow (R150). -/
def Event.again (e : Event) (detail : Word) : Event :=
  { e with
    count := if e.count < 65535 then e.count + 1 else e.count
    detail := if e.kind = .cycleSlip then satAdd e.detail detail else e.detail }

/-- A post to the Event Pending List (R150). -/
def State.post (p : PortId) (k : EventKind) (detail : Word) (s : State) : State :=
  if s.cpl.events.any fun e => e.port = p ∧ e.kind = k then
    s.modCpl fun c => { c with
      events := c.events.map fun e => if e.port = p ∧ e.kind = k then e.again detail else e }
  else
    { s with
      cpl := { s.cpl with
        events := s.cpl.events ++
          [{ port := p, kind := k, count := 1, detail := detail, first := s.timebase, arrival := s.arrivals }] }
      arrivals := s.arrivals + 1 }

/-! ### Part state (R157, R161) -/

/-- The Dispatcher withdraws a fetch claim not yet granted (R129). -/
def State.withdrawFetch (s : State) : State :=
  if s.bus.fetchClaim then (s.modBus fun b => { b with fetchClaim := false }).dropFetch else s

/-- Entry to HALTED: the cause is shown, and the claims of the Dispatcher and the Completion Writer not yet granted are
withdrawn (R129, R142, R161). -/
def State.halt (c : HaltCause) (s : State) : State :=
  ({ s with part := .halted, haltCause := some c }.withdrawFetch).modBus fun b => { b with recordClaim := none }

def State.runningOrPaused (s : State) : Bool := s.part = .running || s.part = .paused

/-! ### The access in flight (R164, R165) -/

def State.endFlight (s : State) : State := s.modBus fun b => { b with flight := none }

def Access.imagePort : Access → Option PortId
  | .sampleRead p _ _ _ | .imageWrite p _ _ _ => some p
  | _ => none

def Access.transferPort : Access → Option PortId
  | .transferFetch p _ _ | .transferStore p _ _ => some p
  | _ => none

def Access.reportPort : Access → Option PortId
  | .reportWrite p _ _ _ => some p
  | _ => none

/-- The access in flight belongs to a live engine of port `p`, of the sort `of` tells. -/
def State.flightOf (s : State) (of : Access → Option PortId) (p : PortId) : Bool :=
  match s.bus.flight with
  | some f => f.live && of f.access == some p
  | none => false

/-- The access in flight, if it is of this sort and port, no longer concerns its engine (R30, R121). -/
def State.disown (of : Access → Option PortId) (p : PortId) (s : State) : State :=
  s.modBus fun b => { b with
    flight := b.flight.map fun f => if of f.access = some p then { f with live := false } else f }

/-- The data of a sampling read of port `p` in flight are no longer wanted (R84, R87). -/
def State.unwantSample (p : PortId) (s : State) : State :=
  s.modBus fun b => { b with
    flight := b.flight.map fun f => match f.access with
      | .sampleRead q _ _ _ => if q = p then { f with wanted := false } else f
      | _ => f }

/-- Store an answer of a command whose own condition fails: it has no effect (log entry 3). -/
def onlyIf (c : Bool) (act : State → State) (s : State) : Result := .next (if c then act s else s)

end Sys2Proof.Machine
end

