-- ==== Sys2Proof/Machine/Window.lean ====
section
/-! DEFINITION. Exchange windows (R19), the line-free bound (R71) and start instants (R70, R72, R73). -/

namespace Sys2Proof.Machine

/-! ### Exchange windows (R19) -/

/-- The exchange window in bit times. -/
def windowTb (tResp gapLimit m n : Nat) : Nat := 10 * m + tResp + 10 * n + gapLimit * (n - 1) + Config.guardTb

/-- The exchange window in microseconds, rounded up. -/
def windowUs (c : PortConfig) (sp : Speed) (m n : Nat) : Nat :=
  (windowTb c.tResp c.gapLimit m n * sp.tb + (Config.unitsPerUs - 1)) / Config.unitsPerUs

/-- Characters of a master frame (R7). -/
def Frame.chars (f : Frame) : Nat := f.payload.length + 2

/-- The largest reply the port accepts to a frame, in characters (R7, R19). -/
def Frame.maxReply (f : Frame) : Nat := if f.kind.service then 3 + f.seg else f.replyLen + 2

def Frame.windowUs (c : PortConfig) (f : Frame) : Nat := Machine.windowUs c f.speed f.chars f.maxReply

/-- W_cyc of a port with this link (R19, R80). -/
def wCyc (c : PortConfig) (l : Link) : Nat := windowUs c l.speed (l.desc.outLen.toNat + 2) (l.desc.inLen.toNat + 2)

/-- The window of a service exchange with `m` master characters on this link (R106). -/
def serviceWindow (c : PortConfig) (l : Link) (m : Nat) : Nat := windowUs c l.speed m (3 + segSize l.desc)

/-- The period test of CYCLE_START (R80). -/
def periodTest (c : PortConfig) (l : Link) (period : Nat) : Bool :=
  100 * l.desc.minPeriod.toNat ≤ period && wCyc c l ≤ period

/-- The fit test of a transfer under a schedule (R107). -/
def fitTest (c : PortConfig) (l : Link) (period : Nat) : Bool :=
  serviceWindow c l (2 + segSize l.desc) + wCyc c l ≤ period

/-- The window test at a hand-over (R106). -/
def windowTest (now next : Word) (w : Nat) : Bool := notEarlier (now + 1 + BitVec.ofNat 32 w) next

/-! ### The line-free bound (R71) -/

/-- The instant by which the exchanges committed to a port's line have ended (R71). The present instant is the exact 1/32 µs
(DEDUCED, log entry 40), and a delivered start that waits for its guard adds nothing (DEDUCED, log entry 41). -/
def State.lineFree (s : State) (p : PortId) : Nat :=
  let x := s.port p
  let ofHeld : Nat := match x.lf.held with
    | some (.frame f) => usUnits (f.windowUs x.config)
    | _ => 0
  let ofFlight : Nat := match x.lf.flight with
    | some e => e.start + usUnits (e.frame.windowUs x.config)
    | none => s.time
  match x.lf.state with
  | .sending | .awaiting | .receiving => ofFlight
  | .guard => ofFlight + ofHeld
  | .waiting => s.time + ofHeld
  | .off | .free | .waking => s.time

/-! ### Start instants -/

/-- The first microsecond that is not earlier than a bound. -/
def ceilUs (t : Nat) : Nat := (t + (Config.unitsPerUs - 1)) / Config.unitsPerUs

/-- The least index `i`, not below `lo`, of a beat counted from the next one, whose number is a multiple of `d` and whose
instant with the phase added is at least `x` µs after the next beat (R70). -/
def firstIndex (number period d phase : Nat) (x lo : Int) : Int :=
  let i := max lo (-((phase - x) / period))
  i + (-(number + i)) % d

/-- The first instant of a member's schedule not earlier than `bound`, and how many instants of a fresh schedule it
passes over; none while the group is UNFIRED (R70, R72, R75). -/
def State.firstStart (s : State) (g : GroupId) (d phase bound : Nat) : Option (Word × Nat) :=
  (s.group g).running.map fun b =>
    let nextUs : Int := (s.timeOf b.next / Config.unitsPerUs : Nat)
    let i := firstIndex (s.group g).beatNumber (s.group g).period d phase (ceilUs bound - nextUs)
      (if b.fresh then 0 else -1)
    (BitVec.ofInt 32 (nextUs + i * (s.group g).period + phase), (i / d).toNat)

/-- The timebase value of a free port's first start, whose bound may fall within a microsecond (R57, R73; log entry 10). -/
def freeStart (bound : Nat) : Word :=
  BitVec.ofNat 32
    (if bound % Config.unitsPerUs = 0 then bound / Config.unitsPerUs
     else if Config.startRoundsUp bound then ceilUs bound else bound / Config.unitsPerUs)

/-- The lower bound of a member's first start at a confirm, a fire or a re-fire: the later of the line-free bound and
64 µs from now (R69, R72, R75). -/
def State.startBound (s : State) (lineFree : Nat) : Nat := max lineFree (usUnits (s.micros + Config.samplingLead))

end Sys2Proof.Machine
end

