-- ==== Sys2Proof/Machine/PortOps.lean ====
section
/-! DEFINITION. The operations the engines of a port share: the Line Framer's hand-over, guard and cut, the schedule and the
sample, the active transfer, misses, the end of a link, the end of a port's requests. -/

namespace Sys2Proof.Machine

/-! ### The Line Framer (R10, R16, R17) -/

/-- The Line Framer takes a hand-over: it holds nothing and is in FREE or GUARD (R10, R23). -/
def Framer.canTake (f : Framer) : Bool := f.held.isNone && (f.state = .free || f.state = .guard)

/-- A frame or pulse is handed over: held through a guard, or to WAITING at once (R10, R11). -/
def State.handToLine (p : PortId) (h : Handed) (s : State) : State :=
  s.modLf p fun f =>
    if f.state = .guard then { f with held := some h }
    else { f with state := .waiting, held := some h, waitSince := s.time }

/-- The guard of an exchange at speed `sp` begins at `t` (R16). -/
def Framer.toGuard (f : Framer) (sp : Speed) (t : Nat) : Framer :=
  { f with state := .guard, txen := false, timer := some (t + Config.guardTb * sp.tb), rx := none, candidate := none }

/-- The cut: every timer stops, the frame or pulse is dropped, the Line Framer goes to OFF (R17). -/
def Framer.cut (_ : Framer) : Framer := Framer.reset

/-- The level on TXD, recessive as true (R1, R3, R18). -/
def State.txdLevel (s : State) (p : PortId) : Bool :=
  let f := (s.port p).lf
  if f.txen then
    match f.state, f.flight with
    | .sending, some e => (frameBits e.frame).getD ((s.time - e.start) / e.frame.speed.tb) true
    | .waking, _ => false
    | _, _ => true
  else true

/-- The level on RXD: the part's own while TXEN is asserted, else the line's (R1; log entry 12). -/
def State.rxdLevel (s : State) (p : PortId) : Bool :=
  if (s.port p).lf.txen then s.txdLevel p else (s.port p).rxd

/-- RXD is known to be at a level since `t` (R11). -/
def Framer.stretch (f : Framer) (recessive : Bool) (t : Nat) : Framer :=
  if recessive then { f with recessiveSince := some t, dominantSince := none }
  else { f with recessiveSince := none, dominantSince := some t }

/-! ### Candidate start edges (R4) -/

/-- Half a bit time of the exchange in flight: from a candidate edge to its sample (R4). -/
def Framer.halfTb (f : Framer) : Nat := ((f.flight.map (·.frame.speed.tb)).getD 0) / 2

/-- The candidate edge that awaits its sample; one whose sample has passed was a glitch (R4). -/
def Framer.pendingEdge (f : Framer) (now : Nat) : Option Nat := f.candidate.filter fun c => now ≤ c + f.halfTb

/-- The end of the reply character under way, 10 Tb after its start edge (R4). -/
def Framer.characterEnd (f : Framer) : Option Nat :=
  match f.rx, f.flight with
  | some { edge := some t, .. }, some e => some (t + 10 * e.frame.speed.tb)
  | _, _ => none

/-- The receiver looks for a candidate edge: T_resp or G runs, or the character under way ends now, and no earlier edge awaits its
sample (R4, R13, R14). -/
def Framer.looks (f : Framer) (now : Nat) : Bool :=
  (f.state = .awaiting || f.state = .receiving) && (f.timer.any (now ≤ ·) || f.characterEnd == some now) &&
    (f.pendingEdge now).isNone

/-- RXD has changed level, seen by the receiver: a stretch begins, and a dominant-going change is a candidate start edge where
the receiver looks for one (R4, R11). -/
def Framer.change (f : Framer) (recessive : Bool) (now : Nat) : Framer :=
  { f.stretch recessive now with candidate := if !recessive && f.looks now then some now else f.candidate }

/-- A level change on RXD has been told since `t` (R11; log entry 11). -/
def Framer.toldSince (f : Framer) (t : Nat) : Bool := f.recessiveSince.any (t < ·) || f.dominantSince.any (t < ·)

/-! ### Schedule and sample -/

/-- A group without a port's entry in its member list. -/
def Group.without (p : PortId) (g : Group) : Group := { g with members := g.members.filter fun m => m.port ≠ p }

/-- The port leaves its group, or its free schedule entry goes: period, membership and next start become absent (R22,
R70, R99). -/
def State.leave (p : PortId) (s : State) : State :=
  State.modPort p (fun x => { x with sched := none })
    { s with groups := s.groups.map (Group.without p) }

def ImageAccess.isWrite : ImageAccess → Bool
  | .write _ _ _ => true
  | .sample _ => false

/-- The sample is discarded: reads still waiting are withdrawn, one in flight ends with its data dropped (R87). -/
def State.discardSample (p : PortId) (s : State) : State :=
  (s.modCyc p fun c => { c with
    sample := .empty, list := c.list.filter (·.isWrite), admitted := false, startWait := none }).unwantSample p

/-- Steps 1 to 4 by which a schedule ends in READY (R97, R99). -/
def State.toReady (p : PortId) (s : State) : State :=
  ((s.leave p).discardSample p).modPort p fun x => { x with stopPending := false, state := .ready }

/-! ### The Bring-up Sequencer (R42) -/

/-- A sequence starts in LINE_WAIT (R43, R55). -/
def State.startSequence (p : PortId) (m : SeqMode) (s : State) : State :=
  s.modSeq p fun q => { q with phase := .lineWait, mode := m, ladder := [], attempts := 0, backoff := none,
                               stopRequested := false }

/-- A sequence ends (R42). -/
def State.stopSequence (p : PortId) (s : State) : State :=
  s.modSeq p fun q => { q with phase := .stopped, ladder := [], attempts := 0, backoff := none, stopRequested := false }

/-! ### The acyclic queue and the active transfer (R101, R116, R120) -/

def XClaim.isReport : XClaim → Bool
  | .report _ => true
  | .fetch _ _ | .store _ _ => false

/-- The Transfer Engine returns to NONE; the last toggle stays, and a claim not granted is withdrawn (R101). -/
def State.clearTransfer (p : PortId) (s : State) : State :=
  s.modPort p fun x => { x with
    te := { TransferEngine.reset with lastToggle := x.te.lastToggle }, xclaims := x.xclaims.filter (·.isReport) }

/-- The active transfer is handed to the Completion Writer and leaves the queue (R26, R101). -/
def State.endActive (p : PortId) (st : Status) (result : Word) (s : State) : State :=
  match (s.port p).te.transfer with
  | none => s
  | some t =>
    ((s.clearTransfer p).modPort p fun x => { x with queue := x.queue.filter fun u => u.ort ≠ t.ort }).handOver
      t.ort st result

/-- The active transfer has ended, but is handed only when what it waits for ends (R34, R43). -/
def State.deferActive (p : PortId) (e : Ending) (s : State) : State :=
  match (s.port p).te.transfer with
  | none => s
  | some t =>
    ((s.clearTransfer p).modPort p fun x => { x with
      queue := x.queue.map fun u => if u.ort = t.ort then { u with ending := some e } else u }).disown
      Access.transferPort p

/-- The active transfer returns to the head of the queue, not activated (R120). -/
def State.returnActive (p : PortId) (s : State) : State :=
  match (s.port p).te.transfer with
  | none => s
  | some t => ((s.clearTransfer p).setOrtState t.ort .queued).disown Access.transferPort p

/-- The active transfer is handed now, or when its access in flight ends (R34, R43). -/
def State.endTransfer (p : PortId) (st : Status) (result : Word) (s : State) : State :=
  if s.flightOf Access.transferPort p then s.deferActive p { status := st, result := result, onExchange := false }
  else s.endActive p st result

/-- The result with which an abandoned transfer is handed (R117). -/
def abandonResult (te : TransferEngine) (c : AbandonCause) : Word :=
  if c = .tooLong then BitVec.ofNat 32 te.octetsDone else 0

/-- The active transfer is handed with its abandon cause (R117). -/
def State.endAbandoned (p : PortId) (s : State) : State :=
  match (s.port p).te.cause with
  | none => s
  | some c => s.endActive p c.status (abandonResult (s.port p).te c)

/-- What the end of a link, or a BRING_UP in READY, does to the active transfer. One with an abandon cause is handed with that: at
a BRING_UP when its SVC_ABANDON exchange ends, or at once, its access being given up; at a link end when its access in flight
ends (DEDUCED, log entry 17). `toIdle` tells the one case in which a transfer not yet begun is not kept: back in the queue, it
waits for its fetch to end before it is handed with the queue (R34, R43, R120, R131). -/
def State.stopActive (p : PortId) (bringUp toIdle : Bool) (s : State) : State :=
  let te := (s.port p).te
  match te.cause with
  | some c =>
    if bringUp then
      if te.phase = .abandonExchange then
        s.deferActive p { status := c.status, result := abandonResult te c, onExchange := true }
      else (s.disown Access.transferPort p).endAbandoned p
    else s.endTransfer p c.status (abandonResult te c)
  | none =>
    if te.sent then s.endTransfer p .linkLost 0
    else if toIdle && s.flightOf Access.transferPort p then
      (((s.port p).te.transfer.map fun t => s.setOrtState t.ort .queued).getD s).deferActive p
        { status := .linkLost, result := 0, onExchange := false }
    else s.returnActive p

/-- Every queued transfer that has not been ended is handed, from head to tail (R34, R51, R52, R59). -/
def State.handQueue (p : PortId) (st : Status) (s : State) : State :=
  let ids := ((s.port p).queue.filter fun t => t.ending.isNone).map (·.ort)
  (s.modPort p fun x => { x with queue := x.queue.filter fun t => t.ending.isSome }).handAll ids st

/-- The transfers that waited for an access (or an exchange) are handed (R30, R34, R43). -/
def State.handEnded (p : PortId) (onExchange : Bool) (s : State) : State :=
  let due := fun (t : Transfer) => match t.ending with
    | some e => e.onExchange == onExchange
    | none => false
  let gone := (s.port p).queue.filter due
  gone.foldl (fun s t => match t.ending with
      | some e => s.handOver t.ort e.status e.result
      | none => s)
    (s.modPort p fun x => { x with queue := x.queue.filter fun t => !due t })

/-- The memory access that ended requests of the port waited for has ended: they are handed, and then each PORT_DISABLE
that waited for them, in order (R30, R31). -/
def State.accessEnded (p : PortId) (s : State) : State :=
  let s := s.handEnded p false
  let waits := (s.port p).disables
  waits.foldl (fun s w => s.handOver w.ort .ok (BitVec.ofNat 32 w.count))
    (s.modPort p fun x => { x with disables := [] })

/-! ### Misses and the end of a link (R32 to R34) -/

/-- The states that keep the consecutive miss count (R32). -/
def PortState.hasLink : PortState → Bool
  | .ready | .armed | .cyclic => true
  | .disabled | .idle | .bringup | .recovery | .fault => false

/-- An exchange was judged OK (R32). -/
def State.goodExchange (p : PortId) (s : State) : State :=
  if (s.port p).state.hasLink then s.modCounters p fun c => { c with misses := 0 } else s

/-- An exchange was judged failed, by whatever engine (R39). -/
def State.countFailure (p : PortId) (c : Cause) (s : State) : State :=
  s.modCounters p fun k => { k with failed := satAdd k.failed 1, lastFailure := some c }

/-- The occupant of the control slot is handed and the slot empties, with the stop-pending flag (R25). -/
def State.endSlot (p : PortId) (of : ControlKind → Status) (result : Word) (s : State) : State :=
  match (s.port p).slot with
  | none => s
  | some (k, id) =>
    (s.modPort p fun x => { x with slot := none, stopPending := false }).handOver id (of k) result

/-- The link of a port ends (R33, R34, R120). -/
def State.linkEnd (p : PortId) (c : Cause) (s : State) : State :=
  let x := s.port p
  let stopWaits := match x.slot with
    | some (.cycleStop, _) => true
    | _ => false
  let resume : Bool := x.state = .cyclic && !stopWaits && !x.cyc.faultPending
  let toIdle := !x.config.autoRecovery
  let s := s.modPort p fun x => { x with resume := resume, cyc := { x.cyc with faultPending := false } }
  let s := s.post p .linkLost (c.code.setWidth 32)
  let s := s.modCounters p fun k => { k with misses := 0 }
  let s := if toIdle then (s.setPortState p .idle).modPort p fun x => { x with link := none }
    else (s.setPortState p .recovery).startSequence p .recovery
  let s := s.discardSample p
  let s := if resume && !toIdle then s else s.leave p
  let s := s.endSlot p (fun k => if k = .cycleStop then .ok else .linkLost) 0
  let s := s.stopActive p false toIdle
  if toIdle then s.handQueue p .linkLost else s

/-- A failed exchange is a miss where the port keeps the count; the one that reaches the miss limit ends the link (R32). -/
def State.miss (p : PortId) (c : Cause) (s : State) : State :=
  if (s.port p).state.hasLink then
    if (s.port p).config.missLimit ≤ (s.port p).counters.misses + 1 then s.linkEnd p c
    else s.modCounters p fun k => { k with misses := k.misses + 1 }
  else s

/-- The next failed exchange of the port ends its link (R32). -/
def State.missEndsLink (s : State) (p : PortId) : Bool :=
  (s.port p).state.hasLink && (s.port p).config.missLimit ≤ (s.port p).counters.misses + 1

/-! ### The end of a port's requests (R30, R37) -/

/-- A transfer of the queue that cannot be handed before a memory access has ended (R30). One that has returned to the queue is not
active, and does not wait for the fetch of its former life (DEDUCED, log entry 26). -/
def State.awaitsAccess (s : State) (p : PortId) (t : Transfer) : Bool :=
  match t.ending with
  | some e => !e.onExchange
  | none => s.flightOf Access.transferPort p && (s.port p).te.transfer.map (·.ort) == some t.ort

/-- How many requests addressed to the port are outstanding (R30, R31). -/
def Port.outstanding (x : Port) : Nat :=
  (if x.slot.isSome then 1 else 0) + x.queue.length + x.queries.length + x.disables.length

/-- The requests of the port end with `st`: the slot, the queue from head to tail, the queries not yet granted. What
awaits a memory access stays, with the status it will be handed with; one that entry to FAULT has ended keeps its
status (R30, R37), and one that a PORT_DISABLE left waiting takes that of a later entry to FAULT (DEDUCED, log entry 18). A
PORT_DISABLE that waits itself goes on waiting, and is handed OK (DEDUCED, log entry 18). The port's engines no longer answer to
an access in flight. -/
def State.endRequests (p : PortId) (st : Status) (s : State) : State :=
  let x := s.port p
  let kept := (x.queue.filter (s.awaitsAccess p)).map fun t => { t with
    ending := match t.ending with
      | some e => if e.status = .portFault then some e else some { status := st, result := 0, onExchange := false }
      | none => some { status := st, result := 0, onExchange := false } }
  let gone := (x.queue.filter fun t => !s.awaitsAccess p t).map (·.ort)
  let claimed := x.xclaims.filterMap fun c => match c with
    | .report id => some id
    | .fetch _ _ | .store _ _ => none
  let slotId := (x.slot.map (·.2)).toList
  (((s.modPort p fun x => { x with
      slot := none, stopPending := false, queue := kept, xclaims := []
      queries := x.queries.filter fun q => !claimed.contains q.ort }).disown Access.transferPort p).disown
    Access.imagePort p).handAll (slotId ++ gone ++ claimed) st

/-- Entry to FAULT, from any state but DISABLED and FAULT (R37, R38). -/
def State.enterFault (p : PortId) (c : FaultCause) (s : State) : State :=
  if (s.port p).state = .disabled || (s.port p).state = .fault then s
  else
    let s := s.post p .portFault (c.code.setWidth 32)
    let s := s.leave p
    let s := s.endRequests p .portFault
    let s := s.stopSequence p
    s.modPort p fun x => { x with
      state := .fault, faultCause := some c, lf := x.lf.cut, blank := none, resume := false
      counters := { x.counters with misses := 0 }
      cyc := { x.cyc with sample := .empty, list := [], writing := 0, underWay := none, faultPending := false,
                          admitted := false, startWait := none }
      te := { TransferEngine.reset with lastToggle := x.te.lastToggle } }

/-! ### Attention (R94) -/

/-- The ATTENTION field of an OK reply; `detail` is 1 for a cyclic reply and 2 for a service reply (R94). -/
def State.attend (p : PortId) (attention : Bool) (detail : Word) (s : State) : State :=
  let seen := (s.port p).counters.attention
  let s := s.modCounters p fun c => { c with attention := attention }
  if attention && !seen then s.post p .stationAttention detail else s

end Sys2Proof.Machine
end

