-- ==== Sys2Proof/Machine/BringUpOps.lean ====
section
/-! DEFINITION. The Bring-up Sequencer: the ladder, the IDENTIFY outcomes, and how a bring-up or a recovery ends
(chapter 3). -/

namespace Sys2Proof.Machine

/-- What an engine is told of an exchange: the reply octets from STS to the last before the CRC, or the cause (R15). -/
inductive Outcome where
  | ok (reply : List Byte)
  | failed (c : Cause)
  deriving DecidableEq, Repr

/-- The speeds of a mask, fastest first (R44). -/
def maskLadder (m : BitVec 3) : List Speed :=
  (if m.getLsbD 2 then [.l3] else []) ++ (if m.getLsbD 1 then [.l2] else []) ++ (if m.getLsbD 0 then [.l1] else [])

/-- The ladder of an attempt (R44). -/
def State.buildLadder (s : State) (p : PortId) : List Speed :=
  match (s.port p).seq.mode with
  | .bringUp => maskLadder (s.port p).config.speedMask
  | .recovery => ((s.port p).link.map (·.speed)).toList

/-- The speed of the rung being tried (R44). -/
def Sequencer.rungSpeed (q : Sequencer) : Speed := q.ladder.getD (q.rung - 1) .l1

/-- The IDENTIFY frame at a speed (R46). -/
def identifyFrame (sp : Speed) : Frame :=
  { engine := .bringUp, kind := .identify, speed := sp, toggle := false, first := false, last := false, stale := false,
    payload := [], replyLen := 8, seg := 0 }

/-- The IDENTIFY of the present rung is handed to the Line Framer (R45, R46). -/
def State.handIdentify (p : PortId) (s : State) : State :=
  (s.handToLine p (.frame (identifyFrame (s.port p).seq.rungSpeed))).modSeq p fun q => { q with phase := .identify }

/-- An attempt begins (R45). -/
def State.beginAttempt (p : PortId) (s : State) : State :=
  let ladder := s.buildLadder p
  (s.modSeq p fun q => { q with attempts := q.attempts + 1, ladder := ladder, rung := 1, phase := .wake }).handToLine p
    (.pulse (ladder.getLastD .l1))

/-- The port enters IDLE without a link: a bring-up or a recovery has failed, or was aborted (R51, R52, R59). -/
def State.idleWithoutLink (p : PortId) (s : State) : State :=
  (s.modPort p fun x => { x with link := none, state := .idle, counters := { x.counters with misses := 0 } }).stopSequence p

/-- The sequencer stops for an abort of the BRING_UP (R52). -/
def State.abortSequence (p : PortId) (s : State) : State :=
  ((s.idleWithoutLink p).endSlot p (fun _ => .aborted) 0).handQueue p .noLink

/-- A sequence fails for a reason 1 to 3 of R48 (R51, R59). -/
def State.failSequence (p : PortId) (reason : Nat) (s : State) : State :=
  match (s.port p).seq.mode with
  | .bringUp =>
    ((s.idleWithoutLink p).endSlot p (fun _ => .bringupFailed) (BitVec.ofNat 32 reason)).handQueue p .noLink
  | .recovery =>
    let s := s.post p .linkDown (BitVec.ofNat 32 reason)
    let s := (s.leave p).modPort p fun x => { x with resume := false }
    (s.idleWithoutLink p).handQueue p .linkLost

/-- A descriptor read by a recovery counts as changed (R56). -/
def descriptorChanged (old new : Descriptor) (resume : Bool) (period : Nat) : Bool :=
  new.stationId != old.stationId || new.outLen != old.outLen || new.inLen != old.inLen ||
  (resume && period < 100 * new.minPeriod.toNat)

/-- The link is written, the miss count set to 0, the toggle of a new link to 1, and the sequencer stops (R50, R57, R58,
R104). -/
def State.linkMade (p : PortId) (l : Link) (st : PortState) (s : State) : State :=
  (s.modPort p fun x => { x with
    link := some l, state := st, counters := { x.counters with misses := 0 }, te := { x.te with lastToggle := true }
    }).stopSequence p

/-- The first start after a resumption, `e` being the end of the IDENTIFY's guard (R57). -/
def State.resumeStart (s : State) (e : Nat) (k : SchedKind) : Option Word :=
  match k with
  | .grouped g d phase => (s.firstStart g d phase (e + usUnits Config.samplingLead)).map (·.1)
  | .free => some (freeStart (e + usUnits 100))

/-- A valid descriptor ends a sequence in success at this instant (R50, R56, R57, R58). -/
def State.succeedSequence (p : PortId) (d : Descriptor) (s : State) : State :=
  let x := s.port p
  let l : Link := { desc := d, speed := x.seq.rungSpeed }
  match x.seq.mode with
  | .bringUp => (s.linkMade p l .ready).endSlot p (fun _ => .ok) (bringUpResult l)
  | .recovery =>
    let period := (x.sched.map (·.period)).getD 0
    let changed := match x.link with
      | some old => descriptorChanged old.desc d x.resume period
      | none => true
    if x.resume && !changed then
      let e := s.time + Config.guardTb * l.speed.tb
      let s := s.linkMade p l .armed
      let s := s.post p .linkRestored (restoredDetail false true)
      s.modPort p fun x => { x with
        sched := x.sched.map fun k => { k with next := s.resumeStart e k.kind, delivered := false } }
    else
      let s := s.linkMade p l .ready
      let s := s.post p .linkRestored (restoredDetail changed false)
      if x.resume then (s.leave p).modPort p fun x => { x with resume := false } else s

/-- The outcome of an IDENTIFY, counted already, reaches the sequencer (R46, R48, R49, R52). The backoff counts from the exact
1/32 µs of the failure (DEDUCED, log entry 39). -/
def State.identifyOutcome (p : PortId) (o : Outcome) (s : State) : State :=
  let q := (s.port p).seq
  if q.phase ≠ .identify then s
  else if q.stopRequested then s.abortSequence p
  else match o with
    | .ok reply =>
      let d := descriptorOf (reply.drop 1)
      match descriptorFailure d with
      | some reason => s.failSequence p reason
      | none => s.succeedSequence p d
    | .failed _ =>
      if q.rung < q.ladder.length then (s.modSeq p fun q => { q with rung := q.rung + 1 }).handIdentify p
      else if q.attempts < (s.port p).config.attempts then
        s.modSeq p fun q => { q with
          phase := .backoff
          backoff := some (s.time + usUnits (Config.backoffUnit * (s.port p).config.backoff)) }
      else s.failSequence p 1

/-- An abort of the BRING_UP reaches the sequencer (R52). -/
def State.abortBringUp (p : PortId) (s : State) : State :=
  let x := s.port p
  match x.seq.phase with
  | .backoff => s.abortSequence p
  | .lineWait => if x.lf.state = .free then s.abortSequence p
    else s.modSeq p fun q => { q with stopRequested := true }
  | .wake | .identify => s.modSeq p fun q => { q with stopRequested := true }
  | .stopped => s

end Sys2Proof.Machine
end

