-- ==== Sys2Proof/Machine/CycleOps.lean ====
section
/-! DEFINITION. The Cycle Engine: samples, the cycle at its start instant, input images, image faults and stops
(chapter 5). -/

namespace Sys2Proof.Machine

def Port.outLen (x : Port) : Nat := (x.link.map (·.desc.outLen.toNat)).getD 0

def Port.inLen (x : Port) : Nat := (x.link.map (·.desc.inLen.toNat)).getD 0

def Port.stopWaits (x : Port) : Bool :=
  match x.slot with
  | some (.cycleStop, _) => true
  | _ => false

/-- A cycle is under way: its sampling, its start, or its exchange (R98). -/
def CycleEngine.busy (c : CycleEngine) : Bool := c.admitted || c.underWay.isSome || c.startWait.isSome

/-! ### Sampling (R85) -/

/-- A round of reads begins (R85). -/
def CycleEngine.beginRound (second : Bool) (c : CycleEngine) : CycleEngine :=
  { c with sample := .reading second 0 [], list := c.list ++ [.sample .gen1] }

/-- The Cycle Engine begins a sample; one still there is discarded (R85, R87). -/
def State.beginSample (p : PortId) (s : State) : State :=
  let s := s.discardSample p
  s.modCyc p fun c => { (if (s.port p).config.outImage = 0 then { c with sample := .complete none [] false }
      else c.beginRound false) with admitted := true }

/-- A sampling read has ended with data that are still wanted (R85). -/
def CycleEngine.sampled (outLen : Nat) (stage : ReadStage) (d : ReadData) (c : CycleEngine) : CycleEngine :=
  match c.sample with
  | .reading second g1 data =>
    match stage with
    | .gen1 =>
      { c with sample := .reading second (d.setWidth 16) data
               list := c.list ++ [.sample (if outLen = 0 then .gen2 else .data)] }
    | .data => { c with sample := .reading second g1 (octets outLen d), list := c.list ++ [.sample .gen2] }
    | .gen2 =>
      if d.setWidth 16 = g1 then { c with sample := .complete (some g1) data false }
      else if second then { c with sample := .complete (some g1) data true }
      else c.beginRound true
  | .empty | .complete _ _ _ => c

/-! ### The judgement (R86) and the cycle (R88 to R91) -/

/-- The judgement of a sample at its start: none when accepted, else the stale cause (R86). A start that finds no sample
is judged LATE (log entry 22). -/
def judgeSample (lastGen : Option Half) : Sample → Option StaleCause
  | .empty | .reading _ _ _ => some .late
  | .complete gen _ torn => if torn then some .torn else if gen.isSome && gen == lastGen then some .unchanged else none

/-- An accepted sample becomes the last accepted one; one completed with no read sets nothing (R86). -/
def CycleEngine.accept (c : CycleEngine) : CycleEngine :=
  match c.sample with
  | .complete (some g) data _ => { c with lastGen := some g, lastData := some data }
  | _ => c

/-- The stale counts after a judgement, and an OUTPUT_STALE at the stale limit (R91). -/
def State.countJudgement (p : PortId) (j : Option StaleCause) (s : State) : State :=
  match j with
  | none => s.modCounters p fun k => { k with stales := 0 }
  | some cause =>
    let n := min 255 ((s.port p).counters.stales + 1)
    let reached := (s.port p).counters.stales < n && n == (s.port p).config.staleLimit
    let s := s.modCounters p fun k => { k with stales := n, staleCycles := satAdd k.staleCycles 1 }
    if reached then s.post p .outputStale (cause.code.setWidth 32) else s

/-- The CYCLIC frame of a port (R5, R7, R88). -/
def cyclicFrame (l : Link) (payload : List Byte) (stale : Bool) : Frame :=
  { engine := .cycle, kind := .cyclic, speed := l.speed, toggle := false, first := false, last := false, stale := stale,
    payload := payload, replyLen := l.desc.inLen.toNat, seg := 0 }

/-- What a judgement sends under the configured policy: payload and STALE, or nothing (R88). -/
def cyclePayload (x : Port) (j : Option StaleCause) : Option (List Byte × Bool) :=
  match j with
  | none => some (match x.cyc.sample with
      | .complete _ data _ => data
      | _ => [], false)
  | some _ =>
    match x.config.stalePolicy, x.cyc.lastData with
    | .skip, _ => none
    | .repeatData, some data => some (data, false)
    | .mark, some data => some (data, true)
    | _, none => some (List.replicate x.outLen 0, true)

/-- The stop that waited completes: the port goes to READY and the CYCLE_STOP is handed OK (R99). -/
def State.finishStop (p : PortId) (s : State) : State :=
  let slot := (s.port p).slot
  let s := (s.toReady p).modPort p fun x => { x with slot := none }
  match slot with
  | some (_, id) => s.handOver id .ok 0
  | none => s

/-- A cycle has come to an end: a stop that waited finishes, unless another cycle, admitted before the stop, is still under
way (R98, R99; log entry 21). -/
def State.cycleEnds (p : PortId) (s : State) : State :=
  if (s.port p).state = .cyclic && (s.port p).stopWaits && !(s.port p).cyc.busy then s.finishStop p else s

/-- The cycle of start instant `n` on a free line: judge, apply the policy, hand the frame over (R89 step 3). An OUTPUT_STALE is
posted before a CYCLE_STOP that the same start ends is handed over (DESIGN CHOICE, log entry 42; R88, R91, R99, R151). -/
def State.runCycle (p : PortId) (n : Word) (s : State) : State :=
  let x := s.port p
  let j := judgeSample x.cyc.lastGen x.cyc.sample
  let send := cyclePayload x j
  let s := s.countJudgement p j
  let s := if j.isNone then s.modCyc p CycleEngine.accept else s
  let s := s.discardSample p
  match send, x.link with
  | some (payload, stale), some l =>
    (s.handToLine p (.frame (cyclicFrame l payload stale))).modCyc p fun c => { c with underWay := some n }
  | _, _ => s.cycleEnds p

/-- A start instant that finds the line busy: the slip (R90). CYCLE_SLIP is posted before a CYCLE_STOP that the same start ends is
handed over (DESIGN CHOICE, log entry 42; R99, R151). -/
def State.slip (p : PortId) (s : State) : State :=
  let s := s.discardSample p
  let s := s.modCounters p fun k => { k with slips := satAdd k.slips 1 }
  let s := s.post p .cycleSlip 1
  s.cycleEnds p

/-- The guard ends within the microsecond of this start (R89). -/
def State.guardEndsNow (s : State) (p : PortId) : Bool :=
  match (s.port p).lf.timer with
  | some t => t < (s.micros + 1) * Config.unitsPerUs
  | none => false

/-- Step 2 of R89: the line is free, about to be, or busy. -/
def State.cycleAtStart (p : PortId) (n : Word) (s : State) : State :=
  let f := (s.port p).lf
  if f.state = .free then s.runCycle p n
  else if f.state = .guard && f.held.isNone && s.guardEndsNow p then
    s.modCyc p fun c => { c with startWait := some n, admitted := false }
  else s.slip p

/-! ### Input images (R93) -/

/-- An OK reply forms an input image unless two are in writing: the next generation, and its writes, data first (R93). -/
def CycleEngine.formImage (base : Word) (inLen : Nat) (data : List Byte) (stale attention : Bool) (start cycles : Word)
    (c : CycleEngine) : CycleEngine :=
  if c.writing < 2 then
    let g := c.inputGen + 1
    let slot := base + 40 * (g.setWidth 32 &&& 1)
    { c with
      inputGen := g, writing := c.writing + 1
      list := c.list ++ (if inLen = 0 then [] else [.write false (slot + 8) data]) ++
        [.write true slot (inputHeader g inLen stale attention start cycles)] }
  else c

/-! ### Image faults (R96, R97) -/

/-- Every pending image access is withdrawn and each image not yet written is given up (R96). -/
def State.emptyImageList (p : PortId) (s : State) : State :=
  (s.modCyc p fun c => { c with list := [], writing := 0, sample := .empty }).unwantSample p

/-- The port goes to READY for an image fault (R97). -/
def State.imageFaultReady (p : PortId) (s : State) : State :=
  let s := s.modCyc p fun c => { c with faultPending := false }
  let stopped := s.toReady p
  stopped.endSlot p (fun k => if k = .cycleStart then .bufferFault else .ok) 0

/-- A bus error has ended an image access of the port (R96). -/
def State.imageFault (p : PortId) (addr : Word) (s : State) : State :=
  let s := s.post p .imageFault addr
  let s := s.emptyImageList p
  match (s.port p).state with
  | .armed => s.imageFaultReady p
  | .cyclic =>
    if (s.port p).cyc.underWay.isNone then s.imageFaultReady p
    else s.modCyc p fun c => { c with faultPending := true }
  | .recovery => (s.leave p).modPort p fun x => { x with resume := false }
  | .idle | .bringup | .ready | .disabled | .fault => s

/-! ### The outcome of a CYCLIC exchange (R92) -/

/-- After the outcome: a fault or a stop that waited for the cycle to end (R92, R97, R99). -/
def State.afterCycle (p : PortId) (s : State) : State :=
  if (s.port p).state = .cyclic && (s.port p).cyc.faultPending then s.imageFaultReady p else s.cycleEnds p

/-- The outcome of a CYCLIC exchange, its failure counted already, reaches the Cycle Engine (R92). -/
def State.cycleOutcome (p : PortId) (f : Frame) (o : Outcome) (s : State) : State :=
  let start := ((s.port p).cyc.underWay).getD 0
  let s := s.modCyc p fun c => { c with underWay := none }
  match o with
  | .ok reply =>
    let attention := stsAttention (reply.getD 0 0)
    let s := s.attend p attention 1
    let x := s.port p
    let s := if x.state = .cyclic && !x.cyc.faultPending then
        s.modCyc p fun c => c.formImage x.config.inImage x.inLen (reply.drop 1) f.stale attention start
          x.counters.cyclesStarted
      else s
    (s.goodExchange p).afterCycle p
  | .failed c =>
    if s.missEndsLink p then s.miss p c else (s.miss p c).afterCycle p

end Sys2Proof.Machine
end

