-- ==== Sys2Proof/Machine/TransferOps.lean ====
section
/-! DEFINITION. The Transfer Engine: segments, hand-over conditions, replies, failures, abandons, aborts (chapter 6). -/

namespace Sys2Proof.Machine

/-- The segment size S of the port's station (R47, R101). -/
def Port.segSize (x : Port) : Nat := (x.link.map fun l => Machine.segSize l.desc).getD 8

/-! ### Segments (R102, R103) -/

/-- Index and length, each low octet first: the head of a first segment (R102, R103). -/
def firstHeader (t : Transfer) : List Byte := octets 2 t.index ++ octets 2 (BitVec.ofNat 16 t.length)

/-- Data octets of the next write segment, `octetsDone` octets having been taken (R102). -/
def nextWriteLen (t : Transfer) (seg octetsDone : Nat) : Nat :=
  if octetsDone = 0 then min t.length (seg - 4) else min (t.length - octetsDone) seg

/-- The write segment that carries `data` (R102). -/
def writeSegment (t : Transfer) (octetsDone : Nat) (data : List Byte) : Segment :=
  { write := true, first := octetsDone == 0, last := octetsDone + data.length == t.length
    payload := (if octetsDone = 0 then firstHeader t else []) ++ data, dataLen := data.length, toggle := none }

/-- A read segment (R103). -/
def readSegment (t : Transfer) (first : Bool) : Segment :=
  { write := false, first := first, last := false, payload := if first then firstHeader t else [], dataLen := 0,
    toggle := none }

/-- The Transfer Engine claims the data of the next write segment (R108, R109, R111). -/
def State.claimFetch (p : PortId) (t : Transfer) (s : State) : State :=
  s.modPort p fun x => { x with
    te := { x.te with phase := .fetching, segment := none }
    xclaims := x.xclaims ++
      [.fetch (t.buffer + BitVec.ofNat 32 x.te.octetsDone) (nextWriteLen t x.segSize x.te.octetsDone)] }

/-- A segment is built and waits for the hand-over conditions (R101). -/
def TransferEngine.build (g : Segment) (te : TransferEngine) : TransferEngine :=
  { te with phase := .sendWait, segment := some g, storing := none }

/-! ### Hand-over conditions (R105 to R107) -/

inductive HandOver where
  | waits | goes | unfit
  deriving DecidableEq, Repr

/-- The port runs under a schedule: ARMED with its next start present, or CYCLIC (R106). -/
def Port.underSchedule (x : Port) : Bool :=
  match x.state with
  | .cyclic => true
  | .armed => (x.sched.bind (·.next)).isSome
  | _ => false

/-- The hand-over conditions for a service frame of `m` characters (R105, R106, R107). -/
def State.handOverTest (s : State) (p : PortId) (m : Nat) : HandOver :=
  let x := s.port p
  if x.underSchedule then
    match x.link, x.sched with
    | some l, some k =>
      if !(x.lf.state = .free && x.lf.held.isNone) then .waits
      else if !fitTest x.config l k.period then .unfit
      else match k.next with
        | some n => if windowTest s.timebase n (serviceWindow x.config l m) then .goes else .waits
        | none => .waits
    | _, _ => .waits
  else if (x.state = .ready || x.state = .armed) && x.lf.canTake then .goes
  else .waits

/-! ### Activation (R108) -/

/-- The head of the queue, when it may be activated (R108). An access that the engine has given up and that is still in flight
does not stand in its way; a head that has ended and waits for its access does (R26; DEDUCED, log entry 26). -/
def State.activatable (s : State) (p : PortId) : Option Transfer :=
  let x := s.port p
  if x.te.phase = .none && x.state.hasLink then
    x.queue.head?.filter fun t => t.ending.isNone
  else none

/-- The head becomes the active transfer, is tested under a schedule, and begins (R107, R108). -/
def State.activate (p : PortId) (t : Transfer) (s : State) : State :=
  let s := (s.modTe p fun te => { TransferEngine.reset with
    lastToggle := te.lastToggle, phase := .sendWait, transfer := some t }).setOrtState t.ort .active
  let x := s.port p
  let unfit : Bool := x.underSchedule && match x.link, x.sched with
    | some l, some k => !fitTest x.config l k.period
    | _, _ => false
  if unfit then s.endActive p .windowTooSmall 0
  else if t.write then s.claimFetch p t
  else s.modTe p (TransferEngine.build (readSegment t true))

/-! ### Abandoning (R116, R117) -/

/-- The abandon goes ahead: the segment is discarded (R116). -/
def State.abandonNow (p : PortId) (s : State) : State :=
  s.modPort p fun x => { x with
    te := { x.te with phase := .abandonWait, segment := none, storing := none }
    xclaims := x.xclaims.filter (·.isReport) }

/-- An abandon cause is set while nothing of the transfer is in flight (R116); the first cause set stands. -/
def State.abandonFor (p : PortId) (c : AbandonCause) (s : State) : State :=
  let s := s.modTe p fun te => { te with cause := some (te.cause.getD c) }
  if (s.port p).te.sent then s.abandonNow p else s.endAbandoned p

/-- The SVC_ABANDON frame (R117). -/
def abandonFrame (x : Port) : Frame :=
  { engine := .transfer, kind := .svcAbandon, speed := (x.link.map (·.speed)).getD .l1, toggle := false, first := false,
    last := false, stale := false, payload := [], replyLen := 0, seg := x.segSize }

/-- The frame of a segment, with its TOGGLE (R102 to R104). -/
def segmentFrame (x : Port) (g : Segment) (toggle : Bool) : Frame :=
  { engine := .transfer, kind := if g.write then .svcWrite else .svcRead, speed := (x.link.map (·.speed)).getD .l1,
    toggle := toggle, first := g.first, last := g.last, stale := false, payload := g.payload, replyLen := 0,
    seg := x.segSize }

/-- A segment is handed over: a new one takes the complement of the last toggle (R104). -/
def State.sendSegment (p : PortId) (g : Segment) (s : State) : State :=
  let x := s.port p
  let toggle := g.toggle.getD (!x.te.lastToggle)
  (s.handToLine p (.frame (segmentFrame x g toggle))).modTe p fun te => { te with
    phase := .exchange, sent := true, segment := some { g with toggle := some toggle }, lastToggle := toggle }

/-! ### Replies and failures (R111 to R115, R119) -/

/-- A reply without progress, or BUSY: the busy count, and what follows below the limit (R112, R113). -/
def State.busyReply (p : PortId) (resume : TransferEngine → TransferEngine) (s : State) : State :=
  let s := s.modTe p fun te => { te with busies := te.busies + 1, retries := 0 }
  if (s.port p).config.busyLimit ≤ (s.port p).te.busies then s.endActive p .stationBusy 0
  else s.modTe p resume

/-- A reply of code OK to a write segment (R111). -/
def State.writeAccepted (p : PortId) (t : Transfer) (g : Segment) (s : State) : State :=
  let s := s.modTe p fun te => { te with octetsDone := te.octetsDone + g.dataLen, retries := 0, busies := 0 }
  if g.last then s.endActive p .ok (BitVec.ofNat 32 t.length) else s.claimFetch p t

/-- A reply of code OK to a read segment, with LEN data octets and LAST (R110, R112). -/
def State.readAccepted (p : PortId) (t : Transfer) (data : List Byte) (last : Bool) (s : State) : State :=
  let s := s.modTe p fun te => { te with
    retries := 0, busies := if data.length = 0 && !last then te.busies else 0 }
  let te := (s.port p).te
  if te.octetsDone + data.length > t.length then s.abandonFor p .tooLong
  else if data.length = 0 then
    if last then s.endActive p .ok (BitVec.ofNat 32 te.octetsDone)
    else s.busyReply p (TransferEngine.build (readSegment t false))
  else
    s.modPort p fun x => { x with
      te := { x.te with phase := .storing, segment := none, storing := some (data.length, last) }
      xclaims := x.xclaims ++ [.store (t.buffer + BitVec.ofNat 32 x.te.octetsDone) data] }

/-- An OK outcome of a segment, its ATTENTION and the miss count dealt with (R111 to R114). -/
def State.segmentReply (p : PortId) (t : Transfer) (g : Segment) (reply : List Byte) (s : State) : State :=
  let sts := reply.getD 0 0
  let data := reply.drop 2
  match replyCode sts with
  | .error => s.endActive p .stationError ((data.getD 0 0).setWidth 32)
  | .busy => s.busyReply p fun te => { te with phase := .sendWait }
  | .ok => if g.write then s.writeAccepted p t g else s.readAccepted p t data (stsLast sts)

/-- An OK outcome of a segment whose transfer has an abandon cause (R119). -/
def State.segmentReplyAbandoned (p : PortId) (g : Segment) (reply : List Byte) (s : State) : State :=
  let sts := reply.getD 0 0
  let ended : Bool := match replyCode sts with
    | .error => true
    | .busy => false
    | .ok => if g.write then g.last else stsLast sts
  if ended then s.endAbandoned p else s.abandonNow p

/-- A failed segment that does not end the link (R115, R119). -/
def State.segmentFailed (p : PortId) (s : State) : State :=
  let te := (s.port p).te
  if te.cause.isSome then s.abandonNow p
  else
    let s := s.modTe p fun te => { te with retries := te.retries + 1 }
    if te.retries + 1 ≤ (s.port p).config.retryLimit then s.modTe p fun te => { te with phase := .sendWait }
    else s.abandonFor p .linkError

/-- The outcome of a segment reaches the Transfer Engine in EXCHANGE (R111 to R115, R119, R120). STATION_ATTENTION is posted
before the transfer that the same reply ends is handed over (DESIGN CHOICE, log entry 42; R94, R151). -/
def State.segmentOutcome (p : PortId) (o : Outcome) (s : State) : State :=
  match (s.port p).te.transfer, (s.port p).te.segment with
  | some t, some g =>
    match o with
    | .ok reply =>
      let s := (s.goodExchange p).attend p (stsAttention (reply.getD 0 0)) 2
      if (s.port p).te.cause.isSome then s.segmentReplyAbandoned p g reply else s.segmentReply p t g reply
    | .failed c => if s.missEndsLink p then s.miss p c else (s.miss p c).segmentFailed p
  | _, _ => s

/-- The outcome of an SVC_ABANDON in ABANDON_EXCHANGE (R117). -/
def State.abandonOutcome (p : PortId) (o : Outcome) (s : State) : State :=
  match o with
  | .ok _ => (s.goodExchange p).endAbandoned p
  | .failed c => if s.missEndsLink p then s.miss p c else (s.miss p c).endAbandoned p

/-- The outcome of a service exchange, its failure counted already (R117, R119, R120). One that arrives when the Transfer
Engine has given its transfer up is dropped; a transfer that waited for its SVC_ABANDON exchange is handed (R43). -/
def State.transferOutcome (p : PortId) (f : Frame) (o : Outcome) (s : State) : State :=
  match (s.port p).te.phase, f.kind with
  | .exchange, _ => s.segmentOutcome p o
  | .abandonExchange, _ => s.abandonOutcome p o
  | _, .svcAbandon => s.handEnded p true
  | _, _ => s

/-! ### Ends of accesses (R109, R110, R119) -/

/-- The fetch of write segment data has ended (R109, R116, R118). -/
def State.fetchEnded (p : PortId) (d : Option ReadData) (s : State) : State :=
  let te := (s.port p).te
  match te.transfer with
  | none => s
  | some t =>
    if te.cause.isSome then (if te.sent then s.abandonNow p else s.endAbandoned p)
    else match d with
      | none => s.abandonFor p .bufferFault
      | some d =>
        let data := octets (nextWriteLen t (s.port p).segSize te.octetsDone) d
        s.modTe p (TransferEngine.build (writeSegment t te.octetsDone data))

/-- The store of read data has ended (R110, R119). -/
def State.storeEnded (p : PortId) (ok : Bool) (s : State) : State :=
  let te := (s.port p).te
  match te.transfer, te.storing with
  | some t, some (len, last) =>
    if te.cause.isSome then s.abandonNow p
    else if !ok then s.abandonFor p .bufferFault
    else
      let s := s.modTe p fun te => { te with octetsDone := te.octetsDone + len }
      if last then s.endActive p .ok (BitVec.ofNat 32 (te.octetsDone + len))
      else s.modTe p (TransferEngine.build (readSegment t false))
  | _, _ => s

/-- An access that the engine had given up has ended, its data and outcome dropped (R43, R120): what waited for it is handed, and
the claim that the engine listed for a later transfer meanwhile is made, behind the reports claimed before (R101; DEDUCED, log
entry 26). -/
def State.formerEnded (p : PortId) (s : State) : State :=
  (s.modPort p fun x => { x with
    xclaims := x.xclaims.filter (·.isReport) ++ x.xclaims.filter (!·.isReport) }).accessEnded p

/-! ### Aborting (R118) -/

/-- An abort reaches the active transfer (R118). -/
def State.abortActive (p : PortId) (s : State) : State :=
  let te := (s.port p).te
  if te.cause.isSome then s
  else
    let marked := s.modTe p fun te => { te with cause := some .aborted }
    if s.flightOf Access.transferPort p || te.phase = .exchange then marked
    else if te.sent then marked.abandonNow p
    else marked.endAbandoned p

/-- An abort reaches a transfer of the port by its ORT entry (R118; one already ended is not affected, log entry 19). -/
def State.abortTransfer (p : PortId) (id : Nat) (s : State) : State :=
  let x := s.port p
  if x.te.transfer.map (·.ort) = some id then s.abortActive p
  else if x.queue.any fun t => t.ort = id && t.ending.isNone then
    (s.modPort p fun x => { x with queue := x.queue.filter fun t => t.ort ≠ id }).handOver id .aborted 0
  else s

end Sys2Proof.Machine
end

