-- ==== Sys2Proof/Machine/LineOps.lean ====
section
/-! DEFINITION. Reception of a reply (R4, R7, R8, R14, R15) and the delivery of an exchange's outcome to the engine that
handed the frame over (R15, R16). -/

namespace Sys2Proof.Machine

/-- The expected number of reply characters, once it is known (R7). -/
def replyTotal (f : Frame) (got : List Byte) : Option Nat :=
  if f.kind.service then (if 2 ≤ got.length then some (3 + (got.getD 1 0).toNat) else none) else some (f.replyLen + 2)

/-- What reply characters bring about. -/
inductive Reception where
  /-- further characters are expected -/
  | more (rx : Rx)
  /-- the exchange is judged: its outcome, the instant the guard begins, the start edge of the last character, and the level
  its bits leave on RXD and since when -/
  | ends (o : Outcome) (t edge : Nat) (recessive : Bool) (since : Nat)
  /-- a character began later than G allows, which GAP has declared before -/
  | tooLate
  deriving DecidableEq, Repr

/-- The judgement of a reply that is complete; `covered` is the CRC register over the covered octets (R9, R15). -/
def judgeReply (f : Frame) (covered : Byte) (got : List Byte) : Outcome :=
  if covered ≠ got.getLastD 0 then .failed .crc
  else if f.kind.toggles && stsToggle (got.getD 0 0) != f.toggle then .failed .toggle
  else .ok got.dropLast

/-- Reply characters are received in order (R4, R14, R15). -/
def receive (f : Frame) (gapLimit : Nat) : List RxChar → Rx → Reception
  | [], rx => .more rx
  | c :: cs, rx =>
    let start := rx.edge.getD (rx.lastEnd + c.gap)
    let sampleAt := start + 19 * f.speed.tb / 2
    let endAt := start + 10 * f.speed.tb
    let got := rx.octets ++ [c.octet]
    if rx.edge.isNone && gapLimit < c.gap then .tooLate
    else if !c.stop then .ends (.failed .framing) sampleAt start false sampleAt
    else if f.kind.service && rx.count = 1 && f.seg < c.octet.toNat then
      .ends (.failed .length) sampleAt start true (endAt - tailRecessive c.octet * f.speed.tb)
    else if replyTotal f got = some (rx.count + 1) then
      .ends (judgeReply f rx.crc got) endAt start true (endAt - tailRecessive c.octet * f.speed.tb)
    else
      receive f gapLimit cs
        { edge := none, count := rx.count + 1, crc := crcOctet rx.crc c.octet, octets := got, lastEnd := endAt }

/-- The outcome goes to the engine that handed the frame over; a failure is counted first (R15, R32, R39). -/
def State.deliver (p : PortId) (f : Frame) (o : Outcome) (s : State) : State :=
  let s := match o with
    | .failed c => s.countFailure p c
    | .ok _ => s
  match f.engine with
  | .bringUp => s.identifyOutcome p o
  | .cycle => s.cycleOutcome p f o
  | .transfer => s.transferOutcome p f o

/-- An exchange ends: the guard begins at `t`, and the outcome is delivered (R15, R16). -/
def State.endExchange (p : PortId) (f : Frame) (o : Outcome) (t : Nat) (s : State) : State :=
  (s.modLf p fun x => x.toGuard f.speed t).deliver p f o

/-- TXEN is asserted: an FLT_n already asserted starts the blank timer (R35). -/
def State.assertTxen (p : PortId) (s : State) : State :=
  s.modPort p fun x => { x with
    lf := { x.lf with txen := true, recessiveSince := none, dominantSince := none }
    blank := if x.flt && x.blank.isNone then some s.time else x.blank }

/-- The held frame or pulse starts on the line (R11, R12, R18). -/
def State.startOnLine (p : PortId) (s : State) : State :=
  match (s.port p).lf.held with
  | none => s
  | some (.frame f) =>
    let s := (s.assertTxen p).modLf p fun x => { x with
      state := .sending, held := none, flight := some { frame := f, start := s.time }, timer := none }
    if f.engine = .cycle then s.modCounters p fun k => { k with cyclesStarted := k.cyclesStarted + 1 } else s
  | some (.pulse _) =>
    (s.assertTxen p).modLf p fun x => { x with
      state := .waking, held := none, timer := some (s.time + usUnits Config.wakeDominant) }

/-- The guard ends: a held frame or pulse goes to WAITING; else the line is free, a start that waited for it runs its
cycle (R89), and a sequencer that was to stop then stops (R10, R16, R52). -/
def State.guardOver (p : PortId) (s : State) : State :=
  let held := (s.port p).lf.held.isSome
  let s := s.modLf p fun x => { x with
    state := if x.held.isSome then .waiting else .free, waitSince := s.time, timer := none, flight := none }
  if held then s
  else
    let s := match (s.port p).cyc.startWait with
      | some n => (s.modCyc p fun c => { c with startWait := none }).runCycle p n
      | none => s
    if (s.port p).seq.phase = .lineWait && (s.port p).seq.stopRequested then s.abortSequence p else s

/-- The quiet time ends: the pulse is reported, and the sequencer hands over the IDENTIFY of rung 1, or stops (R18, R45,
R52). -/
def State.pulseOver (p : PortId) (s : State) : State :=
  let s := s.modLf p fun x => { x with state := .free, timer := none }
  if (s.port p).seq.phase = .wake then
    if (s.port p).seq.stopRequested then s.abortSequence p else s.handIdentify p
  else s

end Sys2Proof.Machine
end

