-- ==== Sys2Proof/Machine/Due.lean ====
section
/-! DEFINITION. When each step the part takes by itself is due, and how far time may pass before it is taken
(log entries 1, 4, 25). -/

namespace Sys2Proof.Machine

/-! ### The instant at which a step is due, or none -/

/-- IDLE_CHECK: the line has been recessive for 2 Tb (R11). -/
def State.idleCheckDue (s : State) (p : PortId) : Option Nat :=
  let f := (s.port p).lf
  if f.state = .waiting then
    match f.held, f.recessiveSince with
    | some (.frame g), some t => some (max f.waitSince (t + 2 * g.speed.tb))
    | some (.pulse sp), some t => some (max f.waitSince (t + 2 * sp.tb))
    | _, _ => none
  else none

/-- LINE_STUCK: the line has been dominant for 10,000 µs of WAITING (R11). -/
def State.lineStuckDue (s : State) (p : PortId) : Option Nat :=
  let f := (s.port p).lf
  if f.state = .waiting then f.dominantSince.map fun t => max f.waitSince t + usUnits Config.stuckTime else none

/-- The end of the master frame (R3, R12). -/
def State.masterFrameEndDue (s : State) (p : PortId) : Option Nat :=
  let f := (s.port p).lf
  if f.state = .sending then f.flight.map fun e => e.start + 10 * e.frame.chars * e.frame.speed.tb else none

/-- The candidate edge that awaits its sample and, the line being dominant, is to be confirmed there; only an edge no later
than the limit counts (R4). -/
def State.edgeToConfirm (s : State) (p : PortId) : Option Nat :=
  let x := s.port p
  if x.rxd then none else (x.lf.pendingEdge s.time).filter fun c => x.lf.timer.any (c ≤ ·)

/-- The running T_resp or G limit is judged: at its expiry, or at the sample of a candidate edge that fell no later; while such
an edge is to be confirmed it is not (R4, R13, R14). -/
def State.limitDue (s : State) (p : PortId) : Option Nat :=
  let f := (s.port p).lf
  if (s.edgeToConfirm p).isSome then none
  else f.timer.map fun n => match f.candidate with
    | some c => if c ≤ n then max n (c + f.halfTb) else n
    | none => n

/-- How long after its expiry the limit is judged at `t` (R4). -/
def State.heldBy (s : State) (p : PortId) (t : Nat) : Nat := t - ((s.port p).lf.timer).getD t

/-- The expiry of T_resp (R13). -/
def State.noReplyDue (s : State) (p : PortId) : Option Nat :=
  if (s.port p).lf.state = .awaiting then s.limitDue p else none

/-- The expiry of G (R14). -/
def State.gapDue (s : State) (p : PortId) : Option Nat :=
  if (s.port p).lf.state = .receiving then s.limitDue p else none

def State.guardEndDue (s : State) (p : PortId) : Option Nat :=
  let f := (s.port p).lf
  if f.state = .guard then f.timer else none

def State.wakeDominantEndDue (s : State) (p : PortId) : Option Nat :=
  let f := (s.port p).lf
  if f.state = .waking && f.txen then f.timer else none

def State.quietTimeEndDue (s : State) (p : PortId) : Option Nat :=
  let f := (s.port p).lf
  if f.state = .waking && !f.txen then f.timer else none

/-- The blank timer reaches the blank time (R35). -/
def State.overcurrentDue (s : State) (p : PortId) : Option Nat :=
  (s.port p).blank.map fun t => t + usUnits (s.port p).config.blankTime

/-- A step without a timer of its own is due at once when its condition holds. -/
def State.nowIf (s : State) (c : Bool) : Option Nat := if c then some s.time else none

/-- ATTEMPT: LINE_WAIT, and the Line Framer in FREE (R45). -/
def State.attemptDue (s : State) (p : PortId) : Option Nat :=
  let x := s.port p
  s.nowIf (x.seq.phase = .lineWait && !x.seq.stopRequested && x.lf.state = .free)

def State.backoffDue (s : State) (p : PortId) : Option Nat :=
  let q := (s.port p).seq
  if q.phase = .backoff then q.backoff else none

def State.activationDue (s : State) (p : PortId) : Option Nat := s.nowIf (s.activatable p).isSome

/-- The characters of the built segment's frame (R102, R103). -/
def Segment.chars (g : Segment) : Nat := g.payload.length + 2

/-- SEGMENT_HAND_OVER: SEND_WAIT, and the conditions answer (R105, R106, R107). -/
def State.segmentDue (s : State) (p : PortId) : Option Nat :=
  let te := (s.port p).te
  match te.segment with
  | some g => s.nowIf (te.phase = .sendWait && s.handOverTest p g.chars != .waits)
  | none => none

/-- SVC_ABANDON: ABANDON_WAIT, and the conditions answer (R117). -/
def State.abandonDue (s : State) (p : PortId) : Option Nat :=
  s.nowIf ((s.port p).te.phase = .abandonWait && s.handOverTest p 2 != .waits)

/-- The take conditions of the Dispatcher (R126). -/
def State.fetchDue (s : State) : Option Nat :=
  let flying : Bool := match s.bus.flight with
    | some { access := .requestFetch _, .. } => true
    | _ => false
  match s.setup with
  | some u => s.nowIf (!s.bus.fetchClaim && !flying && s.part = .running && s.head != s.tail &&
      s.ort.length < Config.ortSize && s.cpl.used + s.cpl.reserved + 2 ≤ u.cplSize)
  | none => none

/-- The record the Completion Writer would write next (R151). -/
def State.nextRecord (s : State) : Option RecordClaim :=
  let credit : Bool := match s.setup with
    | some u => s.cpl.used + s.cpl.reserved + 1 ≤ u.cplSize
    | none => false
  match s.cpl.done, s.cpl.events with
  | [], [] => none
  | [], _ :: _ => if credit then some .event else none
  | _ :: _, [] => some .completion
  | c :: _, e :: _ => if credit && e.arrival < c.arrival then some .event else some .completion

/-- COMPLETION_WRITE_CLAIM (R142). -/
def State.recordDue (s : State) : Option Nat :=
  let flying : Bool := match s.bus.flight with
    | some { access := .recordWrite _ _ _, .. } => true
    | _ => false
  s.nowIf (s.runningOrPaused && s.bus.recordClaim.isNone && !flying && s.nextRecord.isSome)

/-- The port the arbiter serves next in a class, going on from the one last served (R164). -/
def nextInTurn (last : PortId) (waiting : PortId → Bool) : Option PortId :=
  ((List.range 8).map fun i => (⟨(last.val + 1 + i) % 8, Nat.mod_lt _ (by decide)⟩ : PortId)).find? waiting

/-- What the arbiter grants next (R164). -/
inductive Grant where
  | image (p : PortId)
  | transfer (p : PortId)
  | record (c : RecordClaim)
  | setupRead (addr : Word)
  | requestFetch
  deriving DecidableEq, Repr

def State.nextGrant (s : State) : Option Grant :=
  match nextInTurn s.bus.last1 fun p => !(s.port p).cyc.list.isEmpty with
  | some p => some (.image p)
  | none => match nextInTurn s.bus.last2 fun p => !(s.port p).xclaims.isEmpty with
    | some p => some (.transfer p)
    | none => match s.bus.recordClaim, s.bus.setupClaim with
      | some c, _ => some (.record c)
      | none, some a => some (.setupRead a)
      | none, none => if s.bus.fetchClaim then some .requestFetch else none

/-- BMU_GRANT: no access in flight and a claim waits (R164). -/
def State.grantDue (s : State) : Option Nat := s.nowIf (s.bus.flight.isNone && s.nextGrant.isSome)

/-- HOLDOFF_EXPIRY: at the exact 1/32 µs (R152; DEDUCED, log entry 43). -/
def State.holdoffDue (s : State) : Option Nat := s.cpl.holdoff

def State.beatDue (s : State) (g : GroupId) : Option Nat := (s.group g).running.map fun b => s.timeOf b.next

def State.syncOutEndDue (s : State) : Option Nat := s.syncOutEnd

/-- SAMPLING_INSTANT: 64 µs before the next start; one that has passed is due at once (R74). -/
def State.samplingDue (s : State) (p : PortId) : Option Nat :=
  match (s.port p).sched with
  | some { next := some n, delivered := false, .. } => some (s.timeOf n - usUnits Config.samplingLead)
  | _ => none

/-- START_INSTANT: the next start, its sampling instant delivered (R74). -/
def State.startDue (s : State) (p : PortId) : Option Nat :=
  match (s.port p).sched with
  | some { next := some n, delivered := true, .. } => some (s.timeOf n)
  | _ => none

/-! ### All of them -/

/-- A step of the part: the first instant at which it may be taken, and the last that time may reach without it. -/
structure Due where
  first : Nat
  latest : Nat
  cmd : Instr
  deriving DecidableEq, Repr

def dueAt (t : Option Nat) (slack : Nat) (c : Instr) : List Due :=
  match t with
  | some t => [{ first := t, latest := t + slack, cmd := c }]
  | none => []

/-- The rest of the microsecond in which an instant is reached (R61; log entry 25). -/
def restOfUs : Nat := Config.unitsPerUs - 1

/-- The confirmation of a candidate edge at its sample: the first start edge of the reply, or that of a later character (R4,
R13, R14). -/
def State.confirmSteps (s : State) (p : PortId) : List Due :=
  let f := (s.port p).lf
  match s.edgeToConfirm p, f.state, f.flight, f.rx with
  | some c, .awaiting, some e, _ =>
    dueAt (some (c + f.halfTb)) 0 (.replyStartEdge p (c - (e.start + 10 * e.frame.chars * e.frame.speed.tb)))
  | some c, .receiving, _, some rx => dueAt (some (c + f.halfTb)) 0 (.stationReply p [] (some (c - rx.lastEnd)))
  | _, _, _, _ => []

/-- A limit judged at `t`, by the row `c`, which tells how long the judgement was held (R4). -/
def State.limitStep (s : State) (p : PortId) (t : Option Nat) (c : Nat → Instr) : List Due :=
  match t with
  | some n => dueAt t 0 (c (s.heldBy p n))
  | none => []

/-- The steps of one port. -/
def State.portSteps (s : State) (p : PortId) : List Due :=
  dueAt (s.idleCheckDue p) 0 (.idleCheck p) ++ dueAt (s.lineStuckDue p) 0 (.lineStuck p) ++
  dueAt (s.masterFrameEndDue p) 0 (.masterFrameEnd p) ++ s.confirmSteps p ++
  s.limitStep p (s.noReplyDue p) (.noReply p) ++ s.limitStep p (s.gapDue p) (.gap p) ++
  dueAt (s.guardEndDue p) 0 (.guardEnd p) ++
  dueAt (s.wakeDominantEndDue p) 0 (.wakeDominantEnd p) ++ dueAt (s.quietTimeEndDue p) 0 (.quietTimeEnd p) ++
  dueAt (s.overcurrentDue p) 0 (.overcurrent p) ++ dueAt (s.attemptDue p) 0 (.attempt p) ++
  dueAt (s.backoffDue p) 0 (.backoffExpiry p) ++ dueAt (s.activationDue p) 0 (.activation p) ++
  dueAt (s.segmentDue p) 0 (.segmentHandOver p) ++ dueAt (s.abandonDue p) 0 (.svcAbandon p) ++
  dueAt (s.samplingDue p) restOfUs (.samplingInstant p) ++ dueAt (s.startDue p) restOfUs (.startInstant p)

/-- The steps of no port but the grant. -/
def State.partSteps (s : State) : List Due :=
  dueAt s.fetchDue 0 .fetch ++ dueAt s.recordDue 0 .completionWriteClaim ++ dueAt s.holdoffDue 0 .holdoffExpiry ++
  (allGroups.flatMap fun g => dueAt (s.beatDue g) restOfUs (.beat g)) ++
  dueAt s.syncOutEndDue restOfUs .syncOutPulseEnd

/-- Every step the part takes by itself, the grant last. -/
def State.steps (s : State) : List Due :=
  s.partSteps ++ allPorts.flatMap s.portSteps ++ dueAt s.grantDue 0 .bmuGrant

/-- Nothing that the Dispatcher has handed is still on its way (R134; log entry 6). -/
def State.allArrived (s : State) : Bool := s.unitInbox.isEmpty && allPorts.all fun p => (s.port p).inbox.isEmpty

/-- No step of the part, no arrival and no end of a reply character, whose octet only a STATION_REPLY can tell, stands in the way
of time reaching `t` (R4; log entry 11). -/
def State.quietUntil (s : State) (t : Nat) : Bool :=
  s.allArrived && (s.steps.all fun d => t ≤ d.latest) && allPorts.all fun p => ((s.port p).lf.characterEnd).all fun e => t ≤ e

/-- The state at time `t`; none if `t` has passed, or something is due before it (log entry 4). -/
def State.reach (s : State) (t : Nat) : Option State :=
  if t = s.time then some s else if s.time < t && s.quietUntil t then some { s with time := t } else none

/-- What the world brings at the instant `t`: no effect where it cannot come then (log entries 3 and 4). -/
def exactlyAt (t : Nat) (act : State → State) (s : State) : Result :=
  match s.reach t with
  | some s' => .next (act s')
  | none => .next s

/-- A step of the part that is due at `t`, or now if `t` has passed; none where the state does not admit it. It has no
effect where it cannot occur (log entries 3 and 4). -/
def atInstant (t : Option Nat) (act : State → State) (s : State) : Result :=
  match t with
  | some t => exactlyAt (max s.time t) act s
  | none => .next s

/-- What the part can do by itself: a step of the table, or an arrival at a port or at the Schedule Unit (log entry 6). -/
inductive OwnStep where
  | row (c : Instr)
  | portArrival (p : PortId)
  | unitArrival
  deriving DecidableEq, Repr

/-- The arrivals that wait, each target's oldest first (R135). -/
def State.arrivalSteps (s : State) : List OwnStep :=
  ((allPorts.filter fun p => !(s.port p).inbox.isEmpty).map .portArrival) ++
  (if s.unitInbox.isEmpty then [] else [.unitArrival])

/-- The steps that may be taken now; the grant only when no other step of the table is left to take (R165; log entry 5). An
arrival comes before or after any of them (R135). -/
def State.dueNow (s : State) : List OwnStep :=
  let now := fun (l : List Due) => (l.filter fun d => d.first ≤ s.time).map fun d => OwnStep.row d.cmd
  let others := now (s.partSteps ++ allPorts.flatMap s.portSteps)
  (if others.isEmpty then now (dueAt s.grantDue 0 .bmuGrant) else others) ++ s.arrivalSteps

/-- The step the part takes next by itself: a free choice among those due (log entry 5). -/
def State.dueStep (s : State) : Option OwnStep := s.dueNow[Config.dueChoice s.choices % s.dueNow.length]?

/-- A choice among due steps has been made. -/
def State.chosen (s : State) : State := { s with choices := s.choices + 1 }

/-- The least time passes: 1/32 µs, while RESET_N is deasserted (R61, R163; log entry 2). -/
def State.tick (s : State) : State := if s.resetAsserted then s else (s.reach (s.time + 1)).getD s

end Sys2Proof.Machine
end

