-- ==== Sys2Proof/Machine/Dispatcher.lean ====
section
/-! DEFINITION. The Request Dispatcher: the take of a record, NOP, ABORT, an unknown kind, the fetch and its bus error
(chapter 7). -/

namespace Sys2Proof.Machine

/-- A request fetch is in flight. -/
def State.fetchFlying (s : State) : Bool :=
  match s.bus.flight with
  | some { access := .requestFetch _, .. } => true
  | _ => false

/-- The head advances by one, modulo the ring size (R125). -/
def State.advanceHead (s : State) : State :=
  match s.setup with
  | some u => { s with head := (s.head + 1) % u.reqSize }
  | none => s

/-- The fetch in flight ends with success and brings in a record of kind `kind`. In RUNNING and PAUSED the record is taken:
the head advances, the entry is filled, the record is validated and, where valid, completed or handed to its target (R127,
R134). In HALTED its data are dropped (R129). With no fetch in flight no record comes in. The record is taken also where
REQ_TAIL was moved back onto the head after the fetch was claimed (DESIGN CHOICE, log entry 37), and where an earlier late
request still waits in its target's inbox (DESIGN CHOICE, log entry 6). -/
def State.take (kind : Byte) (r : ReqRecord) (check : Option Status) (act : Nat → State → State) (s : State) : State :=
  if s.fetchFlying then
    let s := s.endFlight
    if s.runningOrPaused then
      match s.ort.find? fun e => e.st = .fetching with
      | none => s
      | some e =>
        let s := s.advanceHead.setOrt e.id fun e => { e with tag := r.tag, kind := kind, target := r.target, st := .routed }
        match check with
        | some st => s.handOver e.id st 0
        | none => act e.id s
    else s.dropFetch
  else s

/-- An arrival at a port acts at once, or waits: where it is late, and where others wait already, since a port takes its arrivals
in the order in which they were handed (R135; log entry 6). -/
def State.atPort (p : PortId) (late : Bool) (a : Arrival) (act : State → State) (s : State) : State :=
  if late || !(s.port p).inbox.isEmpty then s.modPort p fun x => { x with inbox := x.inbox ++ [a] } else act s

/-- As `State.atPort`, at the Schedule Unit (R135). -/
def State.atUnit (late : Bool) (a : Arrival) (act : State → State) (s : State) : State :=
  if late || !s.unitInbox.isEmpty then { s with unitInbox := s.unitInbox ++ [a] } else act s

/-- A valid request is handed to the port it names (R134). -/
def State.toPort (kind : Byte) (q : Routed) (act : Nat → State → State) (id : Nat) : State → State :=
  State.atPort (targetPort q.record) q.late (.request id kind q.record) (act id)

/-- A valid request is handed to the Schedule Unit (R134). -/
def State.toUnit (kind : Byte) (q : Routed) (act : Nat → State → State) (id : Nat) : State → State :=
  State.atUnit q.late (.request id kind q.record) (act id)

/-- A refusal by the port's state (R24). -/
def State.badPortState (id : Nat) (s : State) : State := s.handOver id .badPortState 0

/-! ### NOP (R136) -/

def execNop (r : ReqRecord) (s : State) : Result :=
  .next (s.take kindNop r (checkNop r) fun id s => s.handOver id .ok (BitVec.ofNat 32 s.ort.length))

/-! ### ABORT (R137 to R139) -/

/-- The entries a valid ABORT matches at its take (R137). -/
def State.abortMatches (s : State) (r : ReqRecord) : List OrtEntry :=
  s.ort.filter fun e =>
    e.tag = abortTag r && kindOfPort e.kind && e.target.toNat < 8 && (r.target == abortAll || e.target == r.target) &&
    (e.st = .routed || e.st = .queued || e.st = .active || e.st = .waiting)

/-- The abort of a CYCLE_START that waits in the slot (R100). -/
def State.abortCycleStart (p : PortId) (s : State) : State := (s.toReady p).endSlot p (fun _ => .aborted) 0

/-- The port an entry's target names. -/
def OrtEntry.targetPort (e : OrtEntry) : PortId := ⟨e.target.toNat % 8, Nat.mod_lt _ (by decide)⟩

/-- The abort of an entry acts by the kind of the request and where it stands; one already DONE is not affected (R131, R138). -/
def State.abortEntry (e : OrtEntry) (s : State) : State :=
  let p := e.targetPort
  if e.st = .done then s
  else if e.kind == kindParamRead || e.kind == kindParamWrite then s.abortTransfer p e.id
  else if (s.port p).slot = some (.bringUp, e.id) then s.abortBringUp p
  else if (s.port p).slot = some (.cycleStart, e.id) then s.abortCycleStart p
  else s

/-- The abort of the entry `id`, handed for the ABORT `abort`, reaches the entry's port. Where that ABORT no longer waits for
the entry, the entry has been handed over, and nothing is left to abort (R131, R138, R139). -/
def State.abortArrives (abort id : Nat) (s : State) : State :=
  match s.ortFind id with
  | some e =>
    if (s.ortFind abort).any fun a => a.st = .waiting && a.awaited.contains id then s.abortEntry e else s
  | none => s

/-- The ABORT counts its matches and hands an abort for each to its port, in the order the entries were taken (R137; log
entry 14). -/
def State.runAbort (r : ReqRecord) (late : Bool) (id : Nat) (s : State) : State :=
  let found := s.abortMatches r
  if found.isEmpty then s.handOver id .ok 0
  else
    found.foldl (fun s e => s.atPort e.targetPort late (.abort id e.id) (State.abortArrives id e.id))
      (s.setOrt id fun e => { e with st := .waiting, matched := found.length, awaited := found.map (·.id) })

def execAbort (q : Routed) (s : State) : Result :=
  .next (s.take kindAbort q.record (checkAbort q.record) (State.runAbort q.record q.late))

/-! ### A kind that names none (R132) -/

def execUnknownRequestKind (kind : Byte) (r : ReqRecord) (s : State) : Result :=
  onlyIf (!kindNamed kind) (fun s => s.take kind r (some .badRequest) fun _ s => s) s

/-! ### The fetch (R126, R128, R129) -/

def execFetch (s : State) : Result :=
  onlyIf s.fetchDue.isSome (fun s => s.allocate.modBus fun b => { b with fetchClaim := true }) s

def execReqBusError (s : State) : Result :=
  onlyIf s.fetchFlying
    (fun s =>
      let s := s.endFlight
      if s.runningOrPaused then s.halt .reqBusError else s.dropFetch) s

end Sys2Proof.Machine
end

