-- ==== Sys2Proof/Machine/PortRequests.lean ====
section
/-! DEFINITION. The requests that act on a port as a whole, the fault inputs and the port report (chapter 2). -/

namespace Sys2Proof.Machine

/-! ### PORT_CONFIG (R24, R27) -/

def State.configurePort (r : ReqRecord) (id : Nat) (s : State) : State :=
  let p := targetPort r
  if (s.port p).state = .disabled || (s.port p).state = .idle then
    (s.modPort p fun x => { x with config := portConfigOf r }).handOver id .ok 0
  else s.badPortState id

def execPortConfig (q : Routed) (s : State) : Result :=
  .next (s.take kindPortConfig q.record (checkPortConfig q.record) (State.toPort kindPortConfig q (State.configurePort q.record)))

/-! ### PORT_ENABLE (R28) -/

def State.enablePort (r : ReqRecord) (id : Nat) (s : State) : State :=
  let p := targetPort r
  match (s.port p).state with
  | .disabled =>
    (s.modPort p fun x => { x with
      state := .idle, lf := { (Framer.reset.stretch x.rxd s.time) with state := .free } }).handOver id .ok 0
  | .fault => s.badPortState id
  | .idle | .bringup | .ready | .armed | .cyclic | .recovery => s.handOver id .ok 0

def execPortEnable (q : Routed) (s : State) : Result :=
  .next (s.take kindPortEnable q.record (checkPortOnly q.record) (State.toPort kindPortEnable q (State.enablePort q.record)))

/-! ### PORT_DISABLE (R29 to R31) -/

/-- The effects of a PORT_DISABLE on the port context (R29). -/
def Port.disabled (x : Port) : Port :=
  { x with
    state := .disabled, link := none, resume := false, faultCause := none, counters := .reset, lf := x.lf.cut
    cyc := .reset, te := .reset, blank := none }

def State.disablePort (r : ReqRecord) (id : Nat) (s : State) : State :=
  let p := targetPort r
  let n := (s.port p).outstanding
  let s := ((s.leave p).endRequests p .portDisabled).stopSequence p
  let s := s.modPort p Port.disabled
  let x := s.port p
  if x.queue.isEmpty && x.queries.isEmpty && x.disables.isEmpty then s.handOver id .ok (BitVec.ofNat 32 n)
  else
    (s.modPort p fun x => { x with disables := x.disables ++ [{ ort := id, count := n }] }).setOrtState id .waiting

def execPortDisable (q : Routed) (s : State) : Result :=
  .next (s.take kindPortDisable q.record (checkPortOnly q.record) (State.toPort kindPortDisable q (State.disablePort q.record)))

/-! ### PORT_QUERY (R40, R41) -/

def State.queryPort (r : ReqRecord) (id : Nat) (s : State) : State :=
  let p := targetPort r
  let q : Query := { ort := id, buffer := queryBuffer r,
                     report := portReport (s.port p) s.timebase (s.rxdLevel p), state := (s.port p).state }
  (s.modPort p fun x => { x with queries := x.queries ++ [q], xclaims := x.xclaims ++ [.report id] }).setOrtState id .active

def execPortQuery (q : Routed) (s : State) : Result :=
  .next (s.take kindPortQuery q.record (checkPortQuery q.record) (State.toPort kindPortQuery q (State.queryPort q.record)))

/-- A report write ends: its query is handed, and then a PORT_DISABLE that waited for it (R31, R41). -/
def State.reportEnded (p : PortId) (id : Nat) (ok : Bool) (s : State) : State :=
  match (s.port p).queries.find? fun q => q.ort = id with
  | none => s
  | some q =>
    let s := s.modPort p fun x => { x with queries := x.queries.filter fun q => q.ort ≠ id }
    let s := if ok then s.handOver id .ok (q.state.code.setWidth 32) else s.handOver id .bufferFault 0
    s.accessEnded p

def execPortReportWriteEnd (ok : Bool) (s : State) : Result :=
  match s.bus.flight with
  | some { access := .reportWrite p id _ _, .. } => .next (s.endFlight.reportEnded p id ok)
  | _ => .next s

/-! ### FLT_n and OVERCURRENT (R35, R37) -/

def execFltNAsserted (p : PortId) (s : State) : Result :=
  .next (s.modPort p fun x => { x with
    flt := true, blank := if x.lf.txen && x.blank.isNone then some s.time else x.blank })

def execFltNDeasserted (p : PortId) (s : State) : Result :=
  .next (s.modPort p fun x => { x with flt := false, blank := none })

def execOvercurrent (p : PortId) (s : State) : Result :=
  atInstant (s.overcurrentDue p) (State.enterFault p .overcurrent) s

end Sys2Proof.Machine
end

