-- ==== Sys2Proof/Machine/BringUp.lean ====
section
/-! DEFINITION. BRING_UP, ATTEMPT and BACKOFF_EXPIRY (chapter 3). -/

namespace Sys2Proof.Machine

/-- BRING_UP at the port (R24, R25, R43). -/
def State.bringUpPort (r : ReqRecord) (id : Nat) (s : State) : State :=
  let p := targetPort r
  let x := s.port p
  if x.state = .idle || x.state = .ready then
    if x.slot.isSome then s.handOver id .busy 0
    else
      let s := (s.modPort p fun x => { x with
        slot := some (.bringUp, id), state := .bringup, counters := { x.counters with misses := 0 } }).setOrtState id .active
      let s := if x.state = .ready then s.stopActive p true false else s
      s.startSequence p .bringUp
  else s.badPortState id

def execBringUp (q : Routed) (s : State) : Result :=
  .next (s.take kindBringUp q.record (checkPortOnly q.record) (State.toPort kindBringUp q (State.bringUpPort q.record)))

def execAttempt (p : PortId) (s : State) : Result := atInstant (s.attemptDue p) (State.beginAttempt p) s

/-- The backoff timer expires: the sequencer goes to LINE_WAIT (R49). -/
def execBackoffExpiry (p : PortId) (s : State) : Result :=
  atInstant (s.backoffDue p) (State.modSeq p fun q => { q with phase := .lineWait, backoff := none }) s

end Sys2Proof.Machine
end

