-- ==== Sys2Proof/Machine/Schedule.lean ====
section
/-! DEFINITION. The Schedule Unit: GROUP_CONFIG, fires and re-fires by SYNC_FIRE and SYNC_IN, beats and SYNC_OUT
(chapter 4). -/

namespace Sys2Proof.Machine

/-! ### GROUP_CONFIG (R65) -/

def State.configureGroup (r : ReqRecord) (id : Nat) (s : State) : State :=
  let g := targetGroup r
  if (s.group g).members.isEmpty then
    (s.modGroup g fun x => { x with
      period := groupPeriodOf r, source := groupSourceOf r, running := none, beatNumber := 0 }).handOver id .ok 0
  else s.handOver id .busy 0

def execGroupConfig (q : Routed) (s : State) : Result :=
  .next (s.take kindGroupConfig q.record (checkGroupConfig q.record) (State.toUnit kindGroupConfig q (State.configureGroup q.record)))

/-! ### Fires (R69, R75, R76) -/

/-- The epoch of a fire taken now (R67, R68). -/
def State.fireEpoch (s : State) : Word := s.timebase + BitVec.ofNat 32 Config.fireLead

/-- The next start of a port's schedule entry is set, its sampling not delivered. -/
def State.setNext (p : PortId) (n : Option Word) (s : State) : State :=
  s.modPort p fun x => { x with sched := x.sched.map fun k => { k with next := n, delivered := false } }

/-- A confirmed member that waits in ARMED for the fire is given its first start (R69). -/
def State.firstFire (g : GroupId) (m : Member) (s : State) : State :=
  let x := s.port m.port
  if x.state = .armed && (x.sched.bind (·.next)).isNone then
    s.setNext m.port ((s.firstStart g m.divisor m.phase (s.startBound (s.lineFree m.port))).map (·.1))
  else s

/-- A confirmed member of a group fired again moves onto the new epoch (R75, R76). -/
def State.refire (g : GroupId) (m : Member) (s : State) : State :=
  let p := m.port
  let carriesOut := fun (s : State) => (s.port p).state = .armed || (s.port p).state = .cyclic
  let lineFree := if (s.port p).state = .recovery then s.time else s.lineFree p
  match s.firstStart g m.divisor m.phase (s.startBound lineFree), (s.port p).sched with
  | some (n, slips), some k =>
    let s := if k.next = some n then s
      else
        let s := s.setNext p (some n)
        if k.delivered && carriesOut s then (s.discardSample p).cycleEnds p else s
    if slips ≠ 0 && carriesOut s then
      (s.modCounters p fun c => { c with slips := satAdd c.slips (BitVec.ofNat 32 slips) }).post p .cycleSlip
        (BitVec.ofNat 32 slips)
    else s
  | _, _ => s

/-- A group is fired now: its epoch, next beat and beat number, and then each confirmed member in turn (R69, R75; log
entry 15). An old beat due in this microsecond and not yet reached is dropped, and its pulse with it: R75 speaks of the old beats
after the fire alone (DESIGN CHOICE, log entry 44). -/
def State.fire (g : GroupId) (s : State) : State :=
  let again := (s.group g).running.isSome
  let epoch := s.fireEpoch
  let s := s.modGroup g fun x => { x with
    running := some { epoch := epoch, next := epoch, fresh := true }, beatNumber := 0 }
  ((s.group g).members.filter fun m => !m.tentative).foldl
    (fun s m => if again then s.refire g m else s.firstFire g m) s

/-- SYNC_FIRE at the Schedule Unit (R67). The groups of one mask are fired in the order of their numbers, and the SYNC_FIRE is
handed over after the posts and completions that its fires bring at the ports: the spec leaves both open (DESIGN CHOICE, log
entry 15). -/
def State.syncFireGroups (r : ReqRecord) (id : Nat) (s : State) : State :=
  let named := allGroups.filter (maskNames r)
  if named.any fun g => (s.group g).source = .line then s.handOver id .badParameter 0
  else (named.foldl (fun s g => s.fire g) s).handOver id .ok s.fireEpoch

def execSyncFire (q : Routed) (s : State) : Result :=
  .next (s.take kindSyncFire q.record (checkSyncFire q.record) (State.toUnit kindSyncFire q (State.syncFireGroups q.record)))

/-- The setup block in force selects the edge to this level (R68, R159). -/
def State.edgeSelected (s : State) (high : Bool) : Bool :=
  match s.setup with
  | some u => u.fallingEdge != high
  | none => false

/-- SYNC_IN takes a level: a change is an edge, and a selected edge fires every LINE group (R68), in the order of their
numbers, which the spec leaves open (DESIGN CHOICE, log entry 15). -/
def execSyncIn (high : Bool) (s : State) : Result :=
  onlyIf (s.syncInLevel != high)
    (fun s =>
      let s := { s with syncInLevel := high }
      if s.edgeSelected high then
        (allGroups.filter fun g => (s.group g).source = .line).foldl (fun s g => s.fire g) s
      else s) s

/-! ### Beats and SYNC_OUT (R64, R77) -/

/-- A RUNNING group reaches its next beat (R64). -/
def State.takeBeat (g : GroupId) (s : State) : State :=
  match (s.group g).running with
  | none => s
  | some b =>
    let pulse : Bool := match s.setup with
      | some u => u.syncOut = some g
      | none => false
    let s := if pulse then { s with syncOutEnd := some (s.timeOf b.next + usUnits Config.syncOutLen) } else s
    s.modGroup g fun x => { x with
      beatNumber := (x.beatNumber + 1) % Config.beatModulus
      running := some { b with next := b.next + BitVec.ofNat 32 x.period, fresh := false } }

def execBeat (g : GroupId) (s : State) : Result := atInstant (s.beatDue g) (State.takeBeat g) s

def execSyncOutPulseEnd (s : State) : Result :=
  atInstant s.syncOutEndDue (fun s => { s with syncOutEnd := none }) s

end Sys2Proof.Machine
end

