-- ==== Sys2Proof/Machine/Cycle.lean ====
section
/-! DEFINITION. CYCLE_START, CYCLE_STOP, sampling, start instants and input image writes (chapter 5). -/

namespace Sys2Proof.Machine

/-! ### CYCLE_START (R66, R79 to R81) -/

/-- A tentative join (R66). -/
def State.join (g : GroupId) (p : PortId) (d phase : Nat) (s : State) : State :=
  s.modGroup g fun x => { x with
    members := x.members ++ [{ port := p, divisor := d, phase := phase, tentative := true }] }

/-- The join is withdrawn (R66). -/
def State.withdrawJoin (g : GroupId) (p : PortId) (s : State) : State :=
  s.modGroup g fun x => { x with members := x.members.filter fun m => m.port ≠ p }

/-- The join is confirmed (R66). -/
def State.confirmJoin (g : GroupId) (p : PortId) (s : State) : State :=
  s.modGroup g fun x => { x with
    members := x.members.map fun m => if m.port = p then { m with tentative := false } else m }

/-- The checks of CYCLE_START after its join: none when it is accepted (R79 steps 4 to 6). -/
def cycleStartFailure (x : Port) (l : Link) (period : Nat) (phaseOk : Bool) : Option Status :=
  firstFailure
    [(x.config.inImage != 0 && (l.desc.outLen == 0 || x.config.outImage != 0), .badParameter),
     (phaseOk, .badParameter), (periodTest x.config l period, .badPeriod)]

/-- An accepted CYCLE_START: the slot, the schedule entry, the cleared sample, ARMED (R81). -/
def State.arm (p : PortId) (id : Nat) (k : Sched) (s : State) : State :=
  (s.modPort p fun x => { x with
    slot := some (.cycleStart, id), sched := some k, state := .armed
    cyc := { x.cyc with lastGen := none, lastData := none } }).setOrtState id .waiting

/-- CYCLE_START at the port (R79). -/
def State.startCycling (r : ReqRecord) (id : Nat) (s : State) : State :=
  let p := targetPort r
  let x := s.port p
  match x.state, x.link with
  | .ready, some l =>
    if x.slot.isSome then s.handOver id .busy 0
    else
      match cycleGroup r with
      | some g =>
        let s := s.join g p (cycleDivisor r) (cyclePhase r)
        let period := cycleDivisor r * (s.group g).period
        match cycleStartFailure x l period (cyclePhase r < (s.group g).period) with
        | some st => (s.withdrawJoin g p).handOver id st 0
        | none =>
          let s := s.confirmJoin g p
          let next := (s.firstStart g (cycleDivisor r) (cyclePhase r) (s.startBound (s.lineFree p))).map (·.1)
          s.arm p id { kind := .grouped g (cycleDivisor r) (cyclePhase r), period := period, next := next,
                       delivered := false }
      | none =>
        match cycleStartFailure x l (cycleFreePeriod r) true with
        | some st => s.handOver id st 0
        | none =>
          let bound := max (usUnits (s.micros + 100)) (s.lineFree p + usUnits Config.samplingLead)
          s.arm p id { kind := .free, period := cycleFreePeriod r, next := some (freeStart bound), delivered := false }
  | _, _ => s.badPortState id

def execCycleStart (q : Routed) (s : State) : Result :=
  .next (s.take kindCycleStart q.record (checkCycleStart q.record) (State.toPort kindCycleStart q (State.startCycling q.record)))

/-! ### CYCLE_STOP (R98, R99) -/

/-- CYCLE_STOP at the port (R25, R60, R98). -/
def State.stopCycling (r : ReqRecord) (id : Nat) (s : State) : State :=
  let p := targetPort r
  let x := s.port p
  match x.state with
  | .ready => s.handOver id .ok 0
  | .recovery => ((s.leave p).modPort p fun x => { x with resume := false }).handOver id .ok 0
  | .armed => ((s.toReady p).endSlot p (fun _ => .cancelled) 0).handOver id .ok 0
  | .cyclic =>
    if x.slot.isSome then s.handOver id .busy 0
    else if x.cyc.busy then
      (s.modPort p fun x => { x with slot := some (.cycleStop, id), stopPending := true }).setOrtState id .waiting
    else (s.toReady p).handOver id .ok 0
  | .disabled | .idle | .bringup | .fault => s.badPortState id

def execCycleStop (q : Routed) (s : State) : Result :=
  .next (s.take kindCycleStop q.record (checkPortOnly q.record) (State.toPort kindCycleStop q (State.stopCycling q.record)))

/-! ### Sampling (R74, R83, R85) -/

/-- The state admits a sampling instant (R83). -/
def Port.admitsSampling (x : Port) : Bool :=
  x.state = .armed || (x.state = .cyclic && !x.stopWaits && !x.cyc.faultPending)

def State.sampleNow (p : PortId) (s : State) : State :=
  let s := s.modPort p fun x => { x with sched := x.sched.map fun k => { k with delivered := true } }
  if (s.port p).admitsSampling then s.beginSample p else s

def execSamplingInstant (p : PortId) (s : State) : Result := atInstant (s.samplingDue p) (State.sampleNow p) s

def execSamplingReadEnd (d : Option ReadData) (s : State) : Result :=
  match s.bus.flight with
  | some { access := .sampleRead p stage addr _, live := live, wanted := wanted } =>
    let s := s.endFlight
    if live then
      match d with
      | none => .next (s.imageFault p addr)
      | some d => .next (if wanted then s.modCyc p (CycleEngine.sampled (s.port p).outLen stage d) else s)
    else .next s
  | _ => .next s

/-! ### Start instants (R74, R82, R83, R89) -/

/-- The port acts on a start instant `n` by its state (R82, R83). -/
def State.actOnStart (p : PortId) (n : Word) (s : State) : State :=
  let x := s.port p
  match x.state with
  | .armed => ((s.setPortState p .cyclic).endSlot p (fun _ => .ok) n).cycleAtStart p n
  | .cyclic => if (x.stopWaits || x.cyc.faultPending) && !x.cyc.admitted then s else s.cycleAtStart p n
  | .disabled | .idle | .bringup | .ready | .recovery | .fault => s

/-- The start instant is delivered: the next start moves on by the period, and the port acts (R74). -/
def State.startNow (p : PortId) (s : State) : State :=
  match (s.port p).sched with
  | some { next := some n, period := period, .. } =>
    (s.setNext p (some (n + BitVec.ofNat 32 period))).actOnStart p n
  | _ => s

def execStartInstant (p : PortId) (s : State) : Result := atInstant (s.startDue p) (State.startNow p) s

/-! ### Input image writes (R93, R96) -/

def execInputImageWriteEnd (ok : Bool) (s : State) : Result :=
  match s.bus.flight with
  | some { access := .imageWrite p header addr _, live := live, .. } =>
    let s := s.endFlight
    if live then
      .next (if !ok then s.imageFault p addr
        else if header then s.modCyc p fun c => { c with writing := c.writing - 1 } else s)
    else .next s
  | _ => .next s

end Sys2Proof.Machine
end

