-- ==== Sys2Proof/Machine/Transfer.lean ====
section
/-! DEFINITION. PARAM_READ, PARAM_WRITE and the steps of the Transfer Engine (R26, chapter 6). -/

namespace Sys2Proof.Machine

/-! ### PARAM_READ and PARAM_WRITE (R24, R26) -/

/-- The states that take a transfer into the acyclic queue (R24). -/
def PortState.takesTransfers : PortState → Bool
  | .bringup | .ready | .armed | .cyclic | .recovery => true
  | .disabled | .idle | .fault => false

/-- A transfer at the port: refused by state, refused for a full queue, or queued (R24, R26). -/
def State.queueTransfer (write : Bool) (r : ReqRecord) (id : Nat) (s : State) : State :=
  let p := targetPort r
  let x := s.port p
  if !x.state.takesTransfers then s.badPortState id
  else if Config.queueSize ≤ x.queue.length then s.handOver id .queueFull 0
  else
    let t : Transfer := { ort := id, tag := r.tag, write := write, index := paramIndex r, length := paramLength r,
                          buffer := paramBuffer r, ending := none }
    (s.modPort p fun x => { x with queue := x.queue ++ [t] }).setOrtState id .queued

def execParamRead (q : Routed) (s : State) : Result :=
  .next (s.take kindParamRead q.record (checkParam q.record) (State.toPort kindParamRead q (State.queueTransfer false q.record)))

def execParamWrite (q : Routed) (s : State) : Result :=
  .next (s.take kindParamWrite q.record (checkParam q.record) (State.toPort kindParamWrite q (State.queueTransfer true q.record)))

/-! ### Activation and hand-overs (R105 to R108, R117) -/

def State.activateHead (p : PortId) (s : State) : State :=
  match s.activatable p with
  | some t => s.activate p t
  | none => s

def execActivation (p : PortId) (s : State) : Result := atInstant (s.activationDue p) (State.activateHead p) s

/-- The built segment goes out, or its transfer ends WINDOW_TOO_SMALL (R105 to R107). -/
def State.handSegment (p : PortId) (s : State) : State :=
  match (s.port p).te.segment with
  | none => s
  | some g => match s.handOverTest p g.chars with
    | .goes => s.sendSegment p g
    | .unfit => s.endActive p .windowTooSmall 0
    | .waits => s

def execSegmentHandOver (p : PortId) (s : State) : Result := atInstant (s.segmentDue p) (State.handSegment p) s

/-- The SVC_ABANDON goes out, or its transfer ends without it (R107, R117). -/
def State.handAbandon (p : PortId) (s : State) : State :=
  match s.handOverTest p 2 with
  | .goes =>
    (s.handToLine p (.frame (abandonFrame (s.port p)))).modTe p fun te => { te with phase := .abandonExchange }
  | .unfit => s.endAbandoned p
  | .waits => s

def execSvcAbandon (p : PortId) (s : State) : Result := atInstant (s.abandonDue p) (State.handAbandon p) s

/-! ### Ends of accesses (R109, R110, R30, R34) -/

def execTransferFetchEnd (d : Option ReadData) (s : State) : Result :=
  match s.bus.flight with
  | some { access := .transferFetch p _ _, live := live, .. } =>
    .next (if live then s.endFlight.fetchEnded p d else s.endFlight.formerEnded p)
  | _ => .next s

def execTransferStoreEnd (ok : Bool) (s : State) : Result :=
  match s.bus.flight with
  | some { access := .transferStore p _ _, live := live, .. } =>
    .next (if live then s.endFlight.storeEnded p ok else s.endFlight.formerEnded p)
  | _ => .next s

end Sys2Proof.Machine
end

