-- ==== Sys2Proof/Machine/Line.lean ====
section
/-! DEFINITION. The steps of the Line Framer (chapter 1) and LINE_STUCK. -/

namespace Sys2Proof.Machine

/-! ### Sending (R11, R12) -/

def execIdleCheck (p : PortId) (s : State) : Result := atInstant (s.idleCheckDue p) (State.startOnLine p) s

/-- The middle of bit number `bit` of an exchange's master frame (R12). -/
def Exchange.sampleOf (e : Exchange) (bit : Nat) : Nat := e.start + bit * e.frame.speed.tb + e.frame.speed.tb / 2

/-- The echo differs from the level driven at a bit sample: RXD shows the other level, and the exchange fails (R12). -/
def State.collide (p : PortId) (e : Exchange) (bit : Nat) (s : State) : State :=
  let level := !((frameBits e.frame).getD bit true)
  let s := s.modPort p fun x => { x with rxd := level, lf := x.lf.stretch level s.time }
  s.endExchange p e.frame (.failed .collision) s.time

def execCollision (p : PortId) (bit : Nat) (s : State) : Result :=
  match (s.port p).lf.state, (s.port p).lf.flight with
  | .sending, some e =>
    if bit < 10 * e.frame.chars then exactlyAt (e.sampleOf bit) (State.collide p e bit) s else .next s
  | _, _ => .next s

/-- TXEN is deasserted: RXD shows the line's own level from now on; where that is recessive, the stretch goes back to the
last `tail` that the part itself drove recessive (R11; log entry 12). -/
def State.releaseLine (p : PortId) (tail : Nat) (s : State) : State :=
  s.modPort p fun x => { x with
    lf := { (x.lf.stretch x.rxd (if x.rxd then s.time - tail else s.time)) with txen := false } }

/-- The last stop bit ends: TXEN is deasserted, the T_resp timer starts (R12, R13). A line that is dominant then takes RXD from
the stop bit's level to its own, a candidate start edge (R4; log entry 12). -/
def State.frameSent (p : PortId) (s : State) : State :=
  match (s.port p).lf.flight with
  | none => s
  | some e =>
    let tb := e.frame.speed.tb
    (s.releaseLine p (tailRecessive ((frameOctets e.frame).getLastD 0) * tb)).modPort p fun x => { x with lf := { x.lf with
      state := .awaiting, timer := some (s.time + x.config.tResp * tb), candidate := if x.rxd then none else some s.time } }

def execMasterFrameEnd (p : PortId) (s : State) : Result := atInstant (s.masterFrameEndDue p) (State.frameSent p) s

/-! ### The reply (R4, R13 to R15) -/

/-- A start edge at `t` agrees with what RXD_LEVEL_CHANGE has told: it is the candidate edge that awaits its sample, the line
being dominant; or, where the awaiting edge is to prove a glitch or none awaits, an edge not told before, after that sample and
not in the past (R4; log entry 11). -/
def State.edgeAgrees (s : State) (p : PortId) (t : Nat) : Bool :=
  let f := (s.port p).lf
  match f.pendingEdge s.time with
  | some c => if (s.port p).rxd then c + f.halfTb < t else t = c
  | none => s.time ≤ t

/-- The edge at `t` was told by RXD_LEVEL_CHANGE, and so are the levels since. -/
def State.edgeTold (s : State) (p : PortId) (t : Nat) : Bool := (s.port p).lf.pendingEdge s.time == some t

/-- The level on RXD and since when, as a command tells it, unless RXD_LEVEL_CHANGE has told it (R11; log entry 11). -/
def State.lineIs (p : PortId) (told recessive : Bool) (since : Nat) (s : State) : State :=
  if told then s else s.modPort p fun x => { x with rxd := recessive, lf := x.lf.stretch recessive since }

/-- The level on RXD after a character begun at `edge`: what was told since that edge, else what its bits leave (R11; log entry
11). -/
def State.levelAfter (p : PortId) (edge : Nat) (recessive : Bool) (since : Nat) (s : State) : State :=
  s.lineIs p ((s.port p).lf.toldSince edge) recessive since

/-- Time moves to `t` unless another step is due before; what the port's own reception waits for is what `act` brings. -/
def State.replyAt (p : PortId) (t : Nat) (act : State → State) (s : State) : Result :=
  match (s.modLf p fun f => { f with timer := none, rx := none, candidate := none }).reach t with
  | some s' => .next (act s')
  | none => .next s

/-- The reply's first character is under way since `t` (R13). -/
def State.beginReply (p : PortId) (told : Bool) (t : Nat) (s : State) : State :=
  (s.lineIs p told false t).modLf p fun f => { f with
    state := .receiving, timer := none, candidate := none
    rx := some { edge := some t, count := 0, crc := crcPreset, octets := [], lastEnd := t } }

def execReplyStartEdge (p : PortId) (edge : Nat) (s : State) : Result :=
  let x := s.port p
  match x.lf.state, x.lf.flight with
  | .awaiting, some e =>
    let tb := e.frame.speed.tb
    let t := e.start + 10 * e.frame.chars * tb + edge
    if edge ≤ x.config.tResp * tb && s.edgeAgrees p t then
      s.replyAt p (t + tb / 2) (State.beginReply p (s.edgeTold p t) t)
    else .next s
  | _, _ => .next s

/-- An expiry of T_resp or G is judged `hold` after it, where a candidate edge held it that long and proved a glitch (R4). -/
def State.expire (p : PortId) (c : Cause) (due : Option Nat) (hold : Nat) (s : State) : Result :=
  match (s.port p).lf.flight, due with
  | some e, some t =>
    if hold = s.heldBy p t then exactlyAt (max s.time t) (fun s => s.endExchange p e.frame (.failed c) s.time) s else .next s
  | _, _ => .next s

def execNoReply (p : PortId) (hold : Nat) (s : State) : Result := s.expire p .noReply (s.noReplyDue p) hold

def execGap (p : PortId) (hold : Nat) (s : State) : Result := s.expire p .gap (s.gapDue p) hold

/-- The next start edge that a STATION_REPLY tells falls within G, and is not told where none can follow (R14). -/
def nextEdgeOk (gapLimit : Nat) (next : Option Nat) (rx : Rx) : Bool := next.all fun g => rx.edge.isNone && g ≤ gapLimit

/-- The start edge that a STATION_REPLY tells first agrees with what has been told: that of its first character, or, where that one
is under way already and an edge told as it ends awaits its sample, that of the character after it (R4; log entry 11). -/
def State.edgesAgree (s : State) (p : PortId) (tb : Nat) (rx : Rx) (chars : List RxChar) (next : Option Nat) : Bool :=
  let gaps := chars.map (·.gap) ++ next.toList
  match rx.edge with
  | some t => ((s.port p).lf.pendingEdge s.time).isNone || gaps[1]?.all fun g => s.edgeAgrees p (t + 10 * tb + g)
  | none => gaps.head?.all fun g => s.edgeAgrees p (rx.lastEnd + g)

/-- The instant at which reception stands as `rx` tells, with the next start edge confirmed half a Tb after it (R4). -/
def receivedAt (tb : Nat) (next : Option Nat) (rx : Rx) : Nat :=
  match next with
  | some g => rx.lastEnd + g + tb / 2
  | none => rx.lastEnd

/-- Further characters are expected: the G timer runs, or the next character is under way already, its edge told before or not
(R14). A candidate edge that fell as the last character ended stays (R4). -/
def State.received (p : PortId) (tb : Nat) (told : Bool) (candidate : Option Nat) (next : Option Nat) (rx : Rx) (s : State) :
    State :=
  match next with
  | some g =>
    (s.lineIs p told false (rx.lastEnd + g)).modLf p fun f => { f with
      timer := none, candidate := none, rx := some { rx with edge := some (rx.lastEnd + g) } }
  | none =>
    (s.levelAfter p (rx.lastEnd - 10 * tb) true (rx.lastEnd - tailRecessive (rx.octets.getLastD 0) * tb)).modPort p fun x =>
      { x with lf := { x.lf with
        timer := some (rx.lastEnd + x.config.gapLimit * tb), candidate := candidate.filter (rx.lastEnd ≤ ·), rx := some rx } }

/-- The reply ends the exchange (R15, R16). -/
def State.replyEnds (p : PortId) (f : Frame) (o : Outcome) (edge : Nat) (recessive : Bool) (since : Nat) (s : State) : State :=
  (s.levelAfter p edge recessive since).endExchange p f o s.time

/-- What the characters of a STATION_REPLY bring about, and when. -/
def State.replyEffect (s : State) (p : PortId) (f : Frame) (rx : Rx) (chars : List RxChar) (next : Option Nat) :
    Option (Nat × (State → State)) :=
  let tb := f.speed.tb
  let limit := (s.port p).config.gapLimit * tb
  if !s.edgesAgree p tb rx chars next then none
  else match receive f limit chars rx with
    | .more rx' =>
      if (chars.isEmpty && next.isNone) || !nextEdgeOk limit next rx' then none
      else some (receivedAt tb next rx',
        State.received p tb (next.any fun g => s.edgeTold p (rx'.lastEnd + g)) (s.port p).lf.candidate next rx')
    | .ends o t edge recessive since => some (t, State.replyEnds p f o edge recessive since)
    | .tooLate => none

def execStationReply (p : PortId) (chars : List RxChar) (next : Option Nat) (s : State) : Result :=
  match (s.port p).lf.state, (s.port p).lf.flight, (s.port p).lf.rx with
  | .receiving, some e, some rx =>
    match s.replyEffect p e.frame rx chars next with
    | some (t, act) => s.replyAt p t act
    | none => .next s
  | _, _, _ => .next s

/-! ### Guard and wake pulse (R16, R18) -/

def execGuardEnd (p : PortId) (s : State) : Result := atInstant (s.guardEndDue p) (State.guardOver p) s

/-- The dominant level of the wake pulse ends and the quiet time starts (R18). -/
def State.pulseSent (p : PortId) (s : State) : State :=
  (s.releaseLine p 0).modLf p fun f => { f with timer := some (s.time + usUnits Config.wakeQuiet) }

def execWakeDominantEnd (p : PortId) (s : State) : Result :=
  atInstant (s.wakeDominantEndDue p) (State.pulseSent p) s

def execQuietTimeEnd (p : PortId) (s : State) : Result := atInstant (s.quietTimeEndDue p) (State.pulseOver p) s

/-! ### Levels (R11, R36) -/

def execLineStuck (p : PortId) (s : State) : Result :=
  atInstant (s.lineStuckDue p) (State.enterFault p .lineStuck) s

/-- The line changes level (R1, R4, R11). In OFF no stretch is kept; while TXEN is asserted RXD reads the part's own level. -/
def State.lineLevel (p : PortId) (recessive : Bool) (s : State) : State :=
  s.modPort p fun x => { x with
    rxd := recessive
    lf := if x.lf.state = .off || x.lf.txen then x.lf else x.lf.change recessive s.time }

def execRxdLevelChange (p : PortId) (recessive : Bool) (s : State) : Result :=
  onlyIf ((s.port p).rxd != recessive) (State.lineLevel p recessive) s

end Sys2Proof.Machine
end

