-- ==== Sys2Proof/Machine/Arrivals.lean ====
section
/-! DEFINITION. The arrivals that the Dispatcher has handed to a port or to the Schedule Unit and that reach it after the take
(R134, R135; log entry 6). -/

namespace Sys2Proof.Machine

/-- A request of one of the eleven routed kinds acts at its target (R134). -/
def State.requestArrives (kind : Byte) (r : ReqRecord) (id : Nat) (s : State) : State :=
  if kind = kindPortConfig then s.configurePort r id
  else if kind = kindPortEnable then s.enablePort r id
  else if kind = kindPortDisable then s.disablePort r id
  else if kind = kindBringUp then s.bringUpPort r id
  else if kind = kindCycleStart then s.startCycling r id
  else if kind = kindCycleStop then s.stopCycling r id
  else if kind = kindGroupConfig then s.configureGroup r id
  else if kind = kindSyncFire then s.syncFireGroups r id
  else if kind = kindParamRead then s.queueTransfer false r id
  else if kind = kindParamWrite then s.queueTransfer true r id
  else if kind = kindPortQuery then s.queryPort r id
  else s

def State.arrives (a : Arrival) (s : State) : State :=
  match a with
  | .request id kind r => s.requestArrives kind r id
  | .abort abort id => s.abortArrives abort id

/-- The Port Controller takes the oldest of its arrivals (R135). -/
def State.portArrival (p : PortId) (s : State) : State :=
  match (s.port p).inbox with
  | a :: rest => (s.modPort p fun x => { x with inbox := rest }).arrives a
  | [] => s

/-- The Schedule Unit takes the oldest of its arrivals (R135). -/
def State.unitArrival (s : State) : State :=
  match s.unitInbox with
  | a :: rest => { s with unitInbox := rest }.arrives a
  | [] => s

end Sys2Proof.Machine
end

