-- ==== Sys2Proof/Machine/Completion.lean ====
section
/-! DEFINITION. The Completion Writer's record writes and interrupt moderator, and the arbiter's grants (chapter 8, R164). -/

namespace Sys2Proof.Machine

/-! ### The claim (R142, R151) -/

def execCompletionWriteClaim (s : State) : Result :=
  onlyIf s.recordDue.isSome (fun s => s.modBus fun b => { b with recordClaim := s.nextRecord }) s

/-! ### The grant (R164) -/

/-- An access is in flight. -/
def Bus.start (a : Access) (b : Bus) : Bus := { b with flight := some { access := a, live := true, wanted := true } }

/-- The access that an entry of a port's image access list makes (R84, R85, R93, section 10.5). -/
def imageAccess (p : PortId) (x : Port) : ImageAccess → Access
  | .sample .data => .sampleRead p .data (x.config.outImage + 8) x.outLen
  | .sample stage => .sampleRead p stage x.config.outImage 2
  | .write header addr l => .imageWrite p header addr l

/-- Class 1: the oldest access of the port (R84, R164). -/
def State.grantImage (p : PortId) (s : State) : State :=
  match (s.port p).cyc.list with
  | [] => s
  | a :: rest =>
    (s.modCyc p fun c => { c with list := rest }).modBus fun b =>
      { b.start (imageAccess p (s.port p) a) with last1 := p }

/-- The access that a claim of class 2 makes, or none where a report has gone (R40, R109, R110). -/
def claimAccess (p : PortId) (x : Port) : XClaim → Option Access
  | .fetch addr len => some (.transferFetch p addr len)
  | .store addr l => some (.transferStore p addr l)
  | .report ort => (x.queries.find? fun q => q.ort = ort).map fun q => .reportWrite p ort q.buffer q.report

/-- Class 2: the oldest claim of the port (R164). -/
def State.grantTransfer (p : PortId) (s : State) : State :=
  match (s.port p).xclaims with
  | [] => s
  | c :: rest =>
    (s.modPort p fun x => { x with xclaims := rest }).modBus fun b =>
      match claimAccess p (s.port p) c with
      | some a => { b.start a with last2 := p }
      | none => { b with last2 := p }

/-- The address of completion ring slot `i` and of request ring entry `i` (R141, R123). -/
def Setup.cplSlot (u : Setup) (i : Nat) : Word := u.cplBase + BitVec.ofNat 32 (16 * i)

def Setup.reqEntry (u : Setup) (i : Nat) : Word := u.reqBase + BitVec.ofNat 32 (32 * i)

/-- The slot the next record goes to. -/
def State.recordAddr (s : State) : Word := (s.setup.map fun u => u.cplSlot s.cpl.tail).getD 0

/-- Class 3: the record's contents are fixed, and it leaves its list (R142, R144, R145). -/
def State.grantRecord (c : RecordClaim) (s : State) : State :=
  let s := s.modBus fun b => { b with recordClaim := none }
  match c, s.cpl.done, s.cpl.events with
  | .completion, d :: rest, _ =>
    (s.modCpl fun k => { k with done := rest }).modBus
      (Bus.start (.recordWrite s.recordAddr (doneRecord d s.cpl.phase s.timebase s.head) (some d.ort)))
  | .event, _, e :: rest =>
    (s.modCpl fun k => { k with events := rest }).modBus
      (Bus.start (.recordWrite s.recordAddr (eventRecord e s.cpl.phase s.head) none))
  | _, _, _ => s

/-- Class 4: the setup read (R158). -/
def State.grantSetup (addr : Word) (s : State) : State :=
  s.modBus fun b => { b.start (.setupRead addr) with setupClaim := none }

/-- Class 4: the request fetch, of the entry at the head (R126). -/
def State.grantFetch (s : State) : State :=
  s.modBus fun b => { b.start (.requestFetch ((s.setup.map fun u => u.reqEntry s.head).getD 0)) with fetchClaim := false }

/-- One claim is granted (R164). -/
def State.grant (s : State) : State :=
  match s.nextGrant with
  | some (.image p) => s.grantImage p
  | some (.transfer p) => s.grantTransfer p
  | some (.record c) => s.grantRecord c
  | some (.setupRead a) => s.grantSetup a
  | some .requestFetch => s.grantFetch
  | none => s

def execBmuGrant (s : State) : Result := onlyIf s.grantDue.isSome State.grant s

/-! ### The end of a record write (R142, R143, R152) -/

/-- The tail advances, the phase turns over at the wrap, the used count rises (R141, R142). -/
def CompletionWriter.advance (size : Nat) (c : CompletionWriter) : CompletionWriter :=
  let tail := (c.tail + 1) % size
  { c with tail := tail, phase := if tail = 0 then !c.phase else c.phase, used := c.used + 1 }

/-- The interrupt moderator at a successful record write at `now`, whose fraction of a microsecond counts (R152; DEDUCED, log entry
43). -/
def CompletionWriter.moderate (threshold holdoff now : Nat) (c : CompletionWriter) : CompletionWriter :=
  { c with
    unsignalled := c.unsignalled + 1
    holdoff := if c.unsignalled = 0 then some (now + usUnits holdoff) else c.holdoff
    condition := c.condition || threshold ≤ c.unsignalled + 1 }

/-- A record has reached memory: R142 steps 1 to 4. -/
def State.recordWritten (u : Setup) (ort : Option Nat) (s : State) : State :=
  let s := s.modCpl (CompletionWriter.advance u.cplSize)
  let s := match ort with
    | some id => s.freeEntry fun e => e.id = id
    | none => s
  s.modCpl (CompletionWriter.moderate u.threshold u.holdoff s.time)

def execRecordWriteEnd (ok : Bool) (s : State) : Result :=
  match s.bus.flight, s.setup with
  | some { access := .recordWrite _ _ ort, .. }, some u =>
    .next (if ok then s.endFlight.recordWritten u ort
      else if s.runningOrPaused then s.endFlight.halt .cplBusError else s.endFlight)
  | _, _ => .next s

/-! ### The holdoff timer (R152) -/

/-- The timer stops; with records unsignalled the interrupt condition is met. -/
def CompletionWriter.expire (c : CompletionWriter) : CompletionWriter :=
  { c with holdoff := none, condition := c.condition || 1 ≤ c.unsignalled }

def execHoldoffExpiry (s : State) : Result := atInstant s.holdoffDue (State.modCpl CompletionWriter.expire) s

end Sys2Proof.Machine
end

