-- ==== Sys2Proof/Machine/Registers.lean ====
section
/-! DEFINITION. The register window, the part states and the resets (chapter 9), REQ_TAIL (R124) and CPL_HEAD (R146,
R153). -/

namespace Sys2Proof.Machine

/-- The Register Window takes writes: not while RESETTING, nor while RESET_N is asserted (R154). -/
def State.windowOpen (s : State) : Bool := !s.resetAsserted && s.part ≠ .resetting

/-! ### REQ_TAIL (R124) -/

/-- The request ring size in force is passed by `v`. -/
def State.tailOut (s : State) (v : Word) : Bool := (s.setup.map (·.reqSize)).getD 0 ≤ v.toNat

/-- REQ_TAIL is written (R124). A fetch of the head entry already claimed or in flight goes on, even where the new tail is the
head (DESIGN CHOICE, log entry 37). -/
def State.writeReqTail (v : Word) (s : State) : State :=
  let s := { s with reqTailReg := v }
  if s.runningOrPaused then
    if s.tailOut v then s.halt .badTail else { s with tail := v.toNat }
  else s

def execReqTail (v : Word) (s : State) : Result := onlyIf s.windowOpen (State.writeReqTail v) s

/-! ### CPL_HEAD (R146, R153) -/

/-- A CPL_HEAD write acknowledges the interrupt, whatever its value (R153). -/
def CompletionWriter.acknowledge (c : CompletionWriter) : CompletionWriter :=
  { c with unsignalled := 0, holdoff := none, condition := false }

/-- How many slots a CPL_HEAD write of `v` returns (R146). -/
def CompletionWriter.delta (size : Nat) (v : Word) (c : CompletionWriter) : Nat := (v.toNat + size - c.head) % size

/-- The judgement of a CPL_HEAD write in RUNNING and PAUSED (R146). -/
def State.returnSlots (size : Nat) (v : Word) (s : State) : State :=
  if size ≤ v.toNat then s.halt .badHead
  else if s.cpl.used < s.cpl.delta size v then s.halt .badHead
  else s.modCpl fun c => { c with head := v.toNat, used := c.used - c.delta size v }

def State.writeCplHead (v : Word) (s : State) : State :=
  let s := { s with cplHeadReg := v }.modCpl CompletionWriter.acknowledge
  if s.runningOrPaused then s.returnSlots ((s.setup.map (·.cplSize)).getD 0) v else s

def execCplHead (v : Word) (s : State) : Result := onlyIf s.windowOpen (State.writeCplHead v) s

/-! ### Resets (R162, R163) -/

/-- Every block at its reset value, the input pins, the timebase and the model's own queue and counter of choices left
as they are (R162 steps 2 to 4; log entries 8 and 30). -/
def State.cleared (s : State) (setupAddr : Word) : State :=
  { State.reset with
    time := s.time
    setupAddr := setupAddr
    ports := s.ports.map fun x => Port.resetWith x.flt x.rxd
    syncInLevel := s.syncInLevel
    choices := s.choices
    pending := s.pending }

/-- SOFT_RESET (R162): an access in flight is left to end, and until it ends the part is RESETTING. -/
def State.softReset (s : State) : State :=
  let fresh := s.cleared s.setupAddr
  if s.bus.flight.isSome then
    { fresh with
      part := .resetting
      bus := { Bus.reset with flight := some { access := .left, live := false, wanted := false } } }
  else fresh

/-- The access left on the bus has ended; its result is dropped (R162). -/
def State.softResetEnded (s : State) : State := { s.endFlight with part := .off }

def execSoftResetEnd (s : State) : Result := onlyIf (s.part = .resetting) State.softResetEnded s

/-- RESET_N is asserted: as a soft reset, with SETUP_ADDR and the timebase at 0 and the bus released at once (R163). -/
def State.powerOnReset (s : State) : State := { s.cleared 0 with time := 0, resetAsserted := true }

def execPowerOnReset (s : State) : Result := .next s.powerOnReset

/-- RESET_N is deasserted: the part is OFF, and the timebase counts from 0 (R163). -/
def execResetNDeasserted (s : State) : Result := .next { s with resetAsserted := false }

/-! ### CTRL (R156, R157) -/

/-- The part enters STARTING: it takes SETUP_ADDR, and claims the setup read or halts (R158). -/
def State.enterStarting (s : State) : State :=
  if s.setupAddr = 0 then { s with part := .starting }.halt .badSetup
  else { s with part := .starting }.modBus fun b => { b with setupClaim := some s.setupAddr }

/-- ENABLE is stored, and a change of it acts by part state (R156, R157). -/
def State.writeEnable (v : Bool) (s : State) : State :=
  let stored := { s with ctrlEnable := v }
  if s.ctrlEnable = v then stored
  else if v then
    match s.part with
    | .off => stored.enterStarting
    | .paused => { stored with part := .running }
    | .starting | .running | .halted | .resetting => stored
  else
    match s.part with
    | .running => { stored with part := .paused }.withdrawFetch
    | .off | .starting | .paused | .halted | .resetting => stored

/-- A write to CTRL acts on its three fields (R156). -/
def State.writeCtrl (v : Word) (s : State) : State :=
  if v.getLsbD 1 then s.softReset else { s.writeEnable (v.getLsbD 0) with intEnable := v.getLsbD 2 }

def execEnable (v : Word) (s : State) : Result := onlyIf s.windowOpen (State.writeCtrl v) s

def execSoftReset (v : Word) (s : State) : Result := onlyIf s.windowOpen (State.writeCtrl v) s

def execIntEnable (v : Word) (s : State) : Result := onlyIf s.windowOpen (State.writeCtrl v) s

/-! ### Other writes (R154, R155) -/

/-- SETUP_ADDR as stored: its five low bits read as 0 (R155). -/
def setupAddrOf (v : Word) : Word := v &&& 0xFFFFFFE0#32

/-- A slave write at an offset of the window: the write rule of the register there, or nothing (R154). A 32-bit write at an
offset that is not a multiple of 4 is at no register (DESIGN CHOICE, log entry 38). -/
def State.writeRegister (offset : Nat) (width : AccessWidth) (v : Word) (s : State) : State :=
  if width ≠ .w32 then s
  else if offset = 0x04 then s.writeCtrl v
  else if offset = 0x0C then { s with setupAddr := setupAddrOf v }
  else if offset = 0x10 then s.writeReqTail v
  else if offset = 0x18 then s.writeCplHead v
  else s

def execRegisterWrite (offset : BitVec 6) (width : AccessWidth) (v : Word) (s : State) : Result :=
  onlyIf s.windowOpen (State.writeRegister offset.toNat width v) s

/-! ### The setup read (R158, R159) -/

/-- The accepted block is in force, and the part runs or pauses (R157, R159). -/
def State.accept (u : Setup) (s : State) : State :=
  { s with
    setup := some u
    tail := s.reqTailReg.toNat
    part := if s.ctrlEnable then .running else .paused }

/-- The setup read has ended in STARTING (R158, R159). -/
def State.setupRead (d : Option ReadData) (s : State) : State :=
  match d with
  | none => s.halt .setupBusError
  | some d => match setupOf d with
    | none => s.halt .badSetup
    | some u =>
      if u.reqSize ≤ s.reqTailReg.toNat then s.halt .badTail
      else if s.cplHeadReg ≠ 0 then s.halt .badHead
      else s.accept u

def execSetupReadEnd (d : Option ReadData) (s : State) : Result :=
  match s.bus.flight with
  | some { access := .setupRead _, .. } =>
    .next (if s.part = .starting then s.endFlight.setupRead d else s.endFlight)
  | _ => .next s

end Sys2Proof.Machine
end

