-- ==== Sys2Proof/Machine/Dispatch.lean ====
section
/-! DEFINITION. The meaning of every command: one arm per constructor of Instr. -/

namespace Sys2Proof.Machine

def exec (i : Instr) (s : State) : Host.Outcome State Fault Refusal :=
  match i with
  | .nop r => Sys2Proof.Machine.execNop r s
  | .portConfig q => Sys2Proof.Machine.execPortConfig q s
  | .portEnable q => Sys2Proof.Machine.execPortEnable q s
  | .portDisable q => Sys2Proof.Machine.execPortDisable q s
  | .bringUp q => Sys2Proof.Machine.execBringUp q s
  | .cycleStart q => Sys2Proof.Machine.execCycleStart q s
  | .cycleStop q => Sys2Proof.Machine.execCycleStop q s
  | .groupConfig q => Sys2Proof.Machine.execGroupConfig q s
  | .syncFire q => Sys2Proof.Machine.execSyncFire q s
  | .paramRead q => Sys2Proof.Machine.execParamRead q s
  | .paramWrite q => Sys2Proof.Machine.execParamWrite q s
  | .abort q => Sys2Proof.Machine.execAbort q s
  | .portQuery q => Sys2Proof.Machine.execPortQuery q s
  | .unknownRequestKind kind r => Sys2Proof.Machine.execUnknownRequestKind kind r s
  | .reqBusError => Sys2Proof.Machine.execReqBusError s
  | .fetch => Sys2Proof.Machine.execFetch s
  | .bmuGrant => Sys2Proof.Machine.execBmuGrant s
  | .completionWriteClaim => Sys2Proof.Machine.execCompletionWriteClaim s
  | .recordWriteEnd ok => Sys2Proof.Machine.execRecordWriteEnd ok s
  | .holdoffExpiry => Sys2Proof.Machine.execHoldoffExpiry s
  | .reqTail v => Sys2Proof.Machine.execReqTail v s
  | .cplHead v => Sys2Proof.Machine.execCplHead v s
  | .enable v => Sys2Proof.Machine.execEnable v s
  | .softReset v => Sys2Proof.Machine.execSoftReset v s
  | .softResetEnd => Sys2Proof.Machine.execSoftResetEnd s
  | .intEnable v => Sys2Proof.Machine.execIntEnable v s
  | .registerWrite offset width v => Sys2Proof.Machine.execRegisterWrite offset width v s
  | .powerOnReset => Sys2Proof.Machine.execPowerOnReset s
  | .resetNDeasserted => Sys2Proof.Machine.execResetNDeasserted s
  | .setupReadEnd d => Sys2Proof.Machine.execSetupReadEnd d s
  | .syncIn high => Sys2Proof.Machine.execSyncIn high s
  | .beat g => Sys2Proof.Machine.execBeat g s
  | .syncOutPulseEnd => Sys2Proof.Machine.execSyncOutPulseEnd s
  | .samplingInstant p => Sys2Proof.Machine.execSamplingInstant p s
  | .samplingReadEnd d => Sys2Proof.Machine.execSamplingReadEnd d s
  | .startInstant p => Sys2Proof.Machine.execStartInstant p s
  | .inputImageWriteEnd ok => Sys2Proof.Machine.execInputImageWriteEnd ok s
  | .idleCheck p => Sys2Proof.Machine.execIdleCheck p s
  | .collision p bit => Sys2Proof.Machine.execCollision p bit s
  | .masterFrameEnd p => Sys2Proof.Machine.execMasterFrameEnd p s
  | .noReply p hold => Sys2Proof.Machine.execNoReply p hold s
  | .gap p hold => Sys2Proof.Machine.execGap p hold s
  | .stationReply p chars next => Sys2Proof.Machine.execStationReply p chars next s
  | .guardEnd p => Sys2Proof.Machine.execGuardEnd p s
  | .wakeDominantEnd p => Sys2Proof.Machine.execWakeDominantEnd p s
  | .quietTimeEnd p => Sys2Proof.Machine.execQuietTimeEnd p s
  | .lineStuck p => Sys2Proof.Machine.execLineStuck p s
  | .fltNAsserted p => Sys2Proof.Machine.execFltNAsserted p s
  | .fltNDeasserted p => Sys2Proof.Machine.execFltNDeasserted p s
  | .overcurrent p => Sys2Proof.Machine.execOvercurrent p s
  | .attempt p => Sys2Proof.Machine.execAttempt p s
  | .backoffExpiry p => Sys2Proof.Machine.execBackoffExpiry p s
  | .activation p => Sys2Proof.Machine.execActivation p s
  | .segmentHandOver p => Sys2Proof.Machine.execSegmentHandOver p s
  | .svcAbandon p => Sys2Proof.Machine.execSvcAbandon p s
  | .transferFetchEnd d => Sys2Proof.Machine.execTransferFetchEnd d s
  | .transferStoreEnd ok => Sys2Proof.Machine.execTransferStoreEnd ok s
  | .portReportWriteEnd ok => Sys2Proof.Machine.execPortReportWriteEnd ok s
  | .replyStartEdge p edge => Sys2Proof.Machine.execReplyStartEdge p edge s
  | .rxdLevelChange p recessive => Sys2Proof.Machine.execRxdLevelChange p recessive s

end Sys2Proof.Machine
end

