-- ==== Sys2Proof/Machine/Step.lean ====
section
/-! DEFINITION. One step: the command at the front of the queue, or, with the queue empty, what the part does by itself. -/

namespace Sys2Proof.Machine

/-- An empty queue: the part takes one of its due steps, or the least time passes (log entry 1). -/
def idleStep (s : State) : Host.Outcome State Fault Refusal :=
  match s.dueStep with
  | some (.row c) => exec c s.chosen
  | some (.portArrival p) => .next (s.chosen.portArrival p)
  | some .unitArrival => .next s.chosen.unitArrival
  | none => .next s.tick

def step (s : State) : Host.Outcome State Fault Refusal :=
  match s.pending with
  | c :: rest => exec c { s with pending := rest }
  | [] => idleStep s

/-- `s` with the command that a word spells put at the front of its queue; `s` where the word spells none. -/
def State.withFetchWord (s : State) (nbits w : Nat) : State :=
  match decodeTableWord nbits w with
  | some c => { s with pending := c :: s.pending }
  | none => s

end Sys2Proof.Machine
end

