-- ==== Sys2Proof/WellFormed.lean ====
section
/-! DEFINITION. Well-formed commands: the ones the world can send as they are spelled. One that is not has no effect of its
own row, or spells another row. -/

namespace Sys2Proof

/-- The written value has CTRL.SOFT_RESET set (section 10.8). -/
def resetsSoftly (v : Word) : Bool := v.getLsbD 1

/-- A 32-bit write to this offset is a row of its own: CTRL, REQ_TAIL or CPL_HEAD (R154, section 10.8). -/
def ownRow (offset : BitVec 6) (width : AccessWidth) : Bool :=
  width == .w32 && (offset == 0x04#6 || offset == 0x10#6 || offset == 0x18#6)

/-- Half a bit time at L1, the longest a candidate edge holds a judgement, in 1/32 µs (R2, R4). -/
def longestHold : Nat := 800

/-- The characters of the longest reply, and of the longest master frame (R7). -/
def longestReply : Nat := 35

def longestFrame : Nat := 34

/-- The largest T_resp at L1, in 1/32 µs (R2, R13). -/
def longestWait : Nat := 60 * 1600

/-- The largest G at L1, in 1/32 µs (R2, R14). -/
def longestGap : Nat := 6 * 1600

/-- The command can be sent as it is spelled. -/
def Instr.wellFormed (i : Instr) : Bool :=
  match i with
  | .unknownRequestKind kind _ => !Machine.kindNamed kind
  | .enable v => !resetsSoftly v
  | .intEnable v => !resetsSoftly v
  | .softReset v => resetsSoftly v
  | .registerWrite offset width _ => !ownRow offset width
  | .collision _ bit => bit < 10 * longestFrame
  | .noReply _ hold => hold ≤ longestHold
  | .gap _ hold => hold ≤ longestHold
  | .replyStartEdge _ edge => edge ≤ longestWait
  | .stationReply _ chars next =>
    (!chars.isEmpty || next.isSome) && chars.length ≤ longestReply && next.all fun g => g ≤ longestGap
  | .nop _ | .portConfig _ | .portEnable _ | .portDisable _ | .bringUp _ | .cycleStart _ | .cycleStop _
  | .groupConfig _ | .syncFire _ | .paramRead _ | .paramWrite _ | .abort _ | .portQuery _ | .reqBusError | .fetch
  | .bmuGrant | .completionWriteClaim | .recordWriteEnd _ | .holdoffExpiry | .reqTail _ | .cplHead _ | .softResetEnd
  | .powerOnReset | .resetNDeasserted | .setupReadEnd _ | .syncIn _ | .beat _ | .syncOutPulseEnd | .samplingInstant _
  | .samplingReadEnd _ | .startInstant _ | .inputImageWriteEnd _ | .idleCheck _ | .masterFrameEnd _ | .guardEnd _
  | .wakeDominantEnd _ | .quietTimeEnd _ | .lineStuck _ | .fltNAsserted _ | .fltNDeasserted _ | .overcurrent _
  | .attempt _ | .backoffExpiry _ | .activation _ | .segmentHandOver _ | .svcAbandon _ | .transferFetchEnd _
  | .transferStoreEnd _ | .portReportWriteEnd _ | .rxdLevelChange _ _ => true

end Sys2Proof
end

