-- ==== Sys2Proof/Safety.lean ====
section
/-! DEFINITION. The notions the claims are made of: part control, frames, invariants, what a taken request reports. -/

namespace Sys2Proof.Machine

/-! ### Part control: what no port and no group holds -/

/-- The state outside the ports, the groups, the entries of the tables and lists, and the access in flight. -/
structure Control where
  time : Nat
  resetAsserted : Bool
  part : PartState
  haltCause : Option HaltCause
  ctrlEnable : Bool
  intEnable : Bool
  setupAddr : Word
  reqTailReg : Word
  cplHeadReg : Word
  setup : Option Setup
  head : Nat
  tail : Nat
  /-- entries of the Outstanding Request Table in use -/
  outstanding : Nat
  reserved : Nat
  cplTail : Nat
  phase : Bool
  cplHead : Nat
  used : Nat
  unsignalled : Nat
  holdoff : Option Nat
  condition : Bool
  setupClaim : Option Word
  fetchClaim : Bool
  recordClaim : Option RecordClaim
  last1 : PortId
  last2 : PortId
  unitInbox : List Arrival
  syncInLevel : Bool
  syncOutEnd : Option Nat
  choices : Nat
  pending : List Instr
  deriving DecidableEq, Repr

def State.control (s : State) : Control :=
  { time := s.time, resetAsserted := s.resetAsserted, part := s.part, haltCause := s.haltCause,
    ctrlEnable := s.ctrlEnable, intEnable := s.intEnable, setupAddr := s.setupAddr, reqTailReg := s.reqTailReg,
    cplHeadReg := s.cplHeadReg, setup := s.setup, head := s.head, tail := s.tail, outstanding := s.ort.length,
    reserved := s.cpl.reserved, cplTail := s.cpl.tail, phase := s.cpl.phase, cplHead := s.cpl.head, used := s.cpl.used,
    unsignalled := s.cpl.unsignalled, holdoff := s.cpl.holdoff, condition := s.cpl.condition,
    setupClaim := s.bus.setupClaim, fetchClaim := s.bus.fetchClaim, recordClaim := s.bus.recordClaim,
    last1 := s.bus.last1, last2 := s.bus.last2, unitInbox := s.unitInbox, syncInLevel := s.syncInLevel, syncOutEnd := s.syncOutEnd,
    choices := s.choices, pending := s.pending }

/-! ### Frames -/

/-- What an instruction answers is a next state of which `post` holds. -/
def Completes (i : Instr) (s : State) (post : State → Prop) : Prop := ∃ t, exec i s = .next t ∧ post t

/-- Every port but `p` is as it was. -/
def OthersKept (p : PortId) (s t : State) : Prop := ∀ q, q ≠ p → t.port q = s.port q

/-- Every port is as it was. -/
def PortsKept (s t : State) : Prop := ∀ q, t.port q = s.port q

/-- Every group is as it was. -/
def GroupsKept (s t : State) : Prop := ∀ g, t.group g = s.group g

/-- What the line and the engines of one port do leaves part control and every other port as they were. -/
def OnlyPort (p : PortId) (s t : State) : Prop := t.control = s.control ∧ OthersKept p s t

/-! ### Invariants -/

/-- The reservation count equals the number of table entries, and there are never more than 64 (R130). -/
def State.Books (s : State) : Prop := s.cpl.reserved = s.ort.length ∧ s.ort.length ≤ Config.ortSize

/-- No two entries of the Event Pending List have one port and one kind (R149). -/
def State.EventsDistinct (s : State) : Prop :=
  s.cpl.events.Pairwise fun a b => ¬ (a.port = b.port ∧ a.kind = b.kind)

/-- The table names its entries apart; what waits for its record, and the record in flight, are entries that are DONE, each
once; and the credit of the completion ring is not passed: the used count, the reservations and an EVENT record that is
claimed or in flight, one at most, together fit the ring (R130, R131, R140, R147). -/
def State.Credit (s : State) : Prop :=
  let inFlight : List Nat := match s.bus.flight with
    | some { access := .recordWrite _ _ (some id), .. } => [id]
    | _ => []
  let claimed : Nat := if s.bus.recordClaim = some .event then 1 else 0
  let event : Nat := match s.bus.flight with
    | some { access := .recordWrite _ _ none, .. } => 1
    | _ => 0
  (s.ort.map (·.id)).Nodup ∧ (s.cpl.done.map (·.ort) ++ inFlight).Nodup ∧
  (∀ id ∈ s.cpl.done.map (·.ort) ++ inFlight, ∃ e ∈ s.ort, e.id = id ∧ e.st = .done) ∧
  claimed + event ≤ 1 ∧ (s.setup = none → s.cpl.used = 0 ∧ s.cpl.reserved = 0) ∧
  ∀ u, s.setup = some u → s.cpl.used + s.cpl.reserved + claimed + event ≤ u.cplSize

/-- A port with a link has fewer misses than its miss limit, and every other port has none (R32). -/
def State.MissesBelow (s : State) : Prop :=
  ∀ p, (s.port p).counters.misses < (s.port p).config.missLimit ∧
    ((s.port p).state.hasLink = false → (s.port p).counters.misses = 0)

/-- The indices of the rings in force lie below the sizes of the accepted setup block (R123, R140). -/
def State.IndicesBelow (s : State) : Prop :=
  ∀ u, s.setup = some u →
    s.head < u.reqSize ∧ s.tail < u.reqSize ∧ s.cpl.tail < u.cplSize ∧ s.cpl.head < u.cplSize

/-- Where no setup block is in force the indices are 0, and a part that is OFF, STARTING or RESETTING has none in force
(R123, R140, R159, R162). -/
def State.NoneBefore (s : State) : Prop :=
  (s.setup = none → s.head = 0 ∧ s.tail = 0 ∧ s.cpl.tail = 0 ∧ s.cpl.head = 0) ∧
  (s.part = .off ∨ s.part = .starting ∨ s.part = .resetting → s.setup = none)

/-- A port that is DISABLED or in FAULT has its Line Framer OFF: it drives nothing, holds nothing, times nothing (R10, R17). -/
def State.LineSafe (s : State) : Prop :=
  ∀ p, (s.port p).state = .disabled ∨ (s.port p).state = .fault → (s.port p).lf = Framer.reset

/-! ### Takes -/

/-- A fetch ends in RUNNING or PAUSED under the setup block `u`, its table entry being `e` (R127). -/
def State.Fetched (s : State) (u : Setup) (e : OrtEntry) : Prop :=
  s.fetchFlying = true ∧ s.runningOrPaused = true ∧ s.setup = some u ∧ (s.ort.find? fun x => x.st = .fetching) = some e

/-- The entries of the table carry different places, and none stands in FETCHING but `e`. -/
def State.TableSound (s : State) (e : OrtEntry) : Prop :=
  (s.ort.map (·.id)).Nodup ∧ ∀ x ∈ s.ort, x.st = .fetching → x = e

/-- Part control after a take: the head has advanced by one, modulo the ring size, and nothing else (R125, R127). -/
def State.takenControl (s : State) (u : Setup) : Control := { s.control with head := (s.head + 1) % u.reqSize }

/-- Between `s` and `t` the entry `e`, filled from a record of kind `k`, was handed over with this status and result, ahead
of any ABORT that waited for it (R127, R131, R148). -/
def Reported (s t : State) (e : OrtEntry) (k : Byte) (r : ReqRecord) (st : Status) (result : Word) : Prop :=
  ∃ l, t.cpl.done = s.cpl.done ++
    ({ ort := e.id, tag := r.tag, kind := k, target := r.target, status := st, result := result,
       arrival := s.arrivals } :: l)

/-- As `Reported`, other hand-overs that the same command brings standing before it or after it. -/
def ReportedAmong (s t : State) (e : OrtEntry) (k : Byte) (r : ReqRecord) (st : Status) (result : Word) : Prop :=
  ∃ l m a, t.cpl.done = s.cpl.done ++ (l ++
    ({ ort := e.id, tag := r.tag, kind := k, target := r.target, status := st, result := result, arrival := a } :: m))

/-- The table entries of the requests a port holds. -/
def Port.requestIds (x : Port) : List Nat :=
  (x.slot.map (·.2)).toList ++ x.queue.map (·.ort) ++ x.queries.map (·.ort) ++ x.disables.map (·.ort)

/-- No ABORT of the table waits for the entry `id` (R137, R139). -/
def State.NotAwaited (s : State) (id : Nat) : Prop := ∀ x ∈ s.ort, id ∉ x.awaited

/-- `e` with what its taken record brings (R127). -/
def OrtEntry.filled (e : OrtEntry) (k : Byte) (r : ReqRecord) : OrtEntry :=
  { e with tag := r.tag, kind := k, target := r.target }

/-- The completion of an entry that is the `n`-th to reach the Completion Writer (R148). -/
def OrtEntry.completion (e : OrtEntry) (st : Status) (result : Word) (n : Nat) : Completion :=
  { ort := e.id, tag := e.tag, kind := e.kind, target := e.target, status := st, result := result, arrival := n }

/-- Between `s` and `t` these entries were handed over one after another, in this order, with these statuses and results, and
no other was (R148). -/
def HandedInOrder (s t : State) (l : List (OrtEntry × Status × Word)) : Prop :=
  ∃ a, t.cpl.done = s.cpl.done ++ l.mapIdx fun i h => h.1.completion h.2.1 h.2.2 (a + i)

/-- These entries stand in the table, not DONE, and no ABORT waits for them. -/
def State.Open (s : State) (l : List OrtEntry) : Prop :=
  ∀ e ∈ l, s.ortFind e.id = some e ∧ e.st ≠ .done ∧ s.NotAwaited e.id

/-- The table entries of the report writes that a port has claimed and not been granted, oldest first (R40). -/
def Port.reportClaims (x : Port) : List Nat :=
  x.xclaims.filterMap fun c => match c with
    | .report id => some id
    | .fetch _ _ | .store _ _ => none

/-- Port `p` has left its group; every group is otherwise as it was (R22). -/
def GroupsLeft (p : PortId) (s t : State) : Prop :=
  ∀ g, t.group g = { s.group g with members := (s.group g).members.filter fun m => m.port ≠ p }

/-- The table with the entry of a take filled and in this state; every other entry as it was (R127, R131). -/
def State.tableWith (s : State) (e : OrtEntry) (k : Byte) (r : ReqRecord) (st : OrtState) : List OrtEntry :=
  s.ort.map fun x => if x.id = e.id then { x with tag := r.tag, kind := k, target := r.target, st := st } else x

/-- The whole state after a take whose valid request has only been handed to its target: the fetch has ended, the head has
advanced, the entry is filled and ROUTED (R125, R127, R134). -/
def State.afterTake (s : State) (u : Setup) (e : OrtEntry) (k : Byte) (r : ReqRecord) : State :=
  { s with
    head := (s.head + 1) % u.reqSize
    bus := { s.bus with flight := none }
    ort := s.tableWith e k r .routed }

/-- The kinds that the Schedule Unit takes (R134). -/
def kindOfUnit (k : Byte) : Bool := k == kindGroupConfig || k == kindSyncFire

/-- The state of the table entry with place `id`, if there is one. -/
def State.entryState (s : State) (id : Nat) : Option OrtState := (s.ortFind id).map (·.st)

/-- What a take that hands its request over at once does, its act changing no port and no group. -/
def HandedAtTake (s t : State) (u : Setup) (e : OrtEntry) (k : Byte) (r : ReqRecord) (st : Status) (x : Word) : Prop :=
  Reported s t e k r st x ∧ t.control = s.takenControl u ∧ t.bus.flight = none ∧
  t.cpl.events = s.cpl.events ∧ PortsKept s t ∧ GroupsKept s t

/-- PARAM_READ and PARAM_WRITE, `w` telling which. -/
def paramRow (w : Bool) (r : ReqRecord) (late : Bool) : Instr := if w then .paramWrite ⟨r, late⟩ else .paramRead ⟨r, late⟩

/-- The validation of the record that a row takes, for the thirteen kinds (R132, R133). -/
def checkOf (i : Instr) : Option (Option Status) :=
  match i with
  | .nop r => some (checkNop r)
  | .portConfig q => some (checkPortConfig q.record)
  | .portEnable q | .portDisable q | .bringUp q | .cycleStop q => some (checkPortOnly q.record)
  | .cycleStart q => some (checkCycleStart q.record)
  | .groupConfig q => some (checkGroupConfig q.record)
  | .syncFire q => some (checkSyncFire q.record)
  | .paramRead q | .paramWrite q => some (checkParam q.record)
  | .abort q => some (checkAbort q.record)
  | .portQuery q => some (checkPortQuery q.record)
  | .unknownRequestKind _ _ | .reqBusError | .fetch | .bmuGrant | .completionWriteClaim | .recordWriteEnd _
  | .holdoffExpiry | .reqTail _ | .cplHead _ | .enable _ | .softReset _ | .softResetEnd | .intEnable _
  | .registerWrite _ _ _ | .powerOnReset | .resetNDeasserted | .setupReadEnd _ | .syncIn _ | .beat _
  | .syncOutPulseEnd | .samplingInstant _ | .samplingReadEnd _ | .startInstant _ | .inputImageWriteEnd _
  | .idleCheck _ | .collision _ _ | .masterFrameEnd _ | .noReply _ _ | .gap _ _ | .stationReply _ _ _ | .guardEnd _
  | .wakeDominantEnd _ | .quietTimeEnd _ | .lineStuck _ | .fltNAsserted _ | .fltNDeasserted _ | .overcurrent _
  | .attempt _ | .backoffExpiry _ | .activation _ | .segmentHandOver _ | .svcAbandon _ | .transferFetchEnd _
  | .transferStoreEnd _ | .portReportWriteEnd _ | .replyStartEdge _ _ | .rxdLevelChange _ _ => none

/-- Every request that waits at a target has passed its validation (R127, R132). -/
def State.ArrivalsValid (s : State) : Prop :=
  ∀ id k r, (Arrival.request id k r ∈ s.unitInbox ∨ ∃ p, Arrival.request id k r ∈ (s.port p).inbox) →
    checkOf (rowOfKind k false r) = some none

/-! ### Registers and resets -/

/-- The rows ENABLE and INT_ENABLE: one word, written to CTRL. -/
def ctrlRow (b : Bool) (v : Word) : Instr := if b then .enable v else .intEnable v

/-- What a reset leaves in every block; `c` is part control after it (R20, R63, R130, R140, R162). The input pins stay
(log entry 8). -/
def ResetBlocks (c : Control) (s t : State) : Prop :=
  t.control = c ∧ t.ort = [] ∧ t.cpl = CompletionWriter.reset ∧ (∀ g, t.group g = Group.reset) ∧
  ∀ p, t.port p = Port.resetWith (s.port p).flt (s.port p).rxd

/-! ### Whole next states, halts, posts, failed exchanges -/

/-- `s` with one port replaced, and nothing else. -/
def State.withPort (s : State) (p : PortId) (y : Port) : State := { s with ports := s.ports.set p.val y }

/-- `s` with one group replaced, and nothing else. -/
def State.withGroup (s : State) (g : GroupId) (y : Group) : State := { s with groups := s.groups.set g.val y }

/-- Between `s` and `t` the part halted with this cause: the claims of the Dispatcher and of the Completion Writer not yet
granted are withdrawn, the entry of a withdrawn fetch with them, and the rings, ports and groups stay (R129, R161). -/
def HaltedBy (c : HaltCause) (s t : State) : Prop :=
  t.part = .halted ∧ t.haltCause = some c ∧ t.head = s.head ∧ t.tail = s.tail ∧ PortsKept s t ∧ GroupsKept s t ∧
  t.cpl = { s.cpl with reserved := t.cpl.reserved } ∧ t.bus.flight = s.bus.flight ∧
  t.bus.fetchClaim = false ∧ t.bus.recordClaim = none ∧
  (s.bus.fetchClaim = false → t.ort = s.ort ∧ t.cpl.reserved = s.cpl.reserved) ∧
  (s.bus.fetchClaim = true → t.ort = s.ort.eraseP fun e => e.st = .fetching)

/-- What one post does to the Event Pending List (R150). -/
def Posted (s t : State) (p : PortId) (k : EventKind) (detail : Word) : Prop :=
  t.cpl.events =
    if ∃ e ∈ s.cpl.events, e.port = p ∧ e.kind = k then
      s.cpl.events.map fun e =>
        if e.port = p ∧ e.kind = k then
          { e with count := if e.count < 65535 then e.count + 1 else e.count
                   detail := if k = .cycleSlip then satAdd e.detail detail else e.detail }
        else e
    else
      s.cpl.events ++ [{ port := p, kind := k, count := 1, detail := detail, first := s.timebase, arrival := s.arrivals }]

/-- The arbiter serves `p` next: it waits, and no waiting port comes sooner after the one last served, going on from port
7 to port 0 (R164). -/
def ServedNext (last : PortId) (waiting : PortId → Prop) (p : PortId) : Prop :=
  waiting p ∧ ∀ q, waiting q → (p.val + 7 - last.val) % 8 ≤ (q.val + 7 - last.val) % 8

/-- As a post at `s`, other hand-overs or posts of the same command having reached the Completion Writer before it. -/
def PostedLater (s t : State) (p : PortId) (k : EventKind) (detail : Word) : Prop :=
  ∃ n, Posted { s with arrivals := n } t p k detail

/-! ### Fires and stops -/

/-- Of the instants `origin + k * period`, in µs since the timebase started, number `k` is the first not earlier than `bound`,
in 1/32 µs (R70). -/
def FirstInstant (origin period bound k : Nat) : Prop :=
  bound ≤ 32 * (origin + k * period) ∧ ∀ j < k, 32 * (origin + j * period) < bound

/-- The detail of the CYCLE_SLIP pending for a port, 0 where none is (R149, R150). -/
def State.pendingSlips (s : State) (p : PortId) : Word :=
  ((s.cpl.events.find? fun e => e.port = p ∧ e.kind = .cycleSlip).map (·.detail)).getD 0

/-- A sample discarded, its reads still waiting withdrawn (R87). -/
def CycleEngine.discarded (c : CycleEngine) : CycleEngine :=
  { c with sample := .empty, list := c.list.filter (·.isWrite), admitted := false, startWait := none }

/-- A port whose schedule has ended in READY (R99). -/
def Port.stopped (x : Port) : Port :=
  { x with state := .ready, sched := none, slot := none, stopPending := false, cyc := x.cyc.discarded }

/-- The judgement of the sample at a start instant on a free line, none where it is accepted (R86; with no sample there LATE, log
entry 22). -/
def Port.judged (x : Port) : Option StaleCause :=
  match x.cyc.sample with
  | .empty | .reading _ _ _ => some .late
  | .complete _ _ true => some .torn
  | .complete (some g) _ false => if x.cyc.lastGen = some g then some .unchanged else none
  | .complete none _ false => none

/-- Payload and STALE of the frame that the judgement sends under the port's policy, none where it sends no frame (R88). -/
def Port.sends (x : Port) : Option (List Byte × Bool) :=
  if x.judged = none then
    match x.cyc.sample with
    | .complete _ data _ => some (data, false)
    | _ => some ([], false)
  else if x.config.stalePolicy = .skip then none
  else match x.cyc.lastData with
    | some data => some (data, x.config.stalePolicy = .mark)
    | none => some (List.replicate x.outLen 0, true)

/-- The port once its sample is judged: the stale counts follow, an accepted sample that was read becomes the last accepted one,
and the sample is emptied (R86, R91). -/
def Port.afterJudgement (x : Port) : Port :=
  { x with
    counters := if x.judged = none then { x.counters with stales := 0 }
      else { x.counters with
        stales := min 255 (x.counters.stales + 1), staleCycles := satAdd x.counters.staleCycles 1 }
    cyc := match x.judged, x.cyc.sample with
      | none, .complete (some g) data _ => { x.cyc.discarded with lastGen := some g, lastData := some data }
      | _, _ => x.cyc.discarded }

/-- Between `s` and `t` the judgement of `x` posted OUTPUT_STALE where it took the consecutive stale count to the limit, and no
event else (R91). -/
def StaleReported (p : PortId) (x : Port) (s t : State) : Prop :=
  match x.judged with
  | some c =>
    if x.counters.stales < 255 ∧ x.counters.stales + 1 = x.config.staleLimit then
      PostedLater s t p .outputStale (c.code.setWidth 32)
    else t.cpl.events = s.cpl.events
  | none => t.cpl.events = s.cpl.events

/-- The cycle of a start instant ends there: it sends no frame, and a CYCLE_STOP waits for nothing else (R99; log entry 21). -/
def Port.endsAtStart (x : Port) : Prop := x.sends = none ∧ x.stopWaits = true ∧ x.cyc.underWay = none

/-- Between `s` and `t` the cycle of the start instant `m` ran on the free line of port `p`, which stood as `x` with the link `l`:
the sample is judged, and a frame is handed over, which goes to WAITING, or the cycle ends, and a CYCLE_STOP that waited for it
is handed over OK (R86, R88, R89, R91, R99). -/
def CycleRuns (p : PortId) (l : Link) (m : Word) (x : Port) (s t : State) : Prop :=
  let judged := x.afterJudgement
  OnlyPort p s t ∧ StaleReported p x s t ∧
  match x.sends with
  | some (payload, stale) =>
    GroupsKept s t ∧
    t.port p = { judged with
      lf := { x.lf with
        state := .waiting, waitSince := s.time, held := some (.frame
          { engine := .cycle, kind := .cyclic, speed := l.speed, toggle := false, first := false, last := false,
            stale := stale, payload := payload, replyLen := l.desc.inLen.toNat, seg := 0 }) }
      cyc := { judged.cyc with underWay := some m } }
  | none =>
    if x.stopWaits = true ∧ x.cyc.underWay = none then
      t.port p = judged.stopped ∧ GroupsLeft p s t ∧
      ∀ c w, x.slot = some (c, w.id) → s.Open [w] → HandedInOrder s t [(w, .ok, 0)]
    else t.port p = judged ∧ GroupsKept s t

/-- From `s` to `t` the group `g` was fired, now, and its confirmed member `m`, of no other fired group, with it; `k` instants
of the new schedule pass before the first that the member can keep. From UNFIRED a member that waits in ARMED is given that
first start (R69). From RUNNING every member moves onto it: the next start it had is withdrawn where it differs, its sample
with it, a CYCLE_STOP that waited for nothing more than that cycle completes, and in ARMED and CYCLIC the passed instants are
slips (R75, R76, R99). -/
def MemberFired (g : GroupId) (m : Member) (k : Nat) (s t : State) : Prop :=
  let p := m.port
  let x := s.port p
  let next : Word := s.timebase + BitVec.ofNat 32 (100 + m.phase + k * (m.divisor * (s.group g).period))
  let moved := fun c : Sched => some { c with next := some next, delivered := false }
  if (s.group g).running = none then
    t.port p = if x.state = .armed then
        match x.sched with
        | some c => if c.next = none then { x with sched := moved c } else x
        | none => x
      else x
  else
    match x.sched with
    | none => t.port p = x
    | some c =>
      let runs := x.state = .armed ∨ x.state = .cyclic
      let withdrawn := c.next ≠ some next ∧ c.delivered = true ∧ runs
      if withdrawn ∧ x.state = .cyclic ∧ x.stopWaits = true ∧ x.cyc.underWay = none then
        t.port p = x.stopped ∧ t.pendingSlips p = s.pendingSlips p ∧
        ∀ q id e, x.slot = some (q, id) → s.ortFind id = some e → t.entryState id = some .done
      else
        t.port p = { x with
          sched := if c.next = some next then x.sched else moved c
          cyc := if withdrawn then x.cyc.discarded else x.cyc
          counters := if runs then { x.counters with slips := satAdd x.counters.slips (BitVec.ofNat 32 k) } else x.counters } ∧
        t.pendingSlips p = if runs then satAdd (s.pendingSlips p) (BitVec.ofNat 32 k) else s.pendingSlips p

/-- The lower bound of a member's first start at a fire: the later of its line-free bound, which in RECOVERY is the present
instant, and 64 µs from now (R69, R71, R75, R76). -/
def State.fireBound (s : State) (g : GroupId) (p : PortId) : Nat :=
  max (if (s.group g).running ≠ none ∧ (s.port p).state = .recovery then s.time else s.lineFree p) (32 * (s.micros + 64))

/-- From `s` to `t` the groups that `fired` tells were fired, now. Each runs from the epoch 100 µs from now with its beat number
at 0, and the others run as they did; each confirmed member of a fired group follows, and a port that is no confirmed member
of one stays as it was (R67 to R69, R75, R76). -/
def GroupsFired (fired : GroupId → Prop) (s t : State) : Prop :=
  (∀ g, (t.group g).period = (s.group g).period ∧ (t.group g).source = (s.group g).source ∧
    ((∀ p, (s.port p).stopWaits = false) → (t.group g).members = (s.group g).members) ∧
    (fired g → (t.group g).beatNumber = 0 ∧
      (t.group g).running = some { epoch := s.timebase + 100, next := s.timebase + 100, fresh := true }) ∧
    (¬ fired g → (t.group g).running = (s.group g).running ∧ (t.group g).beatNumber = (s.group g).beatNumber)) ∧
  (∀ g m k, fired g → 1 ≤ (s.group g).period → 1 ≤ m.divisor → m.tentative = false →
    ((s.group g).members.filter fun n => n.port = m.port) = [m] →
    (∀ h, h ≠ g → fired h → ∀ n ∈ (s.group h).members, n.port ≠ m.port) →
    FirstInstant (s.micros + 100 + m.phase) (m.divisor * (s.group g).period) (s.fireBound g m.port) k →
    MemberFired g m k s t) ∧
  ∀ p, (∀ g, fired g → ∀ m ∈ (s.group g).members, m.port = p → m.tentative = true) → t.port p = s.port p

/-! ### Bring-ups and recoveries that end without a link -/

/-- Port `p` is IDLE without a link, its sequencer STOPPED, its miss count 0, and the transfers queued and not ended before
have left the queue (R51, R52, R59). -/
def LinklessIdle (p : PortId) (s t : State) : Prop :=
  let x := s.port p
  let y := t.port p
  y.state = .idle ∧ y.link = none ∧ y.seq.phase = .stopped ∧ y.seq.stopRequested = false ∧ y.seq.attempts = 0 ∧
  y.seq.backoff = none ∧ y.counters.misses = 0 ∧ (y.queue = x.queue.filter fun u => u.ending.isSome) ∧ y.config = x.config

/-- The table entries of the transfers queued and not ended, from head to tail. -/
def Port.queuedIds (x : Port) : List Nat := (x.queue.filter fun u => u.ending.isNone).map (·.ort)

/-- A bring-up ended without a link: its BRING_UP is handed over with this status and result, then every queued transfer
NO_LINK (R51, R52). -/
def BringUpEnds (p : PortId) (st : Status) (result : Word) (s t : State) : Prop :=
  let x := s.port p
  LinklessIdle p s t ∧ (t.port p).slot = none ∧ (t.port p).sched = x.sched ∧ GroupsKept s t ∧
  t.cpl.events = s.cpl.events ∧
  (∀ k id, x.slot = some (k, id) → ∀ e, s.ortFind id = some e → t.entryState id = some .done) ∧
  ∀ w queued, x.slot.map (·.2) = some w.id → queued.map (·.id) = x.queuedIds → (w.id :: x.queuedIds).Nodup →
    s.Open (w :: queued) → HandedInOrder s t ((w, st, result) :: queued.map fun n => (n, .noLink, 0))

/-- A recovery failed for this reason: LINK_DOWN is posted, the schedule goes, and every queued transfer is handed over
LINK_LOST (R59). -/
def RecoveryFails (p : PortId) (reason : Word) (s t : State) : Prop :=
  let x := s.port p
  LinklessIdle p s t ∧ (t.port p).slot = x.slot ∧ (t.port p).sched = none ∧ (t.port p).resume = false ∧ GroupsLeft p s t ∧
  Posted s t p .linkDown reason ∧
  ∀ queued, queued.map (·.id) = x.queuedIds → x.queuedIds.Nodup → s.Open queued →
    HandedInOrder s t (queued.map fun n => (n, .linkLost, 0))

/-- A sequence failed for this reason (R51, R59). -/
def SequenceFails (p : PortId) (reason : Word) (s t : State) : Prop :=
  match (s.port p).seq.mode with
  | .bringUp => BringUpEnds p .bringupFailed reason s t
  | .recovery => RecoveryFails p reason s t

/-- The sequence of a port was aborted (R52). -/
def SequenceAborted (p : PortId) (s t : State) : Prop := OnlyPort p s t ∧ BringUpEnds p .aborted 0 s t

/-! ### Exchanges -/

/-- A failed exchange of this frame is a miss of the port: a cyclic exchange, or the exchange the Transfer Engine awaits,
in READY, ARMED or CYCLIC (R32, R120). -/
def Port.countsMiss (x : Port) (f : Frame) : Prop :=
  x.state.hasLink = true ∧
  (f.engine = .cycle ∨ (f.engine = .transfer ∧
    ((x.te.phase = .exchange ∧ x.te.transfer.isSome = true ∧ x.te.segment.isSome = true) ∨
      x.te.phase = .abandonExchange)))

/-- An IDENTIFY failed: the next rung, another attempt after the backoff, or the end of the sequence (R46, R49, R52). -/
def IdentifyFailed (p : PortId) (s t : State) : Prop :=
  let x := s.port p
  let y := t.port p
  if x.seq.stopRequested then BringUpEnds p .aborted 0 s t
  else if x.seq.rung < x.seq.ladder.length then
    y.seq = { x.seq with rung := x.seq.rung + 1 } ∧ y.state = x.state ∧
    ∀ sp, x.seq.ladder[x.seq.rung]? = some sp → y.lf.held = some (.frame (identifyFrame sp))
  else if x.seq.attempts < x.config.attempts then
    y.state = x.state ∧
    y.seq = { x.seq with phase := .backoff, backoff := some (s.time + 32 * (10000 * x.config.backoff)) }
  else SequenceFails p 1 s t

/-- The result of a transfer handed over for its abandon cause (R117). -/
def TransferEngine.abandonedAs (te : TransferEngine) (c : AbandonCause) : Status × Word :=
  (c.status, if c = .tooLong then BitVec.ofNat 32 te.octetsDone else 0)

/-- The active transfer `b`, whose table entry is `w`, was handed over with this status and result; the Transfer Engine is in
NONE and keeps its last toggle (R26, R101). -/
def TransferEnds (p : PortId) (b : Transfer) (w : OrtEntry) (st : Status) (result : Word) (s t : State) : Prop :=
  let x := s.port p
  let y := t.port p
  y.te = { TransferEngine.reset with lastToggle := x.te.lastToggle } ∧ y.xclaims = x.xclaims.filter (·.isReport) ∧
  (y.queue = x.queue.filter fun u => u.ort ≠ b.ort) ∧ HandedInOrder s t [(w, st, result)]

/-- A segment is given up and its transfer waits to send SVC_ABANDON (R116). -/
def TransferEngine.abandoning (te : TransferEngine) : TransferEngine :=
  { te with phase := .abandonWait, segment := none, storing := none }

/-- A service exchange failed and did not end the link: a retry, the abandon, or the hand-over after SVC_ABANDON (R115, R117,
R119). -/
def ServiceFailed (p : PortId) (s t : State) : Prop :=
  let x := s.port p
  let y := t.port p
  (x.te.phase = .exchange → x.te.transfer.isSome = true → x.te.segment.isSome = true → x.te.sent = true →
    y.te = if x.te.cause.isSome then x.te.abandoning
      else if x.te.retries < x.config.retryLimit then { x.te with retries := x.te.retries + 1, phase := .sendWait }
      else { x.te with retries := x.te.retries + 1, cause := some .linkError }.abandoning) ∧
  ∀ b c w, x.te.phase = .abandonExchange → x.te.transfer = some b → x.te.cause = some c → w.id = b.ort → s.Open [w] →
    TransferEnds p b w (x.te.abandonedAs c).1 (x.te.abandonedAs c).2 s t

/-! ### Aborts -/

/-- What the abort of the entry `m` does at its port `p`, which stands as `x` in the state `s`, `inFlight` telling whether the
access of its active transfer is in flight. `waits y` says that the port becomes `y` and nothing is handed over; `ends post l`
that `m` is handed over ABORTED, that `post` holds of the state after it, and that the entries of `l` are handed over last;
`other` is the entry of the ABORT (R52, R100, R118, R138). -/
def AbortActs (p : PortId) (m : OrtEntry) (other : Nat) (x : Port) (inFlight : Bool) (s : State) (waits : Port → Prop)
    (ends : (State → Prop) → List (OrtEntry × Status × Word) → Prop) : Prop :=
  let transfer := m.kind = kindParamRead ∨ m.kind = kindParamWrite
  let active := x.te.transfer.map (·.ort) = some m.id
  let queued := ∃ b ∈ x.queue, b.ort = m.id ∧ b.ending = none
  let left := { x with queue := x.queue.filter fun q => q.ort ≠ m.id }
  let aborted := { x.te with cause := some .aborted }
  let stops := x.seq.phase = .backoff ∨ (x.seq.phase = .lineWait ∧ x.lf.state = .free)
  (transfer → active →
    (x.te.cause.isSome = true → waits x) ∧
    (x.te.cause = none → inFlight = true ∨ x.te.phase = .exchange → waits { x with te := aborted }) ∧
    (x.te.cause = none → inFlight = false → x.te.phase ≠ .exchange → x.te.sent = true →
      waits { x with te := aborted.abandoning, xclaims := x.xclaims.filter (·.isReport) }) ∧
    (x.te.cause = none → inFlight = false → x.te.phase ≠ .exchange → x.te.sent = false →
      ends (fun t => GroupsKept s t ∧ t.port p = { left with
        te := { TransferEngine.reset with lastToggle := x.te.lastToggle }, xclaims := x.xclaims.filter (·.isReport) }) [])) ∧
  (transfer → ¬ active →
    (queued → ends (fun t => GroupsKept s t ∧ t.port p = left) []) ∧ (¬ queued → waits x)) ∧
  (¬ transfer → x.slot = some (.bringUp, m.id) →
    (stops → ∀ behind : List OrtEntry, behind.map (·.id) = x.queuedIds → (other :: m.id :: x.queuedIds).Nodup → s.Open behind →
      ends (fun t => GroupsKept s t ∧ LinklessIdle p s t ∧ (t.port p).slot = none ∧ (t.port p).inbox = x.inbox)
        (behind.map fun n => (n, .noLink, 0))) ∧
    (¬ stops → x.seq.phase ≠ .stopped → waits { x with seq := { x.seq with stopRequested := true } })) ∧
  (¬ transfer → x.slot = some (.cycleStart, m.id) → ends (fun t => GroupsLeft p s t ∧ t.port p = x.stopped) []) ∧
  (¬ transfer → x.slot ≠ some (.bringUp, m.id) → x.slot ≠ some (.cycleStart, m.id) → waits x)

/-! ### Ends of links -/

/-- What becomes of an active transfer whose link ends, or that a BRING_UP finds in READY. -/
inductive Fate where
  /-- it returns to the queue, not activated -/
  | kept
  /-- it is handed over at once -/
  | handed (st : Status) (result : Word)
  /-- it is ended, and handed over when what it waits for ends -/
  | waits (e : Ending)
  deriving DecidableEq, Repr

/-- The fate of the active transfer at a link end, to IDLE or to RECOVERY, or at a BRING_UP. `inFlight` tells whether its fetch
or store is in flight. One with an abandon cause ends with that, at a BRING_UP at once but for an SVC_ABANDON exchange; else one
that has sent a segment is lost with the link, and one that has not is kept, but for a link end to IDLE that finds its fetch in
flight (R34, R43, R117, R120). -/
def TransferEngine.fate (te : TransferEngine) (inFlight bringUp toIdle : Bool) : Fate :=
  let ends := fun (e : Status × Word) => if inFlight then Fate.waits ⟨e.1, e.2, false⟩ else .handed e.1 e.2
  match te.cause with
  | some c =>
    if bringUp = true then
      if te.phase = .abandonExchange then .waits ⟨(te.abandonedAs c).1, (te.abandonedAs c).2, true⟩
      else .handed (te.abandonedAs c).1 (te.abandonedAs c).2
    else ends (te.abandonedAs c)
  | none => if te.sent = true ∨ (toIdle = true ∧ inFlight = true) then ends (.linkLost, 0) else .kept

/-- The queue once its active transfer `b` has met its fate. -/
def Fate.queue (fate : Fate) (b : Transfer) (l : List Transfer) : List Transfer :=
  match fate with
  | .kept => l
  | .handed _ _ => l.filter fun u => u.ort ≠ b.ort
  | .waits e => l.map fun u => if u.ort = b.ort then { u with ending := some e } else u

/-- What is handed over at once of an active transfer whose table entry is `w`. -/
def Fate.handedNow (fate : Fate) (w : OrtEntry) : List (OrtEntry × Status × Word) :=
  match fate with
  | .handed st result => [(w, st, result)]
  | .kept | .waits _ => []

/-- The command `i` ends this fetch or store of a transfer. -/
def EndsAccess (a : Access) (i : Instr) : Prop :=
  (∃ p addr n d, a = .transferFetch p addr n ∧ i = .transferFetchEnd d) ∨
    ∃ p addr l ok, a = .transferStore p addr l ∧ i = .transferStoreEnd ok

/-- From `s` to `t` the access of port `p` in flight has been given up, and when it ends, with whatever outcome, the one
transfer that waits for it, with table entry `w`, is handed over as `e` tells (R30, R34, R43). -/
def HandedAtAccessEnd (p : PortId) (w : OrtEntry) (e : Ending) (s t : State) : Prop :=
  ∀ f, s.bus.flight = some f → f.access.transferPort = some p → (t.port p).disables = [] →
    ((t.port p).queue.filter fun u => u.ending.any fun d => !d.onExchange).map (·.ort) = [w.id] →
    t.bus.flight = some { f with live := false } ∧
    ∀ i, EndsAccess f.access i → Completes i t fun v =>
      HandedInOrder t v [(w, e.status, e.result)] ∧ ((v.port p).queue = (t.port p).queue.filter fun u => u.ort ≠ w.id)

/-- From `s` to `t` the access of port `p` in flight has been given up, and when it ends, with whatever outcome, the port stays as
it is where nothing waits for that end (R43, R120, R164). -/
def AccessDropped (p : PortId) (s t : State) : Prop :=
  ∀ f, s.bus.flight = some f → f.access.transferPort = some p →
    t.bus.flight = some { f with live := false } ∧
    ((t.port p).disables = [] → ((t.port p).queue.filter fun u => u.ending.any fun d => !d.onExchange) = [] →
      ∀ i, EndsAccess f.access i → Completes i t fun v => v.port p = t.port p ∧ v.cpl = t.cpl ∧ v.ort = t.ort)

/-- Between `s` and `t` the link of port `p` ended for the cause `c`, `cyc` being its Cycle Engine but for the discard of its
sample. The resume flag is set from CYCLIC, with no CYCLE_STOP waiting and no image fault pending, and clear otherwise. Going to
RECOVERY with it set, the schedule and the membership stay; else they go. Then are handed over, in this order, a waiting
CYCLE_STOP OK or CYCLE_START LINK_LOST, the active transfer as its fate says, and, going to IDLE, the queued transfers LINK_LOST;
what waits for its access is handed when that ends (R33, R34, R92, R120). -/
def LinkEnds (p : PortId) (c : Cause) (cyc : CycleEngine) (s t : State) : Prop :=
  let x := s.port p
  let y := t.port p
  let toIdle := !x.config.autoRecovery
  let resume := x.state = .cyclic ∧ x.stopWaits = false ∧ x.cyc.faultPending = false
  let fate := x.te.fate (s.flightOf Access.transferPort p) false toIdle
  let left := match x.te.transfer with
    | some b => fate.queue b x.queue
    | none => x.queue
  let queued := left.filter fun u => u.ending.isNone
  y.counters.misses = 0 ∧ y.slot = none ∧ (x.slot.isSome = true → y.stopPending = false) ∧ (y.resume = true ↔ resume) ∧
  Posted s t p .linkLost (c.code.setWidth 32) ∧ y.cyc = { cyc.discarded with faultPending := false } ∧
  (if toIdle then
    y.state = .idle ∧ y.link = none ∧ y.seq = x.seq ∧ y.queue = left.filter fun u => u.ending.isSome
   else
    y.state = .recovery ∧ y.link = x.link ∧ y.queue = left ∧
    y.seq = { x.seq with phase := .lineWait, mode := .recovery, ladder := [], attempts := 0, backoff := none,
                         stopRequested := false }) ∧
  (resume ∧ toIdle = false → y.sched = x.sched ∧ GroupsKept s t) ∧
  (¬ (resume ∧ toIdle = false) → y.sched = none ∧ GroupsLeft p s t) ∧
  (x.te.transfer.isSome = true → y.te = { TransferEngine.reset with lastToggle := x.te.lastToggle } ∧
    y.xclaims = x.xclaims.filter (·.isReport)) ∧
  ∀ slot active behind : List OrtEntry,
    slot.map (·.id) = (x.slot.map (·.2)).toList → active.map (·.id) = (x.te.transfer.map (·.ort)).toList →
    behind.map (·.id) = ((queued.map (·.ort)).filter fun i => some i ≠ x.te.transfer.map (·.ort)) →
    ((slot ++ active ++ behind).map (·.id)).Nodup → s.Open (slot ++ active ++ behind) →
    (∀ b, x.te.transfer = some b → (x.queue.map (·.ort)).head? = some b.ort ∧ ∀ u ∈ x.queue, u.ort = b.ort → u.ending = none) →
    let lost := if toIdle then (if fate = .kept then active ++ behind else behind) else []
    HandedInOrder s t (slot.map (fun n => (n, if x.stopWaits then .ok else .linkLost, 0)) ++ active.flatMap fate.handedNow ++
      lost.map fun n => (n, .linkLost, 0)) ∧
    (∀ w ∈ active, fate = .kept → toIdle = false → t.entryState w.id = some .queued) ∧
    ∀ w ∈ active, ∀ e, fate = .waits e → HandedAtAccessEnd p w e s t

/-- Between `s` and `t` a BRING_UP with table entry `id` was accepted at port `p`, which stood as `x`: the sequence starts, and in
READY the active transfer meets its fate; the rest of the queue stays (R43, R117, R120). -/
def BringUpTaken (p : PortId) (id : Nat) (x : Port) (s t : State) : Prop :=
  let y := t.port p
  let fate := x.te.fate (s.flightOf Access.transferPort p) true false
  t.entryState id = some .active ∧ t.cpl.events = s.cpl.events ∧
  y = { x with
    state := .bringup, slot := some (.bringUp, id), counters := { x.counters with misses := 0 }
    seq := { x.seq with phase := .lineWait, mode := .bringUp, ladder := [], attempts := 0, backoff := none,
                        stopRequested := false }
    queue := y.queue, te := y.te, xclaims := y.xclaims } ∧
  (x.state = .idle ∨ x.te.transfer = none →
    y.queue = x.queue ∧ y.te = x.te ∧ y.xclaims = x.xclaims ∧ t.cpl = s.cpl) ∧
  ∀ b w, x.state = .ready → x.te.transfer = some b → w.id = b.ort → s.Open [w] →
    y.te = { TransferEngine.reset with lastToggle := x.te.lastToggle } ∧ y.xclaims = x.xclaims.filter (·.isReport) ∧
    y.queue = fate.queue b x.queue ∧ HandedInOrder s t (fate.handedNow w) ∧
    (fate = .kept → t.entryState w.id = some .queued) ∧
    ((∀ e, fate ≠ .waits e) → AccessDropped p s t) ∧
    ∀ e, fate = .waits e → e.onExchange = false → HandedAtAccessEnd p w e s t

/-- Between `s` and `t` a cycle of port `p` ended, `cyc` being its Cycle Engine after it. A fault or a CYCLE_STOP that waited for
the outcome takes the port to READY, unless a cycle admitted before the stop is still under way (R92, R97 to R99; log entry
21). -/
def CycleOver (p : PortId) (cyc : CycleEngine) (s t : State) : Prop :=
  let x := s.port p
  let y := t.port p
  if x.state = .cyclic ∧ (x.cyc.faultPending = true ∨
      (x.stopWaits = true ∧ x.cyc.admitted = false ∧ x.cyc.startWait = none)) then
    y.state = .ready ∧ y.sched = none ∧ y.slot = none ∧ y.stopPending = false ∧ GroupsLeft p s t ∧
    y.cyc = { cyc.discarded with faultPending := false } ∧
    ∀ k w, x.slot = some (k, w.id) → k ≠ .cycleStart → s.Open [w] → HandedInOrder s t [(w, .ok, 0)]
  else
    y.state = x.state ∧ y.sched = x.sched ∧ y.slot = x.slot ∧ y.cyc = cyc ∧ GroupsKept s t ∧
    t.ort = s.ort ∧ t.cpl.done = s.cpl.done

/-- The outcome of a service exchange that no transfer awaits any more reached the Transfer Engine, which drops it; the transfer
that waited for its SVC_ABANDON exchange is handed over (R43, R120). -/
def OutcomeDropped (p : PortId) (f : Frame) (s t : State) : Prop :=
  let x := s.port p
  let y := t.port p
  y.te = x.te ∧ t.cpl.events = s.cpl.events ∧
  (f.kind ≠ .svcAbandon → y.queue = x.queue ∧ t.cpl.done = s.cpl.done) ∧
  ∀ b more e w, f.kind = .svcAbandon → x.queue = b :: more → b.ending = some e → e.onExchange = true →
    (∀ u ∈ more, u.ending = none) → w.id = b.ort → s.Open [w] →
    y.queue = more ∧ HandedInOrder s t [(w, e.status, e.result)]

/-- Between `s` and `t` an exchange of port `p` failed with cause `c`: counted, guarded from now on, and, where it is a
miss, the count or the end of the link; its engine goes on (R16, R32 to R34, R39, R43, R46, R49, R92, R115, R120). -/
def ExchangeFailed (p : PortId) (f : Frame) (c : Cause) (s t : State) : Prop :=
  let x := s.port p
  let y := t.port p
  let cyc := if f.engine = .cycle then { x.cyc with underWay := none } else x.cyc
  OnlyPort p s t ∧ y.lf.state = .guard ∧ y.lf.txen = false ∧ y.lf.rx = none ∧ y.lf.candidate = none ∧
  y.lf.timer = some (s.time + 8 * f.speed.tb) ∧
  y.counters.failed = satAdd x.counters.failed 1 ∧ y.counters.lastFailure = some c ∧
  y.counters.cyclesStarted = x.counters.cyclesStarted ∧ y.config = x.config ∧
  (x.countsMiss f → x.counters.misses + 1 < x.config.missLimit →
    y.counters.misses = x.counters.misses + 1 ∧ y.link = x.link ∧ y.state.hasLink = true ∧ t.cpl.events = s.cpl.events) ∧
  (x.countsMiss f → x.config.missLimit ≤ x.counters.misses + 1 → LinkEnds p c cyc s t) ∧
  (f.engine = .cycle → (x.state.hasLink = true → x.counters.misses + 1 < x.config.missLimit) → CycleOver p cyc s t) ∧
  (f.engine = .bringUp → x.seq.phase = .identify → IdentifyFailed p s t) ∧
  (f.engine = .transfer → x.state.hasLink = true → x.counters.misses + 1 < x.config.missLimit → ServiceFailed p s t) ∧
  (f.engine = .transfer → x.te.phase ≠ .exchange → x.te.phase ≠ .abandonExchange → OutcomeDropped p f s t)

/-- Reply characters with recessive stop bits and, after the first, gaps of at most `g` (R4, R14). -/
def CleanCharacters (g : Nat) (chars : List RxChar) : Prop :=
  (∀ c ∈ chars, c.stop = true) ∧ ∀ c ∈ chars.drop 1, c.gap ≤ g

/-- How many characters the reply to `f` that begins with these octets has, once it is known (R7). -/
def Frame.replyChars (f : Frame) (got : List Byte) : Option Nat :=
  if f.kind.service then got[1]?.map fun n => n.toNat + 3 else some (f.replyLen + 2)

/-- These octets are the beginning of a reply to `f` that neither completes it nor shows a LEN above S (R7, R15). -/
def Frame.begunWith (f : Frame) (got : List Byte) : Prop :=
  (∀ n, f.replyChars got = some n → got.length < n) ∧
  (f.kind.service = true → ∀ n, got[1]? = some n → n.toNat ≤ f.seg)

/-- These octets are a whole reply to `f` (R7, R15). -/
def Frame.wholeReply (f : Frame) (got : List Byte) : Prop :=
  f.replyChars got = some got.length ∧ (f.kind.service = true → ∀ n, got[1]? = some n → n.toNat ≤ f.seg)

/-- How long reply characters take from the start edge of the first to the end of the last (R3, R14). -/
def replySpan (tb : Nat) (chars : List RxChar) : Nat := 10 * chars.length * tb + ((chars.drop 1).map (·.gap)).sum

/-- The miss count after an exchange judged OK (R32). -/
def Port.missesAfterGood (x : Port) : Nat := if x.state.hasLink then 0 else x.counters.misses

/-- What the ATTENTION of an OK reply does: the flag follows it, and its first appearance is posted (R94). -/
def Attended (p : PortId) (attention : Bool) (detail : Word) (s t : State) : Prop :=
  let x := s.port p
  (t.port p).counters = { x.counters with misses := x.missesAfterGood, attention := attention } ∧
  if attention = true ∧ x.counters.attention = false then Posted s t p .stationAttention detail
  else t.cpl.events = s.cpl.events

/-- A clean reply to a CYCLIC frame, `covered` its octets before the CRC, reached the Cycle Engine of a cycle begun at `u`: the
miss count is 0, ATTENTION is handled, and in CYCLIC with no fault pending and fewer than two images in writing the input
image of the next generation is formed, its data write ahead of its header; then the cycle is over (R92 to R94, R97 to R99). -/
def CyclicReplyTaken (p : PortId) (f : Frame) (covered : List Byte) (u : Word) (s t : State) : Prop :=
  let x := s.port p
  let y := t.port p
  let attention := (covered.getD 0 0).getLsbD 4
  let gen := x.cyc.inputGen + 1
  let slot := x.config.inImage + (if gen.getLsbD 0 then 40 else 0)
  let ended := { x.cyc with underWay := none }
  let cyc := if x.state = .cyclic ∧ x.cyc.faultPending = false ∧ x.cyc.writing < 2 then
      { ended with
        inputGen := gen, writing := x.cyc.writing + 1
        list := x.cyc.list ++ (if x.inLen = 0 then [] else [.write false (slot + 8) (covered.drop 1)]) ++
          [.write true slot (inputHeader gen x.inLen f.stale attention u x.counters.cyclesStarted)] }
    else ended
  Attended p attention 1 s t ∧ y.link = x.link ∧ y.config = x.config ∧ y.queue = x.queue ∧ y.te = x.te ∧
  CycleOver p cyc s t

/-- A clean reply to an IDENTIFY reached the sequencer in phase IDENTIFY (R46 to R52, R56 to R59): a sequence that was to stop
stops; a bad revision and a bad descriptor fail it for reasons 2 and 3; a valid descriptor makes the link. Then a bring-up
ends in READY and its BRING_UP completes OK with the fields of the descriptor; a recovery posts LINK_RESTORED and resumes its
schedule in ARMED where the resume flag is set and the descriptor is unchanged, and else ends in READY without one. -/
def IdentifyReplyTaken (p : PortId) (covered : List Byte) (s t : State) : Prop :=
  let x := s.port p
  let y := t.port p
  let d := descriptorOf (covered.drop 1)
  if x.seq.stopRequested then BringUpEnds p .aborted 0 s t
  else if d.revision ≠ 1 then SequenceFails p 2 s t
  else if d.minPeriod = 0 ∨ 32 < d.outLen.toNat ∨ 32 < d.inLen.toNat ∨ 2 < d.segCode.toNat then SequenceFails p 3 s t
  else
    let l : Link := { desc := d, speed := x.seq.rungSpeed }
    y.link = some l ∧ y.counters = { x.counters with misses := 0 } ∧ y.te = { x.te with lastToggle := true } ∧
    y.seq.phase = .stopped ∧ y.queue = x.queue ∧ y.config = x.config ∧ y.cyc = x.cyc ∧
    match x.seq.mode with
    | .bringUp =>
      y.state = .ready ∧ y.slot = none ∧ y.sched = x.sched ∧ GroupsKept s t ∧ t.cpl.events = s.cpl.events ∧
      ∀ k w, x.slot = some (k, w.id) → s.Open [w] → HandedInOrder s t [(w, .ok,
        d.stationId.setWidth 32 ||| (d.outLen.setWidth 32 <<< 16) ||| (d.inLen.setWidth 32 <<< 22) |||
          (d.segCode.setWidth 32 <<< 28) ||| (l.speed.code.setWidth 32 <<< 30))]
    | .recovery =>
      ∀ old, x.link = some old →
        let changed : Prop := d.stationId ≠ old.desc.stationId ∨ d.outLen ≠ old.desc.outLen ∨ d.inLen ≠ old.desc.inLen ∨
          (x.resume = true ∧ ∀ k, x.sched = some k → k.period < 100 * d.minPeriod.toNat)
        t.cpl.done = s.cpl.done ∧ y.slot = x.slot ∧
        if x.resume = true ∧ ¬ changed then
          y.state = .armed ∧ Posted s t p .linkRestored 2 ∧ GroupsKept s t ∧
          let e := s.time + 8 * l.speed.tb
          ∀ k, x.sched = some k → y.sched = some { k with
            delivered := false
            next := match k.kind with
              | .free => some (freeStart (e + 32 * 100))
              | .grouped g n phase => (s.firstStart g n phase (e + 32 * 64)).map (·.1) }
        else
          y.state = .ready ∧ y.resume = false ∧ (x.resume = true → y.sched = none ∧ GroupsLeft p s t) ∧
          (x.resume = false → y.sched = x.sched ∧ GroupsKept s t) ∧
          (changed → Posted s t p .linkRestored 1) ∧ (¬ changed → Posted s t p .linkRestored 0)

/-- A clean reply to a segment of the active transfer `b` with no abandon cause, its table entry being `w` (R110 to R114). -/
def SegmentReplyTaken (p : PortId) (b : Transfer) (g : Segment) (w : OrtEntry) (covered : List Byte) (s t : State) : Prop :=
  let x := s.port p
  let y := t.port p
  let sts := covered.getD 0 0
  let last := sts.getLsbD 3
  let data := covered.drop 2
  let n := data.length
  let done := x.te.octetsDone
  let busy := fun te : TransferEngine =>
    if x.config.busyLimit ≤ x.te.busies + 1 then TransferEnds p b w .stationBusy 0 s t
    else y.te = { te with busies := x.te.busies + 1, retries := 0, phase := .sendWait } ∧ y.xclaims = x.xclaims
  if sts.toNat % 4 = 1 then busy x.te
  else if sts.toNat % 4 ≠ 0 then TransferEnds p b w .stationError ((data.getD 0 0).setWidth 32) s t
  else if g.write then
    if g.last then TransferEnds p b w .ok (BitVec.ofNat 32 b.length) s t
    else
      let done := done + g.dataLen
      y.te = { x.te with octetsDone := done, retries := 0, busies := 0, phase := .fetching, segment := none } ∧
      y.xclaims = x.xclaims ++
        [.fetch (b.buffer + BitVec.ofNat 32 done)
          (if done = 0 then min b.length (x.segSize - 4) else min (b.length - done) x.segSize)]
  else if b.length < done + n then
    y.te = { x.te with
      retries := 0, busies := if n = 0 ∧ last = false then x.te.busies else 0, cause := some .tooLong }.abandoning ∧
    y.xclaims = x.xclaims.filter (·.isReport)
  else if n = 0 then
    if last then TransferEnds p b w .ok (BitVec.ofNat 32 done) s t
    else busy { x.te with
      storing := none
      segment := some { write := false, first := false, last := false, payload := [], dataLen := 0, toggle := none } }
  else
    y.te = { x.te with phase := .storing, retries := 0, busies := 0, segment := none, storing := some (n, last) } ∧
    y.xclaims = x.xclaims ++ [.store (b.buffer + BitVec.ofNat 32 done) data]

/-- A clean reply to a service frame reached the Transfer Engine (R43, R94, R110 to R114, R117, R119): a segment's reply is acted
on by its code, a transfer with an abandon cause ends or goes on to SVC_ABANDON, and the reply to SVC_ABANDON hands the
transfer over with its cause; a reply that nothing waits for leaves the engine as it was. -/
def ServiceReplyTaken (p : PortId) (f : Frame) (covered : List Byte) (s t : State) : Prop :=
  let x := s.port p
  let y := t.port p
  let sts := covered.getD 0 0
  y.state = x.state ∧ y.slot = x.slot ∧ y.sched = x.sched ∧ y.link = x.link ∧ y.cyc = x.cyc ∧ y.config = x.config ∧
  GroupsKept s t ∧
  (∀ b g w, x.te.phase = .exchange → x.te.transfer = some b → x.te.segment = some g → x.te.sent = true → w.id = b.ort →
    s.Open [w] →
    Attended p (sts.getLsbD 4) 2 s t ∧
    match x.te.cause with
    | none => SegmentReplyTaken p b g w covered s t
    | some c =>
      if 2 ≤ sts.toNat % 4 ∨ (sts.toNat % 4 = 0 ∧ (if g.write then g.last else sts.getLsbD 3) = true) then
        TransferEnds p b w (x.te.abandonedAs c).1 (x.te.abandonedAs c).2 s t
      else y.te = x.te.abandoning ∧ y.xclaims = x.xclaims.filter (·.isReport)) ∧
  (x.te.phase = .abandonExchange →
    y.counters = { x.counters with misses := x.missesAfterGood } ∧ t.cpl.events = s.cpl.events ∧
    ∀ b c w, x.te.transfer = some b → x.te.cause = some c → w.id = b.ort → s.Open [w] →
      TransferEnds p b w (x.te.abandonedAs c).1 (x.te.abandonedAs c).2 s t) ∧
  (x.te.phase ≠ .exchange → x.te.phase ≠ .abandonExchange → y.counters = x.counters ∧ OutcomeDropped p f s t)

/-- A start edge at `e` agrees with what has been told of the line by now: with no candidate edge, or one whose sample has
passed, it does not lie in the past; with one that awaits its sample half a bit time after it, it is that edge where the line
is dominant, and falls after that sample where the line is recessive (R4; log entry 11). -/
def Port.EdgeOpen (x : Port) (half now e : Nat) : Prop :=
  match x.lf.candidate with
  | none => now ≤ e
  | some c => if now ≤ c + half then (if x.rxd then c + half < e else e = c) else now ≤ e

/-- The start edge at `e` was told by RXD_LEVEL_CHANGE and awaits its sample (R4). -/
def Port.EdgeTold (x : Port) (half now e : Nat) : Prop := x.lf.candidate = some e ∧ now ≤ e + half

/-- The first character of a STATION_REPLY begins at `e`: the one under way, or, between characters, one that begins its gap after
the end of the last, within `g`. `gaps` are those of its characters in order; the first edge among them, that of the second
character where the first is under way and a candidate is held, agrees with what has been told (R4, R14; log entry 11). -/
def BeginsAt (x : Port) (tb now g : Nat) (r : Rx) (gaps : List Nat) (e : Nat) : Prop :=
  match r.edge with
  | some d => e = d ∧ ∀ n, x.lf.candidate.isSome = true → gaps[1]? = some n → x.EdgeOpen (tb / 2) now (d + 10 * tb + n)
  | none => ∃ n, gaps.head? = some n ∧ e = r.lastEnd + n ∧ n ≤ g ∧ x.EdgeOpen (tb / 2) now e

/-- The level on RXD of port `p`, and since when, after a character begun at `edge`: as told since that edge, else what the bits
of the character leave, `recessive` since `since` (R11; log entries 11 and 12). -/
def LineAfter (p : PortId) (edge : Nat) (recessive : Bool) (since : Nat) (s t : State) : Prop :=
  let x := s.port p
  let y := t.port p
  if x.lf.recessiveSince.any (edge < ·) || x.lf.dominantSince.any (edge < ·) then
    y.rxd = x.rxd ∧ y.lf.recessiveSince = x.lf.recessiveSince ∧ y.lf.dominantSince = x.lf.dominantSince
  else
    y.rxd = recessive ∧ y.lf.recessiveSince = (if recessive then some since else none) ∧
    y.lf.dominantSince = if recessive then none else some since

/-- Between `s` and `t` a whole and clean reply to `f`, `covered` its octets before the CRC, ended the exchange of port `p`: the
guard runs, and the engine that sent the frame takes the reply (R15, R16). -/
def ReplyTaken (p : PortId) (f : Frame) (covered : List Byte) (s t : State) : Prop :=
  let x := s.port p
  let y := t.port p
  OnlyPort p s t ∧ y.lf.state = .guard ∧ y.lf.txen = false ∧ y.lf.rx = none ∧ y.lf.candidate = none ∧
  y.lf.timer = some (s.time + 8 * f.speed.tb) ∧
  match f.engine with
  | .cycle => ∀ u, x.cyc.underWay = some u → CyclicReplyTaken p f covered u s t
  | .bringUp => x.seq.phase = .identify → IdentifyReplyTaken p covered s t
  | .transfer => ServiceReplyTaken p f covered s t

/-! ### Instants -/

/-- `s` at the instant `t`, or now where `t` has passed, nothing being due before it (log entry 4). -/
def State.Reaches (s : State) (t : Nat) (s' : State) : Prop := s.reach (max s.time t) = some s'

end Sys2Proof.Machine
end

