-- ==== Sys2Proof/Certificates/Slice0/Obligations.lean ====
section
/-! DEFINITION. The statements for the provers. `Completes i s post` says that `i` answers a next state of which `post` holds;
`s'` is `s` at the instant of a timed step (log entry 4). -/

open Sys2Proof Sys2Proof.Machine

/-! ### The queue, the records, the invariants -/

/-- A command at the front of the queue is taken with the rest of the queue behind it. With the queue empty the part takes
one of its due steps or one of the arrivals on their way, or the least time passes (the model's choice, log entries 1 and
6). -/
def Obligations.StepRunsTheFrontCommand : Prop :=
  (∀ (c : Instr) (rest : List Instr) (s : State),
    step { s with pending := c :: rest } = exec c { s with pending := rest }) ∧
  ∀ s : State, s.pending = [] →
    (∀ c, s.dueStep = some (.row c) → step s = exec c s.chosen) ∧
    (∀ p, s.dueStep = some (.portArrival p) → step s = .next (s.chosen.portArrival p)) ∧
    (s.dueStep = some .unitArrival → step s = .next s.chosen.unitArrival) ∧
    (s.dueStep = none → step s = .next s.tick ∧ (s.tick = s ∨ s.tick = { s with time := s.time + 1 }))

/-- Every command answers a next state: no fault, no refusal. That a command which the state does not admit answers a next
state too is the model's choice (log entry 3, DESIGN CHOICE). -/
def Obligations.EveryCommandAnswersANextState : Prop := ∀ (i : Instr) (s : State), ∃ t, exec i s = .next t

/-- No command touches the queue of waiting commands. The queue is the model's own, and that the two resets keep it too is the
model's choice (log entry 30, DESIGN CHOICE). -/
def Obligations.NoCommandTouchesTheQueue : Prop :=
  ∀ (i : Instr) (s t : State), exec i s = .next t → t.pending = s.pending

/-- A well-formed row that takes a record decodes from the record it encodes to, and every record decodes to a well-formed
row that encodes to it (R127, R132, section 10.2). When the request reaches its target is no part of the record (log entry 6). -/
def Obligations.RecordsDecodeToTheirRows : Prop :=
  (∀ (i : Instr) (d : BitVec 256), i.wellFormed = true → encodeRecord i = some d → ∃ late, decodeRecord late d = i) ∧
  ∀ (late : Bool) (d : BitVec 256),
    (decodeRecord late d).wellFormed = true ∧ encodeRecord (decodeRecord late d) = some d

/-- Every step keeps the reservation count equal to the number of table entries, and that number at most 64 (R130). Every step
keeps reservations and used count together within the completion ring, a claimed EVENT record counted, and each hand-over
to one record (R131, R147). -/
def Obligations.EveryStepKeepsTheBooks : Prop :=
  ∀ s t : State, s.Books → step s = .next t → t.Books ∧ (s.Credit → s.NoneBefore → t.Credit)

/-- Every step keeps the entries of the Event Pending List apart in port and kind (R149). -/
def Obligations.EveryStepKeepsEventsDistinct : Prop :=
  ∀ s t : State, s.EventsDistinct → step s = .next t → t.EventsDistinct

/-- Every step keeps the ring indices below the ring sizes (R123, R124, R140, R146). -/
def Obligations.EveryStepKeepsIndicesBelow : Prop :=
  ∀ s t : State, s.IndicesBelow ∧ s.NoneBefore → step s = .next t → t.IndicesBelow ∧ t.NoneBefore

/-- Every step keeps the consecutive miss count of every port below its miss limit (R32), and what waits at a target
validated (R127). -/
def Obligations.EveryStepKeepsMissesBelow : Prop :=
  ∀ s t : State, s.MissesBelow → s.ArrivalsValid → step s = .next t → t.MissesBelow ∧ t.ArrivalsValid

/-- Every step keeps the Line Framer of a port that is DISABLED or in FAULT OFF and empty (R10, R17). -/
def Obligations.EveryStepKeepsDisabledLinesOff : Prop :=
  ∀ s t : State, s.LineSafe → step s = .next t → t.LineSafe

/-- The invariants hold right after reset. -/
def Obligations.InvariantsHoldAtReset : Prop :=
  State.reset.Books ∧ State.reset.Credit ∧ State.reset.EventsDistinct ∧ State.reset.IndicesBelow ∧
  State.reset.NoneBefore ∧ State.reset.MissesBelow ∧ State.reset.ArrivalsValid ∧ State.reset.LineSafe

/-! ### Takes -/

/-- A record that fails its validation is handed over with the status of the failed check and result 0, and reaches no
target. A valid request that is late, or finds others waiting, waits at its target behind them, ROUTED, and nothing else
happens; where none waits, a late request acts, once it arrives, as one that acts within its row (R127, R132, R134, R135;
that a request can be late is the model's reading, log entry 6). -/
def Obligations.AFailedCheckIsReported : Prop :=
  (∀ (i : Instr) (k : Byte) (r : ReqRecord) (st : Status) (u : Setup) (e : OrtEntry) (s : State),
    recordOf i = some (k, r) → checkOf i = some (some st) → s.Fetched u e → s.TableSound e →
    Completes i s fun t => HandedAtTake s t u e k r st 0) ∧
  ∀ (k : Byte) (r : ReqRecord) (u : Setup) (e : OrtEntry) (s : State),
    checkOf (rowOfKind k false r) = some none → s.Fetched u e →
    let taken := s.afterTake u e k r
    let p := targetPort r
    let x := s.port p
    (kindOfPort k = true →
      (∀ late : Bool, late = true ∨ x.inbox ≠ [] →
        exec (rowOfKind k late r) s = .next (taken.withPort p { x with inbox := x.inbox ++ [.request e.id k r] })) ∧
      (x.inbox = [] → exec (rowOfKind k false r) s =
        .next ((taken.withPort p { x with inbox := [.request e.id k r] }).portArrival p))) ∧
    (kindOfUnit k = true →
      (∀ late : Bool, late = true ∨ s.unitInbox ≠ [] →
        exec (rowOfKind k late r) s = .next { taken with unitInbox := s.unitInbox ++ [.request e.id k r] }) ∧
      (s.unitInbox = [] → exec (rowOfKind k false r) s =
        .next { taken with unitInbox := [.request e.id k r] }.unitArrival))

/-- A record whose kind names no request kind is handed over BAD_REQUEST with its kind as read (R132). -/
def Obligations.AnUnknownKindIsBadRequest : Prop :=
  ∀ (k : Byte) (r : ReqRecord) (u : Setup) (e : OrtEntry) (s : State),
    kindNamed k = false → s.Fetched u e → s.TableSound e →
    Completes (.unknownRequestKind k r) s fun t => HandedAtTake s t u e k r .badRequest 0

/-- A valid NOP is handed over at its take with status OK and the number of table entries in use, and changes nothing but
its own table entry: the whole next state. A record written for it carries the timestamp and the head at its write. -/
def Obligations.ANopReportsTheEntriesInUse : Prop :=
  (∀ (r : ReqRecord) (u : Setup) (e : OrtEntry) (s : State),
    checkNop r = none → s.Fetched u e → s.TableSound e → s.NotAwaited e.id → s.Books →
    exec (.nop r) s = .next { s with
      head := (s.head + 1) % u.reqSize
      bus := { s.bus with flight := none }
      ort := s.tableWith e kindNop r .done
      cpl := { s.cpl with done := s.cpl.done ++
        [{ ort := e.id, tag := r.tag, kind := kindNop, target := 0, status := .ok,
           result := BitVec.ofNat 32 s.ort.length, arrival := s.arrivals }] }
      arrivals := s.arrivals + 1 } ∧
    1 ≤ s.ort.length ∧ s.ort.length ≤ 64) ∧
  ∀ (c : Completion) (phase : Bool) (now : Word) (head : Nat),
    ((doneRecord c phase now head).drop 8).take 6 = octets 4 now ++ octets 2 (BitVec.ofNat 16 head)

/-- PORT_CONFIG in DISABLED and IDLE replaces the whole configuration and completes OK; in another state it is refused
BAD_PORT_STATE and the port is left as it was (R24, R27). -/
def Obligations.PortConfigReplacesTheConfiguration : Prop :=
  ∀ (r : ReqRecord) (u : Setup) (e : OrtEntry) (s : State),
    checkPortConfig r = none → s.Fetched u e → s.TableSound e → (s.port (targetPort r)).inbox = [] →
    Completes (.portConfig ⟨r, false⟩) s fun t =>
      t.control = s.takenControl u ∧ OthersKept (targetPort r) s t ∧ GroupsKept s t ∧
      (if (s.port (targetPort r)).state = .disabled ∨ (s.port (targetPort r)).state = .idle then
        Reported s t e kindPortConfig r .ok 0 ∧
        t.port (targetPort r) = { s.port (targetPort r) with config := portConfigOf r }
      else
        Reported s t e kindPortConfig r .badPortState 0 ∧ t.port (targetPort r) = s.port (targetPort r))

/-- PORT_ENABLE takes a DISABLED port to IDLE with its Line Framer FREE and its stretch starting now, is refused in FAULT,
and completes OK without effect elsewhere (R28). -/
def Obligations.PortEnableTurnsThePortOn : Prop :=
  ∀ (r : ReqRecord) (u : Setup) (e : OrtEntry) (s : State),
    checkPortOnly r = none → s.Fetched u e → s.TableSound e → (s.port (targetPort r)).inbox = [] →
    Completes (.portEnable ⟨r, false⟩) s fun t =>
      t.control = s.takenControl u ∧ OthersKept (targetPort r) s t ∧ GroupsKept s t ∧
      (if (s.port (targetPort r)).state = .disabled then
        Reported s t e kindPortEnable r .ok 0 ∧
        t.port (targetPort r) = { s.port (targetPort r) with
          state := .idle
          lf := { Framer.reset with
            state := .free
            recessiveSince := if (s.port (targetPort r)).rxd then some s.time else none
            dominantSince := if (s.port (targetPort r)).rxd then none else some s.time } }
      else
        t.port (targetPort r) = s.port (targetPort r) ∧
        Reported s t e kindPortEnable r
          (if (s.port (targetPort r)).state = .fault then .badPortState else .ok) 0)

/-- PORT_DISABLE in any state cuts the line, stops the engines, leaves the group, clears what R29 clears and keeps the
configuration. It ends every request of the port with PORT_DISABLED and result 0, the slot, the queue from head to tail, the
queries not granted, and then completes OK with their number. A transfer or query whose access is in flight when the
PORT_DISABLE arrives is handed when that access ends, and the PORT_DISABLE after it (R22, R29 to R31; an arrival after the
take is log entry 6). -/
def Obligations.PortDisableClearsThePort : Prop :=
  ∀ (p : PortId) (r : ReqRecord) (ended : List OrtEntry) (s : State), targetPort r = p →
    let x := s.port p
    let off := fun (queue : List Transfer) (queries : List Query) (waits : List DisableWait) => { x with
      state := .disabled, link := none, slot := none, queue := queue, sched := none, resume := false, stopPending := false
      faultCause := none, counters := Counters.reset, lf := Framer.reset, cyc := CycleEngine.reset
      te := TransferEngine.reset, queries := queries, disables := waits, xclaims := [], blank := none
      seq := { x.seq with phase := .stopped, ladder := [], attempts := 0, backoff := none, stopRequested := false } }
    let slot := (x.slot.map (·.2)).toList
    let handed : List (OrtEntry × Status × Word) := ended.map fun n => (n, .portDisabled, 0)
    x.disables = [] → (∀ b ∈ x.queue, ∀ d, b.ending = some d → d.onExchange = true) →
    (∀ (u : Setup) (e : OrtEntry), checkPortOnly r = none → s.Fetched u e → s.TableSound e → x.inbox = [] →
      x.reportClaims = x.queries.map (·.ort) → ended.map (·.id) = x.requestIds → (e.id :: x.requestIds).Nodup →
      s.Open ended → s.NotAwaited e.id →
      Completes (.portDisable ⟨r, false⟩) s fun t =>
        t.control = s.takenControl u ∧ OthersKept p s t ∧ GroupsLeft p s t ∧ t.cpl.events = s.cpl.events ∧
        t.port p = off [] [] [] ∧
        HandedInOrder s t (handed ++ [(e.filled kindPortDisable r, .ok, BitVec.ofNat 32 ended.length)]) ∧
        t.entryState e.id = some .done ∧ ∀ n ∈ ended, t.entryState n.id = some .done) ∧
    ∀ (f : BusFlight) (w d : OrtEntry) (rest : List Arrival) (more stay : List Transfer) (claimed held : List Query),
      s.pending = [] → s.dueStep = some (.portArrival p) → x.inbox = .request d.id kindPortDisable r :: rest →
      s.bus.flight = some f → f.live = true →
      ((∃ b, f.access.transferPort = some p ∧ x.te.transfer = some b ∧ b.ort = w.id ∧ b.ending = none ∧
          x.queue = b :: more ∧ stay = [{ b with ending := some { status := .portDisabled, result := 0, onExchange := false } }] ∧
          x.queries = claimed ∧ held = []) ∨
        (∃ q a l, f.access = .reportWrite p w.id a l ∧ q.ort = w.id ∧ x.queries = q :: claimed ∧ held = [q] ∧
          x.queue = more ∧ stay = [])) →
      x.reportClaims = claimed.map (·.ort) → ended.map (·.id) = slot ++ more.map (·.ort) ++ claimed.map (·.ort) →
      ((w :: d :: ended).map (·.id)).Nodup → s.Open (w :: d :: ended) →
      ∃ t, step s = .next t ∧ OnlyPort p s.chosen t ∧ GroupsLeft p s t ∧ HandedInOrder s t handed ∧
        t.entryState d.id = some .waiting ∧
        t.port p = { off stay held [{ ort := d.id, count := ended.length + 1 }] with inbox := rest } ∧
        ∀ i, (∃ a n v, f.access = .transferFetch p a n ∧ i = .transferFetchEnd v) ∨
            (∃ a l ok, f.access = .transferStore p a l ∧ i = .transferStoreEnd ok) →
          Completes i t fun v => v.port p = { off [] [] [] with inbox := rest } ∧
            HandedInOrder t v [(w, .portDisabled, 0), (d, .ok, BitVec.ofNat 32 (ended.length + 1))]

/-- BRING_UP in IDLE and READY enters an empty control slot, takes the port to BRINGUP with its miss count at 0 and starts a
sequence in LINE_WAIT; an occupied slot refuses it BUSY, another state BAD_PORT_STATE. From READY an active transfer that has
sent nothing and has no abandon cause returns to the queue, its fetch in flight given up; any other without a cause is handed
over LINK_LOST, at once, or where its access is in flight when that ends; one with a cause is handed over with it, at once, its
access given up, or where its SVC_ABANDON is on the line after that exchange (R24, R25, R43, R117, R120; an arrival after the
take is log entry 6, and log entry 17 reads R43's last case so where nothing was sent). -/
def Obligations.BringUpStartsASequence : Prop :=
  ∀ (p : PortId) (r : ReqRecord) (s : State), targetPort r = p →
    let x := s.port p
    (∀ (u : Setup) (e : OrtEntry), checkPortOnly r = none → s.Fetched u e → s.TableSound e → x.inbox = [] →
      x.te.transfer.map (·.ort) ≠ some e.id →
      Completes (.bringUp ⟨r, false⟩) s fun t =>
        t.control = s.takenControl u ∧ OthersKept p s t ∧ GroupsKept s t ∧
        (if x.state = .idle ∨ x.state = .ready then
          if x.slot = none then BringUpTaken p e.id x s t
          else t.port p = x ∧ Reported s t e kindBringUp r .busy 0
        else t.port p = x ∧ Reported s t e kindBringUp r .badPortState 0)) ∧
    ∀ (d : OrtEntry) (rest : List Arrival), s.pending = [] → s.dueStep = some (.portArrival p) →
      x.inbox = .request d.id kindBringUp r :: rest → s.ortFind d.id = some d → d.st ≠ .done →
      x.te.transfer.map (·.ort) ≠ some d.id → x.state = .idle ∨ x.state = .ready → x.slot = none →
      ∃ t, step s = .next t ∧ OnlyPort p s.chosen t ∧ GroupsKept s t ∧ BringUpTaken p d.id { x with inbox := rest } s t

/-- A CYCLE_START is refused BAD_PORT_STATE outside READY, and in READY, where the port has a link, BUSY with the control slot
occupied. One whose checks pass takes the port to ARMED, sets its schedule entry and clears the last accepted sample; the
grouped form joins the group, confirmed. In a RUNNING group the first start is the first instant of the member's schedule not
earlier than the line-free bound and 64 µs from now; in an UNFIRED one it is absent (R24, R25, R66, R70 to R72, R79, R81). The
free form's first start is the instant of R73; how it falls within its microsecond is a free value of the model (freeStart, log
entry 10). That the present instant of a line-free bound is the exact time is the model's choice too (log entry 40). -/
def Obligations.CycleStartArmsThePort : Prop :=
  ∀ (r : ReqRecord) (u : Setup) (e : OrtEntry) (s : State),
    checkCycleStart r = none → s.Fetched u e → s.TableSound e → (s.port (targetPort r)).inbox = [] →
    Completes (.cycleStart ⟨r, false⟩) s fun t =>
      let p := targetPort r
      let x := s.port p
      let refused := fun st : Status => GroupsKept s t ∧ t.port p = x ∧ Reported s t e kindCycleStart r st 0
      let armed := fun k : Sched => t.entryState e.id = some .waiting ∧ t.cpl = s.cpl ∧
        t.port p = { x with
          slot := some (.cycleStart, e.id), sched := some k, state := .armed
          cyc := { x.cyc with lastGen := none, lastData := none } }
      t.control = s.takenControl u ∧ OthersKept p s t ∧
      if x.state ≠ .ready then refused .badPortState
      else ∀ l, x.link = some l →
        if x.slot.isSome then refused .busy
        else (∀ g, ∀ m ∈ (s.group g).members, m.port ≠ p) → match cycleGroup r with
        | none =>
          match cycleStartFailure x l (cycleFreePeriod r) true with
          | some st => refused st
          | none => GroupsKept s t ∧ armed
              { kind := .free, period := cycleFreePeriod r
                next := some (freeStart (max (usUnits (s.micros + 100)) (s.lineFree p + usUnits Config.samplingLead)))
                delivered := false }
        | some g =>
          let d := cycleDivisor r
          let phase := cyclePhase r
          let period := (s.group g).period
          match cycleStartFailure x l (d * period) (phase < period) with
          | some st => refused st
          | none =>
            (∀ h, h ≠ g → t.group h = s.group h) ∧
            t.group g = { s.group g with
              members := (s.group g).members ++ [{ port := p, divisor := d, phase := phase, tentative := false }] } ∧
            let first := (s.firstStart g d phase (max (s.lineFree p) (32 * (s.micros + 64)))).map (·.1)
            armed { kind := .grouped g d phase, period := d * period, next := first, delivered := false } ∧
            ((s.group g).running = none → first = none) ∧
            ∀ b origin n k, (s.group g).running = some b → 1 ≤ period →
              s.timeOf b.next = 32 * (origin + n * period) → (s.group g).beatNumber = n % 720720 →
              (b.fresh = true ↔ n = 0) → origin + n * period ≤ s.micros + period →
              FirstInstant (origin + phase) (d * period) (max (s.lineFree p) (32 * (s.micros + 64))) k →
              first = some (BitVec.ofNat 32 (origin + phase + k * (d * period)))

/-- CYCLE_STOP: no effect in READY; in RECOVERY it clears the resume flag and the schedule; in ARMED the port goes to READY,
a waiting CYCLE_START is handed over CANCELLED and after it the CYCLE_STOP OK; in CYCLIC with the slot empty it ends the
schedule at once, or waits in the slot while a cycle is under way; with the slot occupied it is BUSY; in the other states it
is refused (R25, R60, R98, R99). -/
def Obligations.CycleStopEndsTheSchedule : Prop :=
  ∀ (r : ReqRecord) (u : Setup) (e : OrtEntry) (s : State),
    checkPortOnly r = none → s.Fetched u e → s.TableSound e → (s.port (targetPort r)).inbox = [] →
    (∀ k id, (s.port (targetPort r)).slot = some (k, id) → id ≠ e.id) → s.NotAwaited e.id →
    Completes (.cycleStop ⟨r, false⟩) s fun t =>
      let p := targetPort r
      let x := s.port p
      let y := t.port p
      let answer := fun (st : Status) => (e.filled kindCycleStop r, st, (0 : Word))
      t.control = s.takenControl u ∧ OthersKept p s t ∧ t.cpl.events = s.cpl.events ∧
      match x.state with
      | .ready => y = x ∧ GroupsKept s t ∧ HandedInOrder s t [answer .ok]
      | .recovery => y = { x with sched := none, resume := false } ∧ GroupsLeft p s t ∧ HandedInOrder s t [answer .ok]
      | .armed =>
        GroupsLeft p s t ∧ (x.slot = none → y = x.stopped ∧ HandedInOrder s t [answer .ok]) ∧
        ∀ id, x.slot = some (.cycleStart, id) → y = x.stopped ∧
          ∀ c, c.id = id → s.Open [c] → HandedInOrder s t [(c, .cancelled, 0), answer .ok]
      | .cyclic =>
        if x.slot ≠ none then y = x ∧ GroupsKept s t ∧ HandedInOrder s t [answer .busy]
        else if x.cyc.admitted || x.cyc.underWay.isSome || x.cyc.startWait.isSome then
          y = { x with slot := some (.cycleStop, e.id), stopPending := true } ∧ GroupsKept s t ∧
          t.entryState e.id = some .waiting ∧ t.cpl = s.cpl
        else y = x.stopped ∧ GroupsLeft p s t ∧ HandedInOrder s t [answer .ok]
      | .disabled | .idle | .bringup | .fault => y = x ∧ GroupsKept s t ∧ HandedInOrder s t [answer .badPortState]

/-- GROUP_CONFIG writes a group without members and takes it back to UNFIRED; a group with members refuses it BUSY (R65). -/
def Obligations.GroupConfigWritesAnEmptyGroup : Prop :=
  ∀ (r : ReqRecord) (u : Setup) (e : OrtEntry) (s : State),
    checkGroupConfig r = none → s.Fetched u e → s.TableSound e → s.unitInbox = [] →
    Completes (.groupConfig ⟨r, false⟩) s fun t =>
      t.control = s.takenControl u ∧ PortsKept s t ∧ (∀ g, g ≠ targetGroup r → t.group g = s.group g) ∧
      (if (s.group (targetGroup r)).members = [] then
        t.group (targetGroup r) =
          { period := groupPeriodOf r, source := groupSourceOf r, running := none, beatNumber := 0, members := [] } ∧
        Reported s t e kindGroupConfig r .ok 0
      else t.group (targetGroup r) = s.group (targetGroup r) ∧ Reported s t e kindGroupConfig r .busy 0)

/-- SYNC_FIRE with a LINE group in its mask is refused and fires nothing; else every named group is fired at once, with the
shared epoch 100 µs from now, each confirmed member is given its first start or moved onto the new epoch, with its slips, and
the request completes OK with that epoch (R67, R69, R75, R76). The model's own: a withdrawal completes a waiting CYCLE_STOP only
where no earlier exchange is under way (log entry 21), and, in a line-free bound, the exact present instant (log entry 40) and a
start that waits for its guard left out (log entry 41); the bit `fresh` of a group is the model's bookkeeping (log entry 15); an
old beat due in this microsecond and not yet reached is dropped (log entry 44). -/
def Obligations.SyncFireFiresTheNamedGroups : Prop :=
  ∀ (r : ReqRecord) (u : Setup) (e : OrtEntry) (s : State),
    checkSyncFire r = none → s.Fetched u e → s.TableSound e → s.unitInbox = [] →
    (∀ p k id, (s.port p).slot = some (k, id) → id ≠ e.id) →
    Completes (.syncFire ⟨r, false⟩) s fun t =>
      t.control = s.takenControl u ∧
      (if ∃ g, maskNames r g = true ∧ (s.group g).source = .line then
        PortsKept s t ∧ GroupsKept s t ∧ Reported s t e kindSyncFire r .badParameter 0
      else
        ReportedAmong s t e kindSyncFire r .ok (s.timebase + 100) ∧ GroupsFired (fun g => maskNames r g = true) s t)

/-- PARAM_READ and PARAM_WRITE are refused outside BRINGUP, READY, ARMED, CYCLIC and RECOVERY, refused QUEUE_FULL with eight
transfers queued, and else join the tail of the acyclic queue (R24, R26). -/
def Obligations.TransfersJoinTheQueue : Prop :=
  ∀ (w : Bool) (r : ReqRecord) (u : Setup) (e : OrtEntry) (s : State),
    checkParam r = none → s.Fetched u e → s.TableSound e → (s.port (targetPort r)).inbox = [] →
    Completes (paramRow w r false) s fun t =>
      let x := s.port (targetPort r)
      let y := t.port (targetPort r)
      let k := if w then kindParamWrite else kindParamRead
      t.control = s.takenControl u ∧ OthersKept (targetPort r) s t ∧ GroupsKept s t ∧
      (if x.state = .bringup ∨ x.state = .ready ∨ x.state = .armed ∨ x.state = .cyclic ∨ x.state = .recovery then
        if x.queue.length < 8 then
          t.entryState e.id = some .queued ∧ t.cpl = s.cpl ∧
          y = { x with queue := x.queue ++
            [{ ort := e.id, tag := r.tag, write := w, index := paramIndex r, length := paramLength r,
               buffer := paramBuffer r, ending := none }] }
        else y = x ∧ Reported s t e k r .queueFull 0
      else y = x ∧ Reported s t e k r .badPortState 0)

/-- An ABORT that matches nothing completes OK with result 0. It takes every queued transfer it matches from its queue, each
reported ABORTED with result 0, and after them the ABORT OK with their number. With matches of any kinds it waits for them all,
and hands an abort for each to its port: one that is late, or finds others there, waits in the port's inbox behind them; any
other acts at once, as an arrival does. An abort that arrives finds the access of the active transfer in flight, or its segment
out, and only sets its abandon cause; it ends an active transfer that has sent nothing, a queued one, a CYCLE_START that waits
and a BRING_UP that has nothing on the line; else the transfer is abandoned, the BRING_UP is to stop, a CYCLE_STOP, PORT_DISABLE
or PORT_QUERY goes on. The ABORT is handed over OK with its number right after the last of its matches. An abort that finds its
entry DONE does nothing (R52, R87, R100, R118, R137 to R139). The model's own: that aborts arrive after the take, and one that its
ABORT no longer waits for (log entry 6), the order of an ABORT's matches (14), that a transfer ended already is not affected
(19), and the ABORT's record ahead of the queue's (35). -/
def Obligations.AbortReportsAfterItsMatches : Prop :=
  (∀ (p : PortId) (a m : OrtEntry) (rest : List Arrival) (s : State),
    let x := s.port p
    let unmoved := s.withPort p { x with inbox := rest }
    x.inbox = .abort a.id m.id :: rest → s.ortFind m.id = some m → m.targetPort = p →
    (s.pending = [] → s.dueStep = some (.portArrival p) → step s = .next (s.chosen.portArrival p)) ∧
    (m.st = .done → s.portArrival p = unmoved) ∧
    ((∀ w, s.ortFind a.id = some w → w.st ≠ .waiting ∨ m.id ∉ w.awaited) → s.portArrival p = unmoved) ∧
    (s.ortFind a.id = some a → a.st = .waiting → m.id ∈ a.awaited → m.st ≠ .done → a.id ≠ m.id →
      let still := a.awaited.filter (· ≠ m.id)
      AbortActs p m a.id { x with inbox := rest } (s.flightOf Access.transferPort p) s
        (fun y => s.portArrival p = s.withPort p y)
        fun post behind => (∀ w ∈ s.ort, m.id ∈ w.awaited → w = a) →
          let t := s.portArrival p
          let dropsSample : Prop := ¬ (m.kind = kindParamRead ∨ m.kind = kindParamWrite) ∧ x.slot = some (.cycleStart, m.id)
          OnlyPort p s t ∧ post t ∧ t.cpl.events = s.cpl.events ∧ (¬ dropsSample → t.bus = s.bus) ∧
          (dropsSample → t.bus = { s.bus with
            flight := s.bus.flight.map fun f => match f.access with
              | .sampleRead q _ _ _ => if q = p then { f with wanted := false } else f
              | _ => f }) ∧
          HandedInOrder s t
            ((m, .aborted, 0) :: (if still = [] then [(a, .ok, BitVec.ofNat 32 a.matched)] else []) ++ behind) ∧
          (still ≠ [] → t.ortFind a.id = some { a with awaited := still }))) ∧
  ∀ (r : ReqRecord) (u : Setup) (e : OrtEntry) (s : State),
    checkAbort r = none → s.Fetched u e → s.TableSound e →
    let answer := fun n : Nat => (e.filled kindAbort r, Status.ok, BitVec.ofNat 32 n)
    let transfer := fun m : OrtEntry => m.kind = kindParamRead ∨ m.kind = kindParamWrite
    let counted := fun ms : List OrtEntry => { s.afterTake u e kindAbort r with
      ort := s.ort.map fun n => if n.id = e.id then
        { e.filled kindAbort r with st := .waiting, matched := ms.length, awaited := ms.map (·.id) } else n }
    (∀ late : Bool, s.abortMatches r = [] → Completes (.abort ⟨r, late⟩) s fun t => HandedAtTake s t u e kindAbort r .ok 0) ∧
    (∀ (ms : List OrtEntry) (late : Bool), s.abortMatches r = ms → ms ≠ [] →
      exec (.abort ⟨r, late⟩) s = .next (ms.foldl (fun t m =>
        let y := t.port m.targetPort
        let arrived := t.withPort m.targetPort { y with inbox := y.inbox ++ [.abort e.id m.id] }
        if late = true ∨ y.inbox ≠ [] then arrived else arrived.portArrival m.targetPort) (counted ms))) ∧
    (∀ ms : List OrtEntry, s.abortMatches r = ms → ms ≠ [] →
      (∀ m ∈ ms, transfer m ∧ (s.port m.targetPort).inbox = [] ∧
        (s.port m.targetPort).te.transfer.map (·.ort) ≠ some m.id ∧
        ∃ b ∈ (s.port m.targetPort).queue, b.ort = m.id ∧ b.ending = none) →
      s.Open ms → s.NotAwaited e.id →
      Completes (.abort ⟨r, false⟩) s fun t =>
        t.control = s.takenControl u ∧ GroupsKept s t ∧ t.cpl.events = s.cpl.events ∧
        (∀ p, t.port p = { s.port p with
          queue := (s.port p).queue.filter fun b => !(ms.any fun m => m.targetPort = p && m.id = b.ort) }) ∧
        HandedInOrder s t (ms.map (fun m => (m, .aborted, 0)) ++ [answer ms.length])) ∧
    ∀ (m : OrtEntry) (p : PortId), s.abortMatches r = [m] → m.targetPort = p → (s.port p).inbox = [] →
      s.Open [m] → s.NotAwaited e.id →
      AbortActs p m e.id (s.port p) false s
        (fun y => exec (.abort ⟨r, false⟩) s = .next ((counted [m]).withPort p y))
        fun post behind => Completes (.abort ⟨r, false⟩) s fun t =>
          t.control = s.takenControl u ∧ OthersKept p s t ∧ post t ∧ t.cpl.events = s.cpl.events ∧
          HandedInOrder s t ((m, .aborted, 0) :: answer 1 :: behind)

/-- PORT_QUERY takes its snapshot in every port state and claims the report write; its entry is ACTIVE (R40). -/
def Obligations.PortQueryClaimsItsReport : Prop :=
  ∀ (r : ReqRecord) (u : Setup) (e : OrtEntry) (s : State),
    checkPortQuery r = none → s.Fetched u e → s.TableSound e → (s.port (targetPort r)).inbox = [] →
    Completes (.portQuery ⟨r, false⟩) s fun t =>
      let x := s.port (targetPort r)
      t.control = s.takenControl u ∧ OthersKept (targetPort r) s t ∧ GroupsKept s t ∧ t.cpl = s.cpl ∧
      t.entryState e.id = some .active ∧
      t.port (targetPort r) = { x with
        queries := x.queries ++ [{ ort := e.id, buffer := queryBuffer r, state := x.state
                                   report := portReport x s.timebase (s.rxdLevel (targetPort r)) }]
        xclaims := x.xclaims ++ [.report e.id] }

/-- A bus error on the request fetch in RUNNING or PAUSED halts the part with REQ_BUS_ERROR. Head, table, reservations and
every port stay as they are, no record is written in HALTED, and a soft reset clears what the Dispatcher holds. -/
def Obligations.AFetchBusErrorHalts : Prop :=
  ∀ s : State, s.fetchFlying = true → s.runningOrPaused = true → s.bus.fetchClaim = false →
    Completes .reqBusError s fun t =>
      t = { s with part := .halted, haltCause := some .reqBusError
                   bus := { s.bus with flight := none, recordClaim := none } } ∧
      registerWord t 0x14 = registerWord s 0x14 ∧ t.recordDue = none ∧ t.fetchDue = none ∧
      t.softReset.ort = [] ∧ t.softReset.cpl.reserved = 0 ∧ t.softReset.head = 0 ∧ t.softReset.tail = 0

/-! ### The Dispatcher's fetch, the Completion Writer, the arbiter -/

/-- The Dispatcher fetches exactly where R126 says: RUNNING, ring not empty, a free table entry, a free credit of 2, no fetch
of its own. It reserves a slot, allocates an entry in FETCHING at a place not in use, and claims the read; where a
condition fails nothing happens. A fetch that ends in HALTED, with a record of any kind or with a bus error, drops its data,
frees its entry and releases its reservation; the head stays, and the halt cause stands (R126, R129). That the new entry takes
the lowest free place is the model's choice (log entry 14). -/
def Obligations.AFetchReservesAllocatesAndClaims : Prop :=
  (∀ (e : OrtEntry) (s : State), s.part = .halted → s.fetchFlying = true → (s.ort.find? fun x => x.st = .fetching) = some e →
    let dropped := { s with
      bus := { s.bus with flight := none }
      ort := s.ort.eraseP fun x => x.st = .fetching
      cpl := { s.cpl with reserved := s.cpl.reserved - 1 } }
    exec .reqBusError s = .next dropped ∧
    ∀ i : Instr, (recordOf i).isSome = true → i.wellFormed = true → exec i s = .next dropped) ∧
  ∀ (u : Setup) (s : State), s.setup = some u →
    (s.part = .running ∧ s.head ≠ s.tail ∧ s.ort.length < 64 ∧ s.cpl.used + s.cpl.reserved + 2 ≤ u.cplSize ∧
        s.bus.fetchClaim = false ∧ s.fetchFlying = false →
      exec .fetch s = .next { s with
        ort := s.ort ++
          [{ id := s.freeId, tag := 0, kind := 0, target := 0, st := .fetching, matched := 0, awaited := [] }]
        cpl := { s.cpl with reserved := s.cpl.reserved + 1 }
        bus := { s.bus with fetchClaim := true } } ∧
      s.freeId < 64 ∧ ∀ e ∈ s.ort, e.id ≠ s.freeId) ∧
    (s.part ≠ .running ∨ s.head = s.tail ∨ 64 ≤ s.ort.length ∨ u.cplSize < s.cpl.used + s.cpl.reserved + 2 ∨
        s.bus.fetchClaim = true ∨ s.fetchFlying = true →
      exec .fetch s = .next s)

/-- With no access in flight the arbiter grants the lowest class that waits, in class 1 and 2 the port whose turn it is and
its oldest claim; a granted record has its contents fixed and leaves its list; the whole next state for each class (R142,
R144, R145, R164). -/
def Obligations.TheArbiterGrantsTheLowestClass : Prop :=
  ∀ s : State, s.bus.flight = none →
    let go := fun a : Access => some ({ access := a, live := true, wanted := true } : BusFlight)
    (∀ p a rest, ServedNext s.bus.last1 (fun q => (s.port q).cyc.list ≠ []) p → (s.port p).cyc.list = a :: rest →
      exec .bmuGrant s = .next { s.withPort p { s.port p with cyc := { (s.port p).cyc with list := rest } } with
        bus := { s.bus with flight := go (imageAccess p (s.port p) a), last1 := p } }) ∧
    ((∀ q, (s.port q).cyc.list = []) →
      (∀ p c rest a, ServedNext s.bus.last2 (fun q => (s.port q).xclaims ≠ []) p → (s.port p).xclaims = c :: rest →
        claimAccess p (s.port p) c = some a →
        exec .bmuGrant s = .next { s.withPort p { s.port p with xclaims := rest } with
          bus := { s.bus with flight := go a, last2 := p } }) ∧
      ((∀ q, (s.port q).xclaims = []) → ∀ u, s.setup = some u →
        let slot := u.cplBase + BitVec.ofNat 32 (16 * s.cpl.tail)
        (∀ d rest, s.bus.recordClaim = some .completion → s.cpl.done = d :: rest →
          exec .bmuGrant s = .next { s with
            cpl := { s.cpl with done := rest }
            bus := { s.bus with
              recordClaim := none
              flight := go (.recordWrite slot (doneRecord d s.cpl.phase s.timebase s.head) (some d.ort)) } }) ∧
        (∀ e rest, s.bus.recordClaim = some .event → s.cpl.events = e :: rest →
          exec .bmuGrant s = .next { s with
            cpl := { s.cpl with events := rest }
            bus := { s.bus with
              recordClaim := none
              flight := go (.recordWrite slot (eventRecord e s.cpl.phase s.head) none) } }) ∧
        (s.bus.recordClaim = none → s.bus.setupClaim = none → s.bus.fetchClaim = true →
          exec .bmuGrant s = .next { s with
            bus := { s.bus with
              fetchClaim := false
              flight := go (.requestFetch (u.reqBase + BitVec.ofNat 32 (32 * s.head))) } })) ∧
      ((∀ q, (s.port q).xclaims = []) → ∀ a, s.bus.recordClaim = none → s.bus.setupClaim = some a →
        exec .bmuGrant s = .next { s with bus := { s.bus with setupClaim := none, flight := go (.setupRead a) } }))

/-- The Completion Writer claims the write of the head that reached it first; an event head that lacks a credit of 1 waits
(R151). -/
def Obligations.TheOlderHeadIsClaimed : Prop :=
  ∀ (u : Setup) (s : State), s.setup = some u → s.runningOrPaused = true → s.bus.recordClaim = none →
    (∀ f, s.bus.flight = some f → ∀ a l o, f.access ≠ .recordWrite a l o) →
    let claims := fun c : RecordClaim =>
      exec .completionWriteClaim s = .next { s with bus := { s.bus with recordClaim := some c } }
    let waits := exec .completionWriteClaim s = .next s
    (s.cpl.used + s.cpl.reserved + 1 ≤ u.cplSize →
      match s.cpl.done, s.cpl.events with
      | [], [] => waits
      | [], _ :: _ => claims .event
      | _ :: _, [] => claims .completion
      | c :: _, e :: _ => if e.arrival < c.arrival then claims .event else claims .completion) ∧
    (u.cplSize < s.cpl.used + s.cpl.reserved + 1 → if s.cpl.done = [] then waits else claims .completion)

/-- A record write that ends with success: tail, phase at the wrap, used count, the freed entry with its reservation, and the
interrupt moderator; the whole next state (R142, R152). A bus error halts the part and changes none of the counts; in HALTED it
leaves the first cause standing (R143). That the holdoff counts from the exact instant of the write is the model's reading (log
entry 43). -/
def Obligations.AWrittenRecordIsCounted : Prop :=
  ∀ (u : Setup) (f : BusFlight) (a : Word) (l : List Byte) (o : Option Nat) (s : State),
    s.setup = some u → s.bus.flight = some f → f.access = .recordWrite a l o →
    (∀ id, o = some id → ∃ e ∈ s.ort, e.id = id) →
    let tail := (s.cpl.tail + 1) % u.cplSize
    let ended := { s with bus := { s.bus with flight := none } }
    exec (.recordWriteEnd true) s = .next { ended with
      ort := match o with
        | some id => s.ort.eraseP fun e => e.id = id
        | none => s.ort
      cpl := { s.cpl with
        tail := tail
        phase := if tail = 0 then !s.cpl.phase else s.cpl.phase
        used := s.cpl.used + 1
        reserved := if o.isSome then s.cpl.reserved - 1 else s.cpl.reserved
        unsignalled := s.cpl.unsignalled + 1
        holdoff := if s.cpl.unsignalled = 0 then some (s.time + 32 * u.holdoff) else s.cpl.holdoff
        condition := s.cpl.condition || decide (u.threshold ≤ s.cpl.unsignalled + 1) } } ∧
    (s.runningOrPaused = true → Completes (.recordWriteEnd false) s fun t => HaltedBy .cplBusError ended t) ∧
    (s.part = .halted → exec (.recordWriteEnd false) s = .next ended)

/-- When the holdoff timer expires it stops, and with a count of 1 or more the interrupt condition is met, so that INT is
asserted where CTRL.INT_ENABLE is set (R152). -/
def Obligations.TheHoldoffMeetsTheCondition : Prop :=
  ∀ (n : Nat) (s s' : State), s.cpl.holdoff = some n → s.Reaches n s' →
    Completes .holdoffExpiry s fun t =>
      t = { s' with cpl := { s'.cpl with
        holdoff := none, condition := s.cpl.condition || decide (1 ≤ s.cpl.unsignalled) } } ∧
      (1 ≤ s.cpl.unsignalled → intPin t = s.intEnable)

/-! ### Registers, part states and resets -/

/-- REQ_TAIL reads back what was written. In RUNNING and PAUSED a value below the ring size becomes the tail, another halts
the part; elsewhere it is held; a closed window ignores it (R124, R154). -/
def Obligations.ReqTailMovesTheTail : Prop :=
  ∀ (v : Word) (s : State),
    let held := { s with reqTailReg := v }
    (s.windowOpen = false → exec (.reqTail v) s = .next s) ∧
    (s.windowOpen = true → registerWord held 0x10 = v ∧
      (s.runningOrPaused = false → exec (.reqTail v) s = .next held) ∧
      ∀ u, s.runningOrPaused = true → s.setup = some u →
        (v.toNat < u.reqSize → exec (.reqTail v) s = .next { held with tail := v.toNat }) ∧
        (u.reqSize ≤ v.toNat → Completes (.reqTail v) s fun t => HaltedBy .badTail held t))

/-- Every CPL_HEAD write the window takes acknowledges the interrupt. In RUNNING and PAUSED `d` slots, at most the used
count, are returned; more, or a value outside the ring, halts the part (R146, R153). -/
def Obligations.CplHeadReturnsSlots : Prop :=
  ∀ (v : Word) (s : State),
    let ack := { s with
      cplHeadReg := v
      cpl := { s.cpl with unsignalled := 0, holdoff := none, condition := false } }
    (s.windowOpen = false → exec (.cplHead v) s = .next s) ∧
    (s.windowOpen = true →
      registerWord ack 0x18 = v ∧ intPin ack = false ∧
      (s.runningOrPaused = false → exec (.cplHead v) s = .next ack) ∧
      ∀ u, s.runningOrPaused = true → s.setup = some u → s.cpl.head < u.cplSize →
        (u.cplSize ≤ v.toNat → Completes (.cplHead v) s fun t => HaltedBy .badHead ack t) ∧
        ∀ d < u.cplSize, (s.cpl.head + d) % u.cplSize = v.toNat →
          (d ≤ s.cpl.used →
            exec (.cplHead v) s = .next { ack with cpl := { ack.cpl with head := v.toNat, used := s.cpl.used - d } }) ∧
          (s.cpl.used < d → Completes (.cplHead v) s fun t => HaltedBy .badHead ack t))

/-- A CTRL write without SOFT_RESET stores ENABLE and INT_ENABLE, and a change of ENABLE starts, pauses or resumes the part
as its state says; where it does neither, nothing else changes (R129, R156 to R158). -/
def Obligations.CtrlStartsPausesAndResumes : Prop :=
  ∀ (b : Bool) (v : Word) (s : State), v.getLsbD 1 = false → s.windowOpen = true →
    let e := v.getLsbD 0
    let stored := { s with ctrlEnable := e, intEnable := v.getLsbD 2 }
    (s.ctrlEnable = e ∨ s.part = .starting ∨ s.part = .halted ∨ (e = false ∧ s.part ≠ .running) ∨
        (e = true ∧ s.part = .running) →
      exec (ctrlRow b v) s = .next stored) ∧
    (s.ctrlEnable = false → e = true → s.part = .off →
      (s.setupAddr ≠ 0 → exec (ctrlRow b v) s = .next { stored with
        part := .starting, bus := { s.bus with setupClaim := some s.setupAddr } }) ∧
      (s.setupAddr = 0 → Completes (ctrlRow b v) s fun t =>
        HaltedBy .badSetup stored t ∧ t.bus.setupClaim = s.bus.setupClaim)) ∧
    (s.ctrlEnable = false → e = true → s.part = .paused →
      exec (ctrlRow b v) s = .next { stored with part := .running }) ∧
    (s.ctrlEnable = true → e = false → s.part = .running →
      (s.bus.fetchClaim = false → exec (ctrlRow b v) s = .next { stored with part := .paused }) ∧
      (s.bus.fetchClaim = true → (∃ x ∈ s.ort, x.st = .fetching) →
        exec (ctrlRow b v) s = .next { stored with
          part := .paused
          bus := { s.bus with fetchClaim := false }
          ort := s.ort.eraseP fun x => x.st = .fetching
          cpl := { s.cpl with reserved := s.cpl.reserved - 1 } }))

/-- A soft reset puts every block back to its reset value, keeps SETUP_ADDR and the timebase, and stays in RESETTING while an
access is in flight, whose end takes the part to OFF with its result dropped (R155, R162). That the levels of the input pins
stay is the model's choice (log entry 8, DESIGN CHOICE), and so is that its own queue of commands and counter of choices stay
(log entry 30, DESIGN CHOICE). -/
def Obligations.SoftResetClearsEveryBlock : Prop :=
  (∀ (v : Word) (s : State), v.getLsbD 1 = true → s.windowOpen = true →
    Completes (.softReset v) s fun t =>
      ResetBlocks { State.reset.control with
        time := s.time, setupAddr := s.setupAddr, syncInLevel := s.syncInLevel, choices := s.choices,
        pending := s.pending, part := if s.bus.flight = none then .off else .resetting } s t ∧
      (t.bus.flight = if s.bus.flight = none then none else some { access := .left, live := false, wanted := false }) ∧
      (s.bus.flight ≠ none → t.windowOpen = false) ∧ intPin t = false) ∧
  ∀ s : State, s.part = .resetting →
    exec .softResetEnd s = .next { s with part := .off, bus := { s.bus with flight := none } }

/-- A write to ID, STATUS, REQ_HEAD or an offset without a register, and a write narrower than 32 bits, is ignored.
SETUP_ADDR takes the value with its five low bits 0. A 32-bit write at the offset of CTRL, REQ_TAIL or CPL_HEAD is the row
of that register (R154, R155). That an offset which is not a multiple of 4 holds no register is the model's choice (log entry
38). -/
def Obligations.RegisterWritesFollowTheWindow : Prop :=
  ∀ (o : BitVec 6) (w : AccessWidth) (v : Word) (s : State),
    (s.windowOpen = false ∨ w ≠ .w32 ∨ (o ≠ 0x04 ∧ o ≠ 0x0C ∧ o ≠ 0x10 ∧ o ≠ 0x18) →
      exec (.registerWrite o w v) s = .next s) ∧
    (s.windowOpen = true →
      exec (.registerWrite 0x0C .w32 v) s = .next { s with setupAddr := (v >>> 5) <<< 5 } ∧
      registerWord { s with setupAddr := (v >>> 5) <<< 5 } 0x0C = (v >>> 5) <<< 5 ∧
      (v.getLsbD 1 = false → exec (.registerWrite 0x04 .w32 v) s = exec (.enable v) s) ∧
      (v.getLsbD 1 = true → exec (.registerWrite 0x04 .w32 v) s = exec (.softReset v) s) ∧
      exec (.registerWrite 0x10 .w32 v) s = exec (.reqTail v) s ∧
      exec (.registerWrite 0x18 .w32 v) s = exec (.cplHead v) s)

/-- RESET_N acts in every part state: as a soft reset, with SETUP_ADDR and the timebase at 0 and the bus released. While it is
asserted no write is taken and no time counts; its deassertion leaves the part OFF (R61, R163). That the levels of the input
pins stay is the model's choice (log entry 8, DESIGN CHOICE), and so is that its own queue of commands and counter of choices
stay (log entry 30, DESIGN CHOICE). -/
def Obligations.PowerOnResetReleasesTheBus : Prop :=
  ∀ s : State,
    (Completes .powerOnReset s fun t =>
      ResetBlocks { State.reset.control with
        resetAsserted := true, syncInLevel := s.syncInLevel, choices := s.choices, pending := s.pending } s t ∧
      t.bus.flight = none ∧ t.windowOpen = false ∧ t.tick = t ∧ ∀ o w, readWindow t o w = 0) ∧
    exec .resetNDeasserted s = .next { s with resetAsserted := false }

/-- The setup read judged: a bus error, an invalid block, a held REQ_TAIL outside the ring and then a held CPL_HEAD other
than 0 each halt the part; else the block is in force and the part runs or pauses by ENABLE (R158, R159). A block is valid
exactly when every field is legal. -/
def Obligations.TheSetupBlockIsJudged : Prop :=
  (∀ (a : Word) (f : BusFlight) (s : State), s.bus.flight = some f → f.access = .setupRead a → s.part = .starting →
    let ended := { s with bus := { s.bus with flight := none } }
    (Completes (.setupReadEnd none) s fun t => HaltedBy .setupBusError ended t) ∧
    ∀ d : ReadData, match setupOf d with
      | none => Completes (.setupReadEnd (some d)) s fun t => HaltedBy .badSetup ended t
      | some u =>
        if u.reqSize ≤ s.reqTailReg.toNat then
          Completes (.setupReadEnd (some d)) s fun t => HaltedBy .badTail ended t ∧ t.setup = s.setup
        else if s.cplHeadReg ≠ 0 then
          Completes (.setupReadEnd (some d)) s fun t => HaltedBy .badHead ended t ∧ t.setup = s.setup
        else exec (.setupReadEnd (some d)) s = .next { ended with
          setup := some u, tail := s.reqTailReg.toNat, part := if s.ctrlEnable then .running else .paused }) ∧
  ∀ d : ReadData,
    let base := fun i : Nat => (d.extractLsb' (8 * i) 32).toNat
    let octet := fun i : Nat => (d.extractLsb' (8 * i) 8).toNat
    (setupOf d).isSome = true ↔
      (∀ i, (5 ≤ i ∧ i ≤ 7) ∨ (18 ≤ i ∧ i ≤ 31) → octet i = 0) ∧
      base 0 ≠ 0 ∧ base 0 % 32 = 0 ∧ 3 ≤ octet 4 ∧ octet 4 ≤ 12 ∧ base 0 + 32 * 2 ^ octet 4 ≤ 2 ^ 32 ∧
      base 8 ≠ 0 ∧ base 8 % 16 = 0 ∧ 4 ≤ octet 12 ∧ octet 12 ≤ 12 ∧ base 8 + 16 * 2 ^ octet 12 ≤ 2 ^ 32 ∧
      1 ≤ octet 13 ∧ (octet 16 ≤ 3 ∨ octet 16 = 255) ∧ octet 17 ≤ 1

/-! ### The Schedule Unit and the Cycle Engine -/

/-- A selected edge of SYNC_IN fires every LINE group with an epoch 100 µs on, and no HOST group, the members following as at
a SYNC_FIRE; another edge, or a level that does not change, fires nothing; ports of no LINE group stay as they were (R68,
R69, R75, R76). The model's own: a withdrawal completes a waiting CYCLE_STOP only where no earlier exchange is under way (log
entry 21), and, in a line-free bound, the exact present instant (log entry 40) and a start that waits for its guard left out
(log entry 41); the bit `fresh` of a group is the model's bookkeeping (log entry 15); an old beat due in this microsecond and not
yet reached is dropped (log entry 44). -/
def Obligations.ASelectedEdgeFiresTheLineGroups : Prop :=
  ∀ (high : Bool) (s : State),
    (s.syncInLevel = high → exec (.syncIn high) s = .next s) ∧
    (s.syncInLevel ≠ high → (∀ u, s.setup = some u → u.fallingEdge = high) →
      exec (.syncIn high) s = .next { s with syncInLevel := high }) ∧
    ∀ u, s.syncInLevel ≠ high → s.setup = some u → u.fallingEdge ≠ high →
      Completes (.syncIn high) s fun t =>
        t.control = { s.control with syncInLevel := high } ∧ GroupsFired (fun g => (s.group g).source = .line) s t

/-- A beat moves the group on to the next beat and starts a 10 µs pulse where the group is the SYNC_OUT group; the end of
the pulse deasserts SYNC_OUT; whole next states (R64, R77). The bit `fresh` of a group is the model's bookkeeping (log entry
15). -/
def Obligations.ABeatMovesTheGroupOn : Prop :=
  (∀ (g : GroupId) (b : Beats) (s s' : State), (s.group g).running = some b → s.Reaches (s.timeOf b.next) s' →
    exec (.beat g) s = .next { s'.withGroup g { s.group g with
        beatNumber := ((s.group g).beatNumber + 1) % 720720
        running := some { epoch := b.epoch, next := b.next + BitVec.ofNat 32 (s.group g).period, fresh := false } } with
      syncOutEnd :=
        if s.setup.bind (·.syncOut) = some g then some (s'.timeOf b.next + 32 * 10) else s.syncOutEnd }) ∧
  ∀ (n : Nat) (s s' : State), s.syncOutEnd = some n → s.Reaches n s' →
    exec .syncOutPulseEnd s = .next { s' with syncOutEnd := none }

/-- The sampling instant is delivered 64 µs before its start. A port in ARMED, or in CYCLIC with no stop waiting and no
fault pending, begins a sample: complete at once with output image address 0, else with the read of the generation. In
another state it is ignored (R74, R83, R85). -/
def Obligations.TheSamplingInstantBeginsASample : Prop :=
  ∀ (p : PortId) (k : Sched) (m : Word) (s s' : State),
    (s.port p).sched = some k → k.next = some m → k.delivered = false → s.Reaches (s.timeOf m - 32 * 64) s' →
    Completes (.samplingInstant p) s fun t =>
      let x := s.port p
      let seen := { x with sched := some { k with delivered := true } }
      OnlyPort p s' t ∧ GroupsKept s t ∧ t.cpl = s.cpl ∧ t.ort = s.ort ∧
      if x.state = .armed ∨ (x.state = .cyclic ∧ x.stopWaits = false ∧ x.cyc.faultPending = false) then
        t.port p = { seen with cyc := { x.cyc with
          sample := if x.config.outImage = 0 then .complete none [] false else .reading false 0 []
          list := x.cyc.list.filter (·.isWrite) ++ (if x.config.outImage = 0 then [] else [.sample .gen1])
          admitted := true, startWait := none } }
      else t.port p = seen

/-- The reads of a sample follow one another: generation, data (omitted with output length 0), generation. Equal generations
complete it; unequal ones resample once, and the second time complete it torn. Data no longer wanted are dropped
(R84, R85). -/
def Obligations.SamplingReadsFollowInOrder : Prop :=
  ∀ (p : PortId) (stage : ReadStage) (a : Word) (len : Nat) (f : BusFlight) (d : ReadData) (s : State),
    s.bus.flight = some f → f.access = .sampleRead p stage a len →
    let ended := { s with bus := { s.bus with flight := none } }
    let x := s.port p
    (f.live = false ∨ f.wanted = false → exec (.samplingReadEnd (some d)) s = .next ended) ∧
    ∀ second g1 data, f.live = true → f.wanted = true → x.cyc.sample = .reading second g1 data →
      let on := fun (sample : Sample) (more : List ImageAccess) =>
        exec (.samplingReadEnd (some d)) s = .next
          (ended.withPort p { x with cyc := { x.cyc with sample := sample, list := x.cyc.list ++ more } })
      match stage with
      | .gen1 => on (.reading second (d.setWidth 16) data) [.sample (if x.outLen = 0 then .gen2 else .data)]
      | .data => on (.reading second g1 (octets x.outLen d)) [.sample .gen2]
      | .gen2 =>
        if d.setWidth 16 = g1 then on (.complete (some g1) data false) []
        else if second then on (.complete (some g1) data true) []
        else on (.reading true 0 []) [.sample .gen1]

/-- A start instant moves the next start on by the period. ARMED goes to CYCLIC, a CYCLE_START in the slot completing OK with
the start instant, and the cycle runs; CYCLIC runs it too, one that waits for a CYCLE_STOP or has a fault pending only where
its sampling was admitted before; in other states the instant is ignored. On a free line the sample is judged LATE, TORN,
UNCHANGED or accepted, the stale counts follow, OUTPUT_STALE at the limit, and REPEAT, MARK or SKIP decides what is sent; a
guard that ends within the microsecond is waited for; a busy line slips. A cycle that ends at its start finishes a waiting
CYCLE_STOP (R74, R82, R83, R86 to R91, R98, R99). That it does so only where no earlier exchange is under way is the model's
reading (log entry 21), and so is that a sample which is not there is judged LATE (log entry 22). -/
def Obligations.TheStartInstantRunsOrSlips : Prop :=
  ∀ (p : PortId) (k : Sched) (m : Word) (s s' : State),
    (s.port p).sched = some k → k.next = some m → k.delivered = true → s.Reaches (s.timeOf m) s' →
    let x := s.port p
    let moved := some { k with next := some (m + BitVec.ofNat 32 k.period), delivered := false }
    let waits := x.stopWaits = true ∨ x.cyc.faultPending = true
    let runs := x.state = .armed ∨ (x.state = .cyclic ∧ (waits → x.cyc.admitted = true))
    let begun : Port := if x.state = .armed then
        { x with state := .cyclic, sched := moved, slot := none, stopPending := x.stopPending && x.slot.isNone }
      else { x with sched := moved }
    let guardSoon := x.lf.state = .guard ∧ x.lf.held = none ∧ ∃ n, x.lf.timer = some n ∧ n < 32 * (s'.micros + 1)
    let startsOk := fun t : State => ∀ c w, x.state = .armed → x.slot = some (c, w.id) → s.Open [w] →
      HandedInOrder s t [(w, .ok, m)]
    (¬ runs → exec (.startInstant p) s = .next (s'.withPort p { x with sched := moved })) ∧
    (∀ l, runs → x.lf.state = .free → x.link = some l → Completes (.startInstant p) s fun t =>
      CycleRuns p l m begun s' t ∧
      (begun.endsAtStart ∨ (startsOk t ∧ (x.state = .armed ∧ x.slot.isSome = true ∨ t.cpl.done = s.cpl.done)))) ∧
    (runs → guardSoon → Completes (.startInstant p) s fun t =>
      OnlyPort p s' t ∧ GroupsKept s t ∧ t.cpl.events = s.cpl.events ∧ startsOk t ∧
      t.port p = { begun with cyc := { x.cyc with startWait := some m, admitted := false } }) ∧
    (runs → x.lf.state ≠ .free → ¬ guardSoon → Completes (.startInstant p) s fun t =>
      let slipped := { begun with
        counters := { x.counters with slips := satAdd x.counters.slips 1 }, cyc := x.cyc.discarded }
      OnlyPort p s' t ∧ PostedLater s' t p .cycleSlip 1 ∧
      if begun.stopWaits = true ∧ x.cyc.underWay = none then
        t.port p = slipped.stopped ∧ GroupsLeft p s t ∧
        ∀ c w, x.slot = some (c, w.id) → s.Open [w] → HandedInOrder s t [(w, .ok, 0)]
      else
        t.port p = slipped ∧ GroupsKept s t ∧ startsOk t ∧
        (x.state = .armed ∧ x.slot.isSome = true ∨ t.cpl.done = s.cpl.done))

/-- An input image write that ends with success ends an image in writing at its header. A bus error on any image access
posts IMAGE_FAULT with the address and empties the list and the sample: ARMED, and CYCLIC with no exchange under way, leave
the group and go to READY, a waiting CYCLE_START being handed over BUFFER_FAULT and a waiting CYCLE_STOP OK; CYCLIC under way
waits for the outcome, RECOVERY loses its schedule (R93, R96, R97). -/
def Obligations.ImageWritesEndOrFault : Prop :=
  ∀ (p : PortId) (a : Word) (f : BusFlight) (s : State), s.bus.flight = some f →
    let ended := { s with bus := { s.bus with flight := none } }
    let x := s.port p
    (∀ header l, f.access = .imageWrite p header a l →
      (f.live = false → ∀ ok, exec (.inputImageWriteEnd ok) s = .next ended) ∧
      (f.live = true → exec (.inputImageWriteEnd true) s = .next
        (if header then ended.withPort p { x with cyc := { x.cyc with writing := x.cyc.writing - 1 } } else ended))) ∧
    ∀ i : Instr, f.live = true →
      ((∃ header l, f.access = .imageWrite p header a l ∧ i = .inputImageWriteEnd false) ∨
        ∃ stage len, f.access = .sampleRead p stage a len ∧ i = .samplingReadEnd none) →
      Completes i s fun t =>
        let y := t.port p
        OnlyPort p s t ∧ t.bus.flight = none ∧ Posted s t p .imageFault a ∧
        y.cyc.list = [] ∧ y.cyc.writing = 0 ∧ y.cyc.sample = .empty ∧ y.link = x.link ∧ y.counters = x.counters ∧
        y.lf = x.lf ∧ y.cyc.lastGen = x.cyc.lastGen ∧ y.cyc.inputGen = x.cyc.inputGen ∧
        let toReady := y.state = .ready ∧ y.sched = none ∧ y.slot = none ∧ y.stopPending = false ∧
          y.cyc.faultPending = false ∧ GroupsLeft p s t ∧ (x.slot = none → t.cpl.done = s.cpl.done) ∧
          ∀ k w, x.slot = some (k, w.id) → s.Open [w] →
            (k = .cycleStart → HandedInOrder s t [(w, .bufferFault, 0)]) ∧ (k = .cycleStop → HandedInOrder s t [(w, .ok, 0)])
        match x.state with
        | .armed => toReady
        | .cyclic =>
          if x.cyc.underWay = none then toReady
          else y.state = .cyclic ∧ y.sched = x.sched ∧ y.slot = x.slot ∧ y.cyc.faultPending = true ∧ GroupsKept s t ∧
            t.cpl.done = s.cpl.done
        | .recovery =>
          y.state = .recovery ∧ y.sched = none ∧ y.resume = false ∧ y.slot = x.slot ∧ GroupsLeft p s t ∧
          t.cpl.done = s.cpl.done
        | .idle | .bringup | .ready | .disabled | .fault =>
          y.state = x.state ∧ y.sched = x.sched ∧ y.slot = x.slot ∧ GroupsKept s t ∧ t.cpl.done = s.cpl.done

/-! ### The line -/

/-- A master frame is sent as characters of ten bit times without a gap: start bit dominant, the octet least significant bit
first, stop bit recessive; TXD shows bit `i` of the frame throughout its bit time (R3). -/
def Obligations.AFrameIsTenBitTimesACharacter : Prop :=
  ∀ (f : Frame) (i b : Nat) (o : Byte), (frameOctets f)[i]? = some o → b < 10 →
    let level : Bool := if b = 0 then false else if b = 9 then true else o.getLsbD (b - 1)
    (frameBits f)[10 * i + b]? = some level ∧ (frameBits f).length = 10 * f.chars ∧
    ∀ (p : PortId) (start : Nat) (s : State),
      (s.port p).lf.state = .sending → (s.port p).lf.txen = true → (s.port p).lf.flight = some { frame := f, start } →
      start + (10 * i + b) * f.speed.tb ≤ s.time → s.time < start + (10 * i + b + 1) * f.speed.tb →
      s.txdLevel p = level

/-- A reply received character by character, its first start edge within T_resp, ends its exchange, guard included, no later
than the exchange's window after the frame's start (R7, R14 to R16, R19). -/
def Obligations.AReplyEndsWithinTheWindow : Prop :=
  ∀ (f : Frame) (tResp gapLimit start edge last : Nat) (chars : List RxChar) (o : Outcome) (t begun since : Nat) (r : Bool),
    start + 10 * f.chars * f.speed.tb ≤ edge → edge ≤ start + (10 * f.chars + tResp) * f.speed.tb →
    receive f (gapLimit * f.speed.tb) chars
      { edge := some edge, count := 0, crc := crcPreset, octets := [], lastEnd := last } = .ends o t begun r since →
    t + 8 * f.speed.tb ≤
      start + (10 * f.chars + tResp + 10 * f.maxReply + gapLimit * (f.maxReply - 1) + 8) * f.speed.tb

/-- The idle check holds once the line has been recessive for 2 Tb: the frame starts with its start bit on TXD, a CYCLIC
frame counting as a cycle started, and a wake pulse drives the line dominant for 120 µs; an asserted FLT_n starts the
blank timer; whole next states (R11, R12, R18, R35, R89). That the 120 µs of the pulse count from an exact instant is the
model's reading (log entry 43). -/
def Obligations.TheIdleCheckStartsTheFrame : Prop :=
  ∀ (p : PortId) (r : Nat) (h : Handed) (s s' : State),
    (s.port p).lf.state = .waiting → (s.port p).lf.held = some h → (s.port p).lf.recessiveSince = some r →
    let x := s.port p
    let sp : Speed := match h with
      | .frame f => f.speed
      | .pulse sp => sp
    s.Reaches (max x.lf.waitSince (r + 2 * sp.tb)) s' →
    let blank := if x.flt = true ∧ x.blank = none then some s'.time else x.blank
    let driving := { x.lf with held := none, txen := true, recessiveSince := none, dominantSince := none }
    Completes (.idleCheck p) s fun t => t.txdLevel p = false ∧
      match h with
      | .frame f => t = s'.withPort p { x with
          lf := { driving with state := .sending, flight := some { frame := f, start := s'.time }, timer := none }
          blank := blank
          counters := if f.engine = .cycle then { x.counters with cyclesStarted := x.counters.cyclesStarted + 1 }
            else x.counters }
      | .pulse _ => t = s'.withPort p { x with
          lf := { driving with state := .waking, timer := some (s'.time + 32 * 120) }, blank := blank }

/-- An echo that differs at a bit sample ends the exchange with COLLISION at that sample, TXEN deasserted; where the misses
reach the limit the link ends (R12, R15, R16, R32 to R34, R120). What a failure does is, in part, the model's: a transfer with
an abandon cause and an access in flight (log entry 17), the sample at a link end (20), a CYCLE_STOP that waits with a sampled
cycle still to start (21), the resume flag set, and schedule and membership gone, where the port goes to IDLE (29), the instant
of the backoff (39). -/
def Obligations.ACollisionEndsTheExchange : Prop :=
  ∀ (p : PortId) (bit : Nat) (e : Exchange) (s s' : State),
    (s.port p).lf.state = .sending → (s.port p).lf.flight = some e → bit < 10 * e.frame.chars →
    s.reach (e.start + bit * e.frame.speed.tb + e.frame.speed.tb / 2) = some s' →
    Completes (.collision p bit) s fun t => ExchangeFailed p e.frame .collision s' t

/-- The frame ends 10m Tb after its start: TXEN is deasserted, T_resp starts; the whole next state. That the recessive
stretch goes back to the frame's own last recessive bits, and that a line found dominant is a candidate start edge, is the
model's reading (log entry 12). (R3, R12, R13.) -/
def Obligations.TheFrameEndsAndTRespStarts : Prop :=
  ∀ (p : PortId) (e : Exchange) (s s' : State),
    (s.port p).lf.state = .sending → (s.port p).lf.flight = some e →
    s.Reaches (e.start + 10 * e.frame.chars * e.frame.speed.tb) s' →
    let x := s.port p
    let tail := tailRecessive ((frameOctets e.frame).getLastD 0) * e.frame.speed.tb
    exec (.masterFrameEnd p) s = .next (s'.withPort p { x with lf := { x.lf with
      state := .awaiting, txen := false, timer := some (s'.time + x.config.tResp * e.frame.speed.tb)
      recessiveSince := if x.rxd then some (s'.time - tail) else none
      dominantSince := if x.rxd then none else some s'.time
      candidate := if x.rxd then none else some s'.time } })

/-- A start edge within T_resp, confirmed half a Tb after it, takes the Line Framer to RECEIVING with a character under way;
an edge later than T_resp begins no reply. Where a candidate edge awaits its sample with the line dominant, it alone is
confirmed, and by the part itself; where the line is recessive it is a glitch (R4, R13). That the level is dominant since an edge
that no RXD_LEVEL_CHANGE told is the model's choice (log entry 11). -/
def Obligations.AStartEdgeBeginsTheReply : Prop :=
  ∀ (p : PortId) (edge : Nat) (e : Exchange) (s : State),
    (s.port p).lf.state = .awaiting → (s.port p).lf.flight = some e →
    let x := s.port p
    let tb := e.frame.speed.tb
    let begun := e.start + 10 * e.frame.chars * tb
    let at_ := begun + edge
    let quiet := s.withPort p { x with lf := { x.lf with timer := none, rx := none, candidate := none } }
    let open_ := x.EdgeOpen (tb / 2) s.time at_
    let receiving := fun f : Framer => { f with
      state := .receiving, timer := none, candidate := none
      rx := some { edge := some at_, count := 0, crc := 0xFF#8, octets := [], lastEnd := at_ } }
    (x.config.tResp * tb < edge ∨ ¬ open_ → exec (.replyStartEdge p edge) s = .next s) ∧
    (∀ s', edge ≤ x.config.tResp * tb → open_ → quiet.reach (at_ + tb / 2) = some s' →
      (x.EdgeTold (tb / 2) s.time at_ →
        exec (.replyStartEdge p edge) s = .next (s'.withPort p { x with lf := receiving x.lf })) ∧
      (¬ x.EdgeTold (tb / 2) s.time at_ →
        exec (.replyStartEdge p edge) s = .next (s'.withPort p { x with
          rxd := false
          lf := receiving { x.lf with recessiveSince := none, dominantSince := some at_ } }))) ∧
    ∀ n, x.EdgeTold (tb / 2) s.time at_ → x.rxd = false → x.lf.timer = some n → at_ ≤ n →
      s.confirmSteps p = [{ first := at_ + tb / 2, latest := at_ + tb / 2, cmd := .replyStartEdge p edge }]

/-- T_resp expiring in AWAITING fails the exchange with NO_REPLY, and G expiring in RECEIVING with GAP: at the expiry, or,
where a candidate edge no later than it proves a glitch, at the sample of that edge, half a Tb after it, if that is later.
While such an edge awaits its sample with the line dominant neither is declared. The operand says how long the judgement was
held, and any other value has no effect; where the misses reach the limit the link ends (R4, R13 to R16, R32 to R34, R120).
That an edge told at the very instant of a sample is seen by it is log entry 11. What a failure does is, in part, the model's
(log entries 17, 20, 21, 29 and 39, as at a collision). -/
def Obligations.AnExpiredLimitFailsTheExchange : Prop :=
  ∀ (p : PortId) (n : Nat) (e : Exchange) (s : State),
    let x := s.port p
    let half := e.frame.speed.tb / 2
    x.lf.flight = some e → x.lf.timer = some n →
    ∀ (row : Nat → Instr) (c : Cause),
      (x.lf.state = .awaiting ∧ row = .noReply p ∧ c = .noReply) ∨ (x.lf.state = .receiving ∧ row = .gap p ∧ c = .gap) →
      let judged := fun held : Nat =>
        (∀ s', s.Reaches (n + held) s' → Completes (row held) s fun t => ExchangeFailed p e.frame c s' t) ∧
        ∀ h, h ≠ held → exec (row h) s = .next s
      (x.lf.candidate = none → judged 0) ∧
      ∀ a, x.lf.candidate = some a → a ≤ n →
        (x.rxd = true ∨ a + half < s.time → judged (a + half - n)) ∧
        (x.rxd = false → s.time ≤ a + half → ∀ h, exec (row h) s = .next s)

/-- Reply characters, from the first start edge on or between two characters, in one STATION_REPLY or several. A whole and
clean reply ends its exchange OK at the end of its last character, and the engine that sent the frame takes it: a CYCLIC reply
forms an input image, an IDENTIFY reply ends its bring-up or recovery, a service reply moves its transfer on or ends it. A bad
CRC and then a bad TOGGLE fail the exchange at that instant, a dominant stop bit with FRAMING and a LEN above S with LENGTH at
the stop bit's sample. Where more is expected G runs from the last character, a candidate edge told as it ended being kept, or,
with the operand `next`, the next character is under way (R4, R7 to R9, R14 to R16, R32, R46 to R51, R56 to R59, R92 to R94,
R110 to R114, R117, R119). The model's own: the first start of a resumed free port (log entry 10), the level and the stretch on
RXD after a character (11, 12), a CYCLE_STOP that waits with a sampled cycle still to start (21), STATION_ATTENTION ahead of
the hand-over (42) and, in a failure, log entries 17, 20, 29 and 39, as at a collision. -/
def Obligations.ACyclicReplyFormsAnInputImage : Prop :=
  ∀ (p : PortId) (f : Frame) (start edge : Nat) (r : Rx) (chars : List RxChar) (next : Option Nat) (s : State),
    let x := s.port p
    let tb := f.speed.tb
    let g := x.config.gapLimit * tb
    x.lf.state = .receiving → x.lf.flight = some { frame := f, start } → x.lf.rx = some r →
    r.count = r.octets.length → r.crc = crc r.octets → f.begunWith r.octets → CleanCharacters g chars →
    let got := r.octets ++ chars.map (·.octet)
    let quiet := s.withPort p { x with lf := { x.lf with timer := none, rx := none, candidate := none } }
    let ended := edge + replySpan tb chars
    let row := .stationReply p chars next
    let gaps := fun l : List RxChar => l.map (·.gap) ++ next.toList
    (∀ s', chars ≠ [] → BeginsAt x tb s.time g r (gaps chars) edge → f.wholeReply got →
      quiet.reach ended = some s' →
      let good := got.getLast? = some (crc got.dropLast)
      let echoed := f.kind = .svcWrite ∨ f.kind = .svcRead → (got.getD 0 0).getLsbD 2 = f.toggle
      let line := LineAfter p (ended - 10 * tb) true (ended - tailRecessive (got.getLastD 0) * tb) s'
      (¬ good → Completes row s fun t => ExchangeFailed p f .crc s' t ∧ line t) ∧
      (good → ¬ echoed → Completes row s fun t => ExchangeFailed p f .toggle s' t ∧ line t) ∧
      (good → echoed → Completes row s fun t => ReplyTaken p f got.dropLast s' t ∧ line t)) ∧
    (∀ (c : RxChar) (rest : List RxChar) (s' : State), f.begunWith got → (chars ≠ [] → c.gap ≤ g) →
      BeginsAt x tb s.time g r (gaps (chars ++ c :: rest)) edge →
      let last := ended + if chars = [] then 0 else c.gap
      quiet.reach (last + 19 * tb / 2) = some s' →
      (c.stop = false → Completes (.stationReply p (chars ++ c :: rest) next) s fun t =>
        ExchangeFailed p f .framing s' t ∧ LineAfter p last false s'.time s' t) ∧
      (c.stop = true → f.kind.service = true → got.length = 1 → f.seg < c.octet.toNat →
        Completes (.stationReply p (chars ++ c :: rest) next) s fun t =>
          ExchangeFailed p f .length s' t ∧
          LineAfter p last true (last + 10 * tb - tailRecessive c.octet * tb) s' t)) ∧
    (∀ s', f.begunWith got → chars ≠ [] → next = none →
      BeginsAt x tb s.time g r (gaps chars) edge → quiet.reach ended = some s' →
      Completes row s fun t => LineAfter p (ended - 10 * tb) true (ended - tailRecessive (got.getLastD 0) * tb) s' t ∧
        t = s'.withPort p { x with
          rxd := (t.port p).rxd
          lf := { x.lf with
            timer := some (ended + g), candidate := x.lf.candidate.filter (ended ≤ ·)
            recessiveSince := (t.port p).lf.recessiveSince, dominantSince := (t.port p).lf.dominantSince
            rx := some { edge := none, count := got.length, crc := crc got, octets := got, lastEnd := ended } } }) ∧
    ∀ n s', f.begunWith got → next = some n → n ≤ g →
      (chars = [] → r.edge = none ∧ edge = r.lastEnd ∧ x.EdgeOpen (tb / 2) s.time (edge + n)) →
      (chars ≠ [] → BeginsAt x tb s.time g r (gaps chars) edge) →
      quiet.reach (ended + n + tb / 2) = some s' →
      let told := x.EdgeTold (tb / 2) s.time (ended + n)
      let line := fun y : Port => { y with lf := { y.lf with
        timer := none, candidate := none
        rx := some { edge := some (ended + n), count := got.length, crc := crc got, octets := got, lastEnd := ended } } }
      (told → exec row s = .next (s'.withPort p (line x))) ∧
      (¬ told → exec row s = .next (s'.withPort p (line { x with
        rxd := false, lf := { x.lf with recessiveSince := none, dominantSince := some (ended + n) } })))

/-- When the guard ends a held frame or pulse goes to WAITING; with nothing held the line is FREE, and a sequence that was to stop
stops. A start instant that waited for it runs its cycle: the sample is judged LATE, TORN, UNCHANGED or accepted, the stale
counts follow, OUTPUT_STALE at the limit, REPEAT, MARK or SKIP decides what is sent, and a cycle that sends nothing finishes a
waiting CYCLE_STOP (R10, R16, R52, R86, R88, R89, R91, R99). That it does so only where no earlier exchange is under way is the
model's reading (log entry 21), and so is that a sample which is not there is judged LATE (log entry 22). -/
def Obligations.TheGuardEnds : Prop :=
  ∀ (p : PortId) (n : Nat) (s s' : State),
    (s.port p).lf.state = .guard → (s.port p).lf.timer = some n → s.Reaches n s' →
    let x := s.port p
    let after := fun st : FramerState => { x.lf with state := st, waitSince := s'.time, timer := none, flight := none }
    let stops := x.seq.phase = .lineWait ∧ x.seq.stopRequested = true
    (x.lf.held ≠ none → exec (.guardEnd p) s = .next (s'.withPort p { x with lf := after .waiting })) ∧
    (x.lf.held = none → x.cyc.startWait = none → ¬ stops →
      exec (.guardEnd p) s = .next (s'.withPort p { x with lf := after .free })) ∧
    (x.lf.held = none → x.cyc.startWait = none → stops →
      Completes (.guardEnd p) s fun t => SequenceAborted p s' t ∧ (t.port p).lf = after .free) ∧
    ∀ m l, x.lf.held = none → x.cyc.startWait = some m → ¬ stops → x.state = .cyclic → x.link = some l →
      let free := { x with lf := after .free }
      Completes (.guardEnd p) s fun t =>
        CycleRuns p l m free s' t ∧ (free.endsAtStart ∨ (t.cpl.done = s.cpl.done ∧ t.ort = s.ort))

/-- After 120 µs of dominant level TXEN is deasserted and the quiet time of 400 µs runs; at its end the line is FREE and the
sequencer hands over the IDENTIFY of its rung, or stops where it was to stop; whole next states but for the stop (R18, R45,
R52). That the pulse and the quiet time count from an exact instant is the model's reading (log entry 43). -/
def Obligations.TheWakePulseEnds : Prop :=
  ∀ (p : PortId) (n : Nat) (s s' : State),
    (s.port p).lf.state = .waking → (s.port p).lf.timer = some n → s.Reaches n s' →
    let x := s.port p
    (x.lf.txen = true → exec (.wakeDominantEnd p) s = .next (s'.withPort p { x with lf := { x.lf with
      txen := false, timer := some (s'.time + 32 * 400)
      recessiveSince := if x.rxd then some s'.time else none
      dominantSince := if x.rxd then none else some s'.time } })) ∧
    (x.lf.txen = false → x.seq.phase = .wake → x.seq.stopRequested = false →
      exec (.quietTimeEnd p) s = .next (s'.withPort p { x with
        lf := { x.lf with
          state := .waiting, timer := none, waitSince := s'.time
          held := some (.frame (identifyFrame x.seq.rungSpeed)) }
        seq := { x.seq with phase := .identify } })) ∧
    (x.lf.txen = false → x.seq.phase = .wake → x.seq.stopRequested = true →
      Completes (.quietTimeEnd p) s fun t =>
        SequenceAborted p s' t ∧ (t.port p).lf = { x.lf with state := .free, timer := none })

/-- LINE_STUCK after 10,000 µs dominant in WAITING and OVERCURRENT at the blank time take the port to FAULT: line cut, engines
stopped, group left, schedule and slot empty, PORT_FAULT posted; descriptor, configuration and counters kept but for the miss
count. The requests of the port are handed over PORT_FAULT with result 0, the slot, the queue from head to tail, the queries
claimed and not granted; a transfer that awaits an access in flight is handed PORT_FAULT when that ends (R11, R30, R35 to R37).
That one which another end has left waiting takes PORT_FAULT is the model's reading (log entry 18), and so are that one back in
the queue does not wait for the fetch of its former life (26), that a PORT_DISABLE that waits goes on waiting (18), and that
the two times count from an exact instant (43). -/
def Obligations.AFaultTakesThePortOutOfService : Prop :=
  ∀ (p : PortId) (c : FaultCause) (i : Instr) (n : Nat) (s s' : State),
    let x := s.port p
    (i = .lineStuck p ∧ c = .lineStuck ∧ x.lf.state = .waiting ∧
        (∃ d, x.lf.dominantSince = some d ∧ n = max x.lf.waitSince d + 32 * 10000)) ∨
      (i = .overcurrent p ∧ c = .overcurrent ∧ ∃ b, x.blank = some b ∧ n = b + 32 * x.config.blankTime) →
    x.state ≠ .disabled → x.state ≠ .fault → s.Reaches n s' →
    Completes i s fun t =>
      let y := t.port p
      let fault : Ending := { status := .portFault, result := 0, onExchange := false }
      let waits := fun b : Transfer => match b.ending with
        | some d => !d.onExchange
        | none => s.flightOf Access.transferPort p && x.te.transfer.map (·.ort) == some b.ort
      OnlyPort p s' t ∧ GroupsLeft p s t ∧ Posted s' t p .portFault (c.code.setWidth 32) ∧
      y.state = .fault ∧ y.faultCause = some c ∧ y.lf = Framer.reset ∧ y.blank = none ∧ y.slot = none ∧
      y.sched = none ∧ y.resume = false ∧ y.stopPending = false ∧ y.seq.phase = .stopped ∧ y.xclaims = [] ∧
      y.te = { TransferEngine.reset with lastToggle := x.te.lastToggle } ∧ y.cyc.list = [] ∧
      y.cyc.sample = .empty ∧ y.cyc.underWay = none ∧ y.cyc.writing = 0 ∧ y.link = x.link ∧ y.config = x.config ∧
      y.counters = { x.counters with misses := 0 } ∧
      (y.queries = x.queries.filter fun q => !x.reportClaims.contains q.ort) ∧ y.disables = x.disables ∧
      ((∀ b ∈ x.queue, ∀ d, b.ending = some d → d.status = .portFault → d.result = 0) →
        y.queue = (x.queue.filter waits).map fun b => { b with ending := some fault }) ∧
      ∀ ended held : List OrtEntry,
        ended.map (·.id) =
          (x.slot.map (·.2)).toList ++ (x.queue.filter fun b => !waits b).map (·.ort) ++ x.reportClaims →
        held.map (·.id) = (x.queue.filter waits).map (·.ort) → ((ended ++ held).map (·.id)).Nodup → s.Open (ended ++ held) →
        HandedInOrder s t (ended.map fun w => (w, .portFault, 0)) ∧ (∀ w ∈ ended, t.entryState w.id = some .done) ∧
        ∀ w, held = [w] → (∀ b ∈ x.queue, ∀ d, b.ending = some d → d.status = .portFault → d.result = 0) →
          HandedAtAccessEnd p w fault s t

/-- FLT_n asserted while TXEN is asserted starts the blank timer, deasserted stops it; a change on RXD starts a stretch, in
every Line Framer state but OFF (the part's own level being read back while TXEN is asserted, log entry 12), and one to the
dominant level is a candidate start edge where T_resp or G runs, or the character under way ends at that instant, and no
earlier edge awaits its sample; whole next states (R1, R4, R11, R35). That an edge told at the very instant of a sample is seen
by it is the model's choice (log entry 11). -/
def Obligations.PinsOfAPort : Prop :=
  ∀ (p : PortId) (s : State),
    let x := s.port p
    exec (.fltNAsserted p) s = .next (s.withPort p { x with
      flt := true, blank := if x.lf.txen = true ∧ x.blank = none then some s.time else x.blank }) ∧
    exec (.fltNDeasserted p) s = .next (s.withPort p { x with flt := false, blank := none }) ∧
    ∀ r : Bool,
      let half := ((x.lf.flight.map (·.frame.speed.tb)).getD 0) / 2
      let characterEnds := (x.lf.flight.bind fun e => (x.lf.rx.bind (·.edge)).map (· + 10 * e.frame.speed.tb)) = some s.time
      let looks := (x.lf.state = .awaiting ∨ x.lf.state = .receiving) ∧
        (x.lf.timer.any (s.time ≤ ·) = true ∨ characterEnds) ∧
        x.lf.candidate.all (· + half < s.time) = true
      exec (.rxdLevelChange p r) s = .next
      (if x.rxd = r then s
       else if x.lf.state = .off ∨ x.lf.txen = true then s.withPort p { x with rxd := r }
       else s.withPort p { x with
         rxd := r
         lf := { x.lf with
           recessiveSince := if r then some s.time else none, dominantSince := if r then none else some s.time
           candidate := if r = false ∧ looks then some s.time else x.lf.candidate } })

/-! ### The Bring-up Sequencer and the Transfer Engine -/

/-- An attempt counts itself, builds the ladder, the mask's speeds in BRING_UP and the kept speed in RECOVERY, and hands over
the wake pulse at the slowest; a backoff that expires goes to LINE_WAIT; whole next states (R44, R45, R49). -/
def Obligations.AnAttemptHandsOverTheWakePulse : Prop :=
  ∀ (p : PortId) (s : State),
    let x := s.port p
    (∀ ladder : List Speed, x.seq.phase = .lineWait → x.seq.stopRequested = false → x.lf.state = .free →
      (x.seq.mode = .bringUp → ladder = [(2, Speed.l3), (1, .l2), (0, .l1)].filterMap fun c =>
        if x.config.speedMask.getLsbD c.1 then some c.2 else none) →
      (x.seq.mode = .recovery → ∃ l, x.link = some l ∧ ladder = [l.speed]) →
      exec (.attempt p) s = .next (s.withPort p { x with
        seq := { x.seq with attempts := x.seq.attempts + 1, ladder := ladder, rung := 1, phase := .wake }
        lf := { x.lf with
          state := .waiting, held := some (.pulse (ladder.getLastD .l1)), waitSince := s.time } })) ∧
    ∀ n s', x.seq.phase = .backoff → x.seq.backoff = some n → s.Reaches n s' →
      exec (.backoffExpiry p) s = .next (s'.withPort p { x with seq := { x.seq with phase := .lineWait, backoff := none } })

/-- The head of the queue becomes the active transfer: a PARAM_WRITE claims the data of its first segment, a PARAM_READ builds
its first segment. Under a schedule whose gaps cannot hold the largest segment it ends WINDOW_TOO_SMALL instead (R102, R103,
R107 to R109). An access that the engine has given up and that is still in flight changes none of this: that the claim counts as
made when that access ends (R101) is the model's reading (log entry 26). -/
def Obligations.ActivationBeginsTheHeadTransfer : Prop :=
  ∀ (p : PortId) (a : Transfer) (rest : List Transfer) (l : Link) (s : State),
    let x := s.port p
    x.te.phase = .none → x.state.hasLink = true → x.queue = a :: rest → a.ending = none → x.link = some l →
    let seg := segSize l.desc
    let fits := x.underSchedule = true → ∀ k, x.sched = some k →
      windowUs x.config l.speed (2 + seg) (3 + seg) + wCyc x.config l ≤ k.period
    let begun := { TransferEngine.reset with lastToggle := x.te.lastToggle, transfer := some a }
    (fits →
      exec (.activation p) s = .next { s.withPort p
          (if a.write then { x with
            te := { begun with phase := .fetching }, xclaims := x.xclaims ++ [.fetch a.buffer (min a.length (seg - 4))] }
          else { x with te := { begun with
            phase := .sendWait
            segment := some
              { write := false, first := true, last := false, dataLen := 0, toggle := none
                payload := octets 2 a.index ++ octets 2 (BitVec.ofNat 16 a.length) } } }) with
        ort := s.ort.map fun e => if e.id = a.ort ∧ e.st ≠ .done then { e with st := .active } else e }) ∧
    (¬ fits → ∀ e, s.ortFind a.ort = some e → e.st ≠ .done → s.NotAwaited a.ort →
      Completes (.activation p) s fun t =>
        OnlyPort p s t ∧ GroupsKept s t ∧ t.entryState a.ort = some .done ∧
        t.port p = { x with
          te := { TransferEngine.reset with lastToggle := x.te.lastToggle }
          xclaims := x.xclaims.filter (·.isReport), queue := x.queue.filter fun b => b.ort ≠ a.ort } ∧
        t.cpl.done = s.cpl.done ++
          [{ ort := a.ort, tag := e.tag, kind := e.kind, target := e.target, status := .windowTooSmall, result := 0,
             arrival := s.arrivals }])

/-- In READY, and in ARMED before its group is fired, a built segment goes out in FREE or GUARD; in ARMED with a next start,
and in CYCLIC, in FREE where the fit test passes and its window ends by the next start. A new segment takes the complement
of the last toggle, a resend keeps its own. Where the window test fails it waits; where the fit test fails the transfer ends
WINDOW_TOO_SMALL. The SVC_ABANDON goes out under the same conditions, and where the fit test fails its transfer is handed over
without it (R104 to R107, R117). -/
def Obligations.SegmentsGoOutWhenTheyFit : Prop :=
  ∀ (p : PortId) (l : Link) (s : State),
    let x := s.port p
    x.link = some l → x.lf.held = none →
    let out := fun f : Frame => if x.lf.state = .guard then { x.lf with held := some (.frame f) }
      else { x.lf with state := .waiting, held := some (.frame f), waitSince := s.time }
    let window := fun m : Nat => windowUs x.config l.speed m (3 + segSize l.desc)
    let fits := fun k : Sched => window (2 + segSize l.desc) + wCyc x.config l ≤ k.period
    let free := (x.state = .ready ∨ (x.state = .armed ∧ ∀ k, x.sched = some k → k.next = none)) ∧
      (x.lf.state = .free ∨ x.lf.state = .guard)
    let scheduled := fun (k : Sched) (n : Word) =>
      (x.state = .cyclic ∨ x.state = .armed) ∧ x.lf.state = .free ∧ x.sched = some k ∧ k.next = some n
    let inGap := fun (m : Nat) (yes : Bool) => ∃ k n, scheduled k n ∧ fits k ∧
      decide ((n - (s.timebase + 1 + BitVec.ofNat 32 (window m))).toNat < 2 ^ 31) = yes
    let unfit := ∃ k n, scheduled k n ∧ ¬ fits k
    let handed := fun (i : Instr) (b : Transfer) (w : OrtEntry) (st : Status) (result : Word) =>
      Completes i s fun t => OnlyPort p s t ∧ GroupsKept s t ∧ t.cpl.events = s.cpl.events ∧
        TransferEnds p b w st result s t ∧ (t.port p).lf = x.lf ∧ (t.port p).sched = x.sched
    (∀ g, x.te.phase = .sendWait → x.te.segment = some g →
      let toggle := g.toggle.getD (!x.te.lastToggle)
      (free ∨ inGap (g.payload.length + 2) true →
        exec (.segmentHandOver p) s = .next (s.withPort p { x with
          lf := out
            { engine := .transfer, kind := if g.write then .svcWrite else .svcRead, speed := l.speed, toggle := toggle,
              first := g.first, last := g.last, stale := false, payload := g.payload, replyLen := 0,
              seg := segSize l.desc }
          te := { x.te with
            phase := .exchange, sent := true, segment := some { g with toggle := some toggle }, lastToggle := toggle } })) ∧
      (inGap (g.payload.length + 2) false → exec (.segmentHandOver p) s = .next s) ∧
      ∀ b w, unfit → x.te.transfer = some b → w.id = b.ort → s.Open [w] →
        handed (.segmentHandOver p) b w .windowTooSmall 0) ∧
    (x.te.phase = .abandonWait →
      (free ∨ inGap 2 true →
        exec (.svcAbandon p) s = .next (s.withPort p { x with
          lf := out
            { engine := .transfer, kind := .svcAbandon, speed := l.speed, toggle := false, first := false, last := false,
              stale := false, payload := [], replyLen := 0, seg := segSize l.desc }
          te := { x.te with phase := .abandonExchange } })) ∧
      (inGap 2 false → exec (.svcAbandon p) s = .next s) ∧
      ∀ b w c, unfit → x.te.transfer = some b → x.te.cause = some c → w.id = b.ort → s.Open [w] →
        handed (.svcAbandon p) b w (x.te.abandonedAs c).1 (x.te.abandonedAs c).2)

/-- A fetch that ends with success builds the next write segment, and with a bus error ends the transfer BUFFER_FAULT, after an
SVC_ABANDON where a segment was sent. A store that ends with success adds its octets and goes on, or completes the read;
with a bus error it abandons it. Where the transfer has an abandon cause already, the access ends with its data and outcome
dropped, and the first cause stands: SVC_ABANDON follows where a segment was sent, else the transfer is handed over with that
cause (R102, R103, R109, R110, R116 to R119). An access that the engine has given up, with nothing waiting for it, ends with its
data and outcome dropped (R43, R120), and the port goes on as it stands: that a claim listed meanwhile by a transfer activated
since is made then, behind the reports (R101), is the model's reading (log entry 26). -/
def Obligations.AnEndedAccessMovesTheTransferOn : Prop :=
  (∀ (p : PortId) (f : BusFlight) (i : Instr) (s : State),
    let x := s.port p
    let ended := { s with bus := { s.bus with flight := none } }
    s.bus.flight = some f → f.access.transferPort = some p → EndsAccess f.access i → f.live = false → x.disables = [] →
    (∀ u ∈ x.queue, ∀ e, u.ending = some e → e.onExchange = true) →
    exec i s = .next (ended.withPort p { x with
      xclaims := x.xclaims.filter (·.isReport) ++ x.xclaims.filter (!·.isReport) })) ∧
  ∀ (p : PortId) (a : Word) (f : BusFlight) (b : Transfer) (e : OrtEntry) (s : State),
    let x := s.port p
    let ended := { s with bus := { s.bus with flight := none } }
    s.bus.flight = some f → f.live = true → x.te.transfer = some b →
    s.ortFind b.ort = some e → e.st ≠ .done → s.NotAwaited b.ort →
    let handed := fun (st : Status) (result : Word) (t : State) =>
      OnlyPort p s t ∧ GroupsKept s t ∧ t.bus.flight = none ∧
      t.cpl.done = s.cpl.done ++
        [{ ort := b.ort, tag := e.tag, kind := e.kind, target := e.target, status := st, result := result,
           arrival := s.arrivals }] ∧
      t.port p = { x with
        te := { TransferEngine.reset with lastToggle := x.te.lastToggle }
        xclaims := x.xclaims.filter (·.isReport), queue := x.queue.filter fun q => q.ort ≠ b.ort }
    let abandoned := fun (c : AbandonCause) (i : Instr) => exec i s = .next (ended.withPort p { x with
      te := { x.te with cause := some c, phase := .abandonWait, segment := none, storing := none }
      xclaims := x.xclaims.filter (·.isReport) })
    (∀ c, x.te.cause = some c →
      (∀ len d, f.access = .transferFetch p a len →
        (x.te.sent = true → abandoned c (.transferFetchEnd d)) ∧
        (x.te.sent = false →
          Completes (.transferFetchEnd d) s (handed (x.te.abandonedAs c).1 (x.te.abandonedAs c).2))) ∧
      ∀ l ok n last, f.access = .transferStore p a l → x.te.storing = some (n, last) → x.te.sent = true →
        abandoned c (.transferStoreEnd ok)) ∧
    (∀ len, x.te.cause = none → f.access = .transferFetch p a len →
      (∀ d : ReadData,
        let done := x.te.octetsDone
        let n := if done = 0 then min b.length (x.segSize - 4) else min (b.length - done) x.segSize
        exec (.transferFetchEnd (some d)) s = .next (ended.withPort p { x with te := { x.te with
          phase := .sendWait, storing := none
          segment := some
            { write := true, first := done == 0, last := done + n == b.length, dataLen := n, toggle := none
              payload := (if done = 0 then octets 2 b.index ++ octets 2 (BitVec.ofNat 16 b.length) else []) ++
                octets n d } } })) ∧
      (x.te.sent = false → Completes (.transferFetchEnd none) s (handed .bufferFault 0)) ∧
      (x.te.sent = true → abandoned .bufferFault (.transferFetchEnd none))) ∧
    ∀ l len last, x.te.cause = none → f.access = .transferStore p a l → x.te.storing = some (len, last) →
      (last = true → Completes (.transferStoreEnd true) s (handed .ok (BitVec.ofNat 32 (x.te.octetsDone + len)))) ∧
      (last = false → exec (.transferStoreEnd true) s = .next (ended.withPort p { x with te := { x.te with
        octetsDone := x.te.octetsDone + len, phase := .sendWait, storing := none
        segment := some
          { write := false, first := false, last := false, payload := [], dataLen := 0, toggle := none } } })) ∧
      (x.te.sent = true → abandoned .bufferFault (.transferStoreEnd false))

/-- A report write that ends completes its PORT_QUERY: OK with the state number of the snapshot, or BUFFER_FAULT with result 0,
the port otherwise as it was; a PORT_DISABLE that waited for it is handed after it with its count (R31, R41). -/
def Obligations.AReportWriteEndsItsQuery : Prop :=
  ∀ (ok : Bool) (p : PortId) (a : Word) (l : List Byte) (f : BusFlight) (q : Query) (e : OrtEntry) (s : State),
    let x := s.port p
    s.bus.flight = some f → f.access = .reportWrite p q.ort a l → (x.queries.find? fun r => r.ort = q.ort) = some q →
    (∀ u ∈ x.queue, u.ending = none) → s.ortFind q.ort = some e → e.st ≠ .done → (∀ i, s.NotAwaited i) →
    let answer : Completion :=
      { ort := q.ort, tag := e.tag, kind := e.kind, target := e.target, status := if ok then .ok else .bufferFault,
        result := if ok then q.state.code.setWidth 32 else 0, arrival := s.arrivals }
    Completes (.portReportWriteEnd ok) s fun t =>
      OnlyPort p s t ∧ GroupsKept s t ∧ t.bus.flight = none ∧ t.cpl.events = s.cpl.events ∧
      t.port p = { x with queries := x.queries.filter fun r => r.ort ≠ q.ort, disables := [] } ∧
      t.entryState q.ort = some .done ∧
      (x.disables = [] → t.cpl.done = s.cpl.done ++ [answer]) ∧
      ∀ w g, x.disables = [w] → w.ort ≠ q.ort → s.ortFind w.ort = some g → g.st ≠ .done →
        t.cpl.done = s.cpl.done ++ [answer,
          { ort := w.ort, tag := g.tag, kind := g.kind, target := g.target, status := .ok,
            result := BitVec.ofNat 32 w.count, arrival := s.arrivals + 1 }]
end

