-- ==== Sys2Proof/Laws/State.lean ====
section
/-! SUPPORT. What each update of the state leaves as it was, field by field, and what it gives the part it updates. -/

namespace Sys2Proof.Machine

/-! ### modPort -/

@[simp] theorem State.modPort_time (s : State) (p : PortId) (f : Port → Port) : (s.modPort p f).time = s.time := rfl
@[simp] theorem State.modPort_resetAsserted (s : State) (p : PortId) (f : Port → Port) : (s.modPort p f).resetAsserted = s.resetAsserted := rfl
@[simp] theorem State.modPort_part (s : State) (p : PortId) (f : Port → Port) : (s.modPort p f).part = s.part := rfl
@[simp] theorem State.modPort_haltCause (s : State) (p : PortId) (f : Port → Port) : (s.modPort p f).haltCause = s.haltCause := rfl
@[simp] theorem State.modPort_ctrlEnable (s : State) (p : PortId) (f : Port → Port) : (s.modPort p f).ctrlEnable = s.ctrlEnable := rfl
@[simp] theorem State.modPort_intEnable (s : State) (p : PortId) (f : Port → Port) : (s.modPort p f).intEnable = s.intEnable := rfl
@[simp] theorem State.modPort_setupAddr (s : State) (p : PortId) (f : Port → Port) : (s.modPort p f).setupAddr = s.setupAddr := rfl
@[simp] theorem State.modPort_reqTailReg (s : State) (p : PortId) (f : Port → Port) : (s.modPort p f).reqTailReg = s.reqTailReg := rfl
@[simp] theorem State.modPort_cplHeadReg (s : State) (p : PortId) (f : Port → Port) : (s.modPort p f).cplHeadReg = s.cplHeadReg := rfl
@[simp] theorem State.modPort_setup (s : State) (p : PortId) (f : Port → Port) : (s.modPort p f).setup = s.setup := rfl
@[simp] theorem State.modPort_head (s : State) (p : PortId) (f : Port → Port) : (s.modPort p f).head = s.head := rfl
@[simp] theorem State.modPort_tail (s : State) (p : PortId) (f : Port → Port) : (s.modPort p f).tail = s.tail := rfl
@[simp] theorem State.modPort_ort (s : State) (p : PortId) (f : Port → Port) : (s.modPort p f).ort = s.ort := rfl
@[simp] theorem State.modPort_cpl (s : State) (p : PortId) (f : Port → Port) : (s.modPort p f).cpl = s.cpl := rfl
@[simp] theorem State.modPort_bus (s : State) (p : PortId) (f : Port → Port) : (s.modPort p f).bus = s.bus := rfl
@[simp] theorem State.modPort_groups (s : State) (p : PortId) (f : Port → Port) : (s.modPort p f).groups = s.groups := rfl
@[simp] theorem State.modPort_unitInbox (s : State) (p : PortId) (f : Port → Port) : (s.modPort p f).unitInbox = s.unitInbox := rfl
@[simp] theorem State.modPort_syncInLevel (s : State) (p : PortId) (f : Port → Port) : (s.modPort p f).syncInLevel = s.syncInLevel := rfl
@[simp] theorem State.modPort_syncOutEnd (s : State) (p : PortId) (f : Port → Port) : (s.modPort p f).syncOutEnd = s.syncOutEnd := rfl
@[simp] theorem State.modPort_arrivals (s : State) (p : PortId) (f : Port → Port) : (s.modPort p f).arrivals = s.arrivals := rfl
@[simp] theorem State.modPort_choices (s : State) (p : PortId) (f : Port → Port) : (s.modPort p f).choices = s.choices := rfl
@[simp] theorem State.modPort_pending (s : State) (p : PortId) (f : Port → Port) : (s.modPort p f).pending = s.pending := rfl

/-! ### modLf -/

@[simp] theorem State.modLf_time (s : State) (p : PortId) (f : Framer → Framer) : (s.modLf p f).time = s.time := rfl
@[simp] theorem State.modLf_resetAsserted (s : State) (p : PortId) (f : Framer → Framer) : (s.modLf p f).resetAsserted = s.resetAsserted := rfl
@[simp] theorem State.modLf_part (s : State) (p : PortId) (f : Framer → Framer) : (s.modLf p f).part = s.part := rfl
@[simp] theorem State.modLf_haltCause (s : State) (p : PortId) (f : Framer → Framer) : (s.modLf p f).haltCause = s.haltCause := rfl
@[simp] theorem State.modLf_ctrlEnable (s : State) (p : PortId) (f : Framer → Framer) : (s.modLf p f).ctrlEnable = s.ctrlEnable := rfl
@[simp] theorem State.modLf_intEnable (s : State) (p : PortId) (f : Framer → Framer) : (s.modLf p f).intEnable = s.intEnable := rfl
@[simp] theorem State.modLf_setupAddr (s : State) (p : PortId) (f : Framer → Framer) : (s.modLf p f).setupAddr = s.setupAddr := rfl
@[simp] theorem State.modLf_reqTailReg (s : State) (p : PortId) (f : Framer → Framer) : (s.modLf p f).reqTailReg = s.reqTailReg := rfl
@[simp] theorem State.modLf_cplHeadReg (s : State) (p : PortId) (f : Framer → Framer) : (s.modLf p f).cplHeadReg = s.cplHeadReg := rfl
@[simp] theorem State.modLf_setup (s : State) (p : PortId) (f : Framer → Framer) : (s.modLf p f).setup = s.setup := rfl
@[simp] theorem State.modLf_head (s : State) (p : PortId) (f : Framer → Framer) : (s.modLf p f).head = s.head := rfl
@[simp] theorem State.modLf_tail (s : State) (p : PortId) (f : Framer → Framer) : (s.modLf p f).tail = s.tail := rfl
@[simp] theorem State.modLf_ort (s : State) (p : PortId) (f : Framer → Framer) : (s.modLf p f).ort = s.ort := rfl
@[simp] theorem State.modLf_cpl (s : State) (p : PortId) (f : Framer → Framer) : (s.modLf p f).cpl = s.cpl := rfl
@[simp] theorem State.modLf_bus (s : State) (p : PortId) (f : Framer → Framer) : (s.modLf p f).bus = s.bus := rfl
@[simp] theorem State.modLf_groups (s : State) (p : PortId) (f : Framer → Framer) : (s.modLf p f).groups = s.groups := rfl
@[simp] theorem State.modLf_unitInbox (s : State) (p : PortId) (f : Framer → Framer) : (s.modLf p f).unitInbox = s.unitInbox := rfl
@[simp] theorem State.modLf_syncInLevel (s : State) (p : PortId) (f : Framer → Framer) : (s.modLf p f).syncInLevel = s.syncInLevel := rfl
@[simp] theorem State.modLf_syncOutEnd (s : State) (p : PortId) (f : Framer → Framer) : (s.modLf p f).syncOutEnd = s.syncOutEnd := rfl
@[simp] theorem State.modLf_arrivals (s : State) (p : PortId) (f : Framer → Framer) : (s.modLf p f).arrivals = s.arrivals := rfl
@[simp] theorem State.modLf_choices (s : State) (p : PortId) (f : Framer → Framer) : (s.modLf p f).choices = s.choices := rfl
@[simp] theorem State.modLf_pending (s : State) (p : PortId) (f : Framer → Framer) : (s.modLf p f).pending = s.pending := rfl

/-! ### modSeq -/

@[simp] theorem State.modSeq_time (s : State) (p : PortId) (f : Sequencer → Sequencer) : (s.modSeq p f).time = s.time := rfl
@[simp] theorem State.modSeq_resetAsserted (s : State) (p : PortId) (f : Sequencer → Sequencer) : (s.modSeq p f).resetAsserted = s.resetAsserted := rfl
@[simp] theorem State.modSeq_part (s : State) (p : PortId) (f : Sequencer → Sequencer) : (s.modSeq p f).part = s.part := rfl
@[simp] theorem State.modSeq_haltCause (s : State) (p : PortId) (f : Sequencer → Sequencer) : (s.modSeq p f).haltCause = s.haltCause := rfl
@[simp] theorem State.modSeq_ctrlEnable (s : State) (p : PortId) (f : Sequencer → Sequencer) : (s.modSeq p f).ctrlEnable = s.ctrlEnable := rfl
@[simp] theorem State.modSeq_intEnable (s : State) (p : PortId) (f : Sequencer → Sequencer) : (s.modSeq p f).intEnable = s.intEnable := rfl
@[simp] theorem State.modSeq_setupAddr (s : State) (p : PortId) (f : Sequencer → Sequencer) : (s.modSeq p f).setupAddr = s.setupAddr := rfl
@[simp] theorem State.modSeq_reqTailReg (s : State) (p : PortId) (f : Sequencer → Sequencer) : (s.modSeq p f).reqTailReg = s.reqTailReg := rfl
@[simp] theorem State.modSeq_cplHeadReg (s : State) (p : PortId) (f : Sequencer → Sequencer) : (s.modSeq p f).cplHeadReg = s.cplHeadReg := rfl
@[simp] theorem State.modSeq_setup (s : State) (p : PortId) (f : Sequencer → Sequencer) : (s.modSeq p f).setup = s.setup := rfl
@[simp] theorem State.modSeq_head (s : State) (p : PortId) (f : Sequencer → Sequencer) : (s.modSeq p f).head = s.head := rfl
@[simp] theorem State.modSeq_tail (s : State) (p : PortId) (f : Sequencer → Sequencer) : (s.modSeq p f).tail = s.tail := rfl
@[simp] theorem State.modSeq_ort (s : State) (p : PortId) (f : Sequencer → Sequencer) : (s.modSeq p f).ort = s.ort := rfl
@[simp] theorem State.modSeq_cpl (s : State) (p : PortId) (f : Sequencer → Sequencer) : (s.modSeq p f).cpl = s.cpl := rfl
@[simp] theorem State.modSeq_bus (s : State) (p : PortId) (f : Sequencer → Sequencer) : (s.modSeq p f).bus = s.bus := rfl
@[simp] theorem State.modSeq_groups (s : State) (p : PortId) (f : Sequencer → Sequencer) : (s.modSeq p f).groups = s.groups := rfl
@[simp] theorem State.modSeq_unitInbox (s : State) (p : PortId) (f : Sequencer → Sequencer) : (s.modSeq p f).unitInbox = s.unitInbox := rfl
@[simp] theorem State.modSeq_syncInLevel (s : State) (p : PortId) (f : Sequencer → Sequencer) : (s.modSeq p f).syncInLevel = s.syncInLevel := rfl
@[simp] theorem State.modSeq_syncOutEnd (s : State) (p : PortId) (f : Sequencer → Sequencer) : (s.modSeq p f).syncOutEnd = s.syncOutEnd := rfl
@[simp] theorem State.modSeq_arrivals (s : State) (p : PortId) (f : Sequencer → Sequencer) : (s.modSeq p f).arrivals = s.arrivals := rfl
@[simp] theorem State.modSeq_choices (s : State) (p : PortId) (f : Sequencer → Sequencer) : (s.modSeq p f).choices = s.choices := rfl
@[simp] theorem State.modSeq_pending (s : State) (p : PortId) (f : Sequencer → Sequencer) : (s.modSeq p f).pending = s.pending := rfl

/-! ### modCyc -/

@[simp] theorem State.modCyc_time (s : State) (p : PortId) (f : CycleEngine → CycleEngine) : (s.modCyc p f).time = s.time := rfl
@[simp] theorem State.modCyc_resetAsserted (s : State) (p : PortId) (f : CycleEngine → CycleEngine) : (s.modCyc p f).resetAsserted = s.resetAsserted := rfl
@[simp] theorem State.modCyc_part (s : State) (p : PortId) (f : CycleEngine → CycleEngine) : (s.modCyc p f).part = s.part := rfl
@[simp] theorem State.modCyc_haltCause (s : State) (p : PortId) (f : CycleEngine → CycleEngine) : (s.modCyc p f).haltCause = s.haltCause := rfl
@[simp] theorem State.modCyc_ctrlEnable (s : State) (p : PortId) (f : CycleEngine → CycleEngine) : (s.modCyc p f).ctrlEnable = s.ctrlEnable := rfl
@[simp] theorem State.modCyc_intEnable (s : State) (p : PortId) (f : CycleEngine → CycleEngine) : (s.modCyc p f).intEnable = s.intEnable := rfl
@[simp] theorem State.modCyc_setupAddr (s : State) (p : PortId) (f : CycleEngine → CycleEngine) : (s.modCyc p f).setupAddr = s.setupAddr := rfl
@[simp] theorem State.modCyc_reqTailReg (s : State) (p : PortId) (f : CycleEngine → CycleEngine) : (s.modCyc p f).reqTailReg = s.reqTailReg := rfl
@[simp] theorem State.modCyc_cplHeadReg (s : State) (p : PortId) (f : CycleEngine → CycleEngine) : (s.modCyc p f).cplHeadReg = s.cplHeadReg := rfl
@[simp] theorem State.modCyc_setup (s : State) (p : PortId) (f : CycleEngine → CycleEngine) : (s.modCyc p f).setup = s.setup := rfl
@[simp] theorem State.modCyc_head (s : State) (p : PortId) (f : CycleEngine → CycleEngine) : (s.modCyc p f).head = s.head := rfl
@[simp] theorem State.modCyc_tail (s : State) (p : PortId) (f : CycleEngine → CycleEngine) : (s.modCyc p f).tail = s.tail := rfl
@[simp] theorem State.modCyc_ort (s : State) (p : PortId) (f : CycleEngine → CycleEngine) : (s.modCyc p f).ort = s.ort := rfl
@[simp] theorem State.modCyc_cpl (s : State) (p : PortId) (f : CycleEngine → CycleEngine) : (s.modCyc p f).cpl = s.cpl := rfl
@[simp] theorem State.modCyc_bus (s : State) (p : PortId) (f : CycleEngine → CycleEngine) : (s.modCyc p f).bus = s.bus := rfl
@[simp] theorem State.modCyc_groups (s : State) (p : PortId) (f : CycleEngine → CycleEngine) : (s.modCyc p f).groups = s.groups := rfl
@[simp] theorem State.modCyc_unitInbox (s : State) (p : PortId) (f : CycleEngine → CycleEngine) : (s.modCyc p f).unitInbox = s.unitInbox := rfl
@[simp] theorem State.modCyc_syncInLevel (s : State) (p : PortId) (f : CycleEngine → CycleEngine) : (s.modCyc p f).syncInLevel = s.syncInLevel := rfl
@[simp] theorem State.modCyc_syncOutEnd (s : State) (p : PortId) (f : CycleEngine → CycleEngine) : (s.modCyc p f).syncOutEnd = s.syncOutEnd := rfl
@[simp] theorem State.modCyc_arrivals (s : State) (p : PortId) (f : CycleEngine → CycleEngine) : (s.modCyc p f).arrivals = s.arrivals := rfl
@[simp] theorem State.modCyc_choices (s : State) (p : PortId) (f : CycleEngine → CycleEngine) : (s.modCyc p f).choices = s.choices := rfl
@[simp] theorem State.modCyc_pending (s : State) (p : PortId) (f : CycleEngine → CycleEngine) : (s.modCyc p f).pending = s.pending := rfl

/-! ### modTe -/

@[simp] theorem State.modTe_time (s : State) (p : PortId) (f : TransferEngine → TransferEngine) : (s.modTe p f).time = s.time := rfl
@[simp] theorem State.modTe_resetAsserted (s : State) (p : PortId) (f : TransferEngine → TransferEngine) : (s.modTe p f).resetAsserted = s.resetAsserted := rfl
@[simp] theorem State.modTe_part (s : State) (p : PortId) (f : TransferEngine → TransferEngine) : (s.modTe p f).part = s.part := rfl
@[simp] theorem State.modTe_haltCause (s : State) (p : PortId) (f : TransferEngine → TransferEngine) : (s.modTe p f).haltCause = s.haltCause := rfl
@[simp] theorem State.modTe_ctrlEnable (s : State) (p : PortId) (f : TransferEngine → TransferEngine) : (s.modTe p f).ctrlEnable = s.ctrlEnable := rfl
@[simp] theorem State.modTe_intEnable (s : State) (p : PortId) (f : TransferEngine → TransferEngine) : (s.modTe p f).intEnable = s.intEnable := rfl
@[simp] theorem State.modTe_setupAddr (s : State) (p : PortId) (f : TransferEngine → TransferEngine) : (s.modTe p f).setupAddr = s.setupAddr := rfl
@[simp] theorem State.modTe_reqTailReg (s : State) (p : PortId) (f : TransferEngine → TransferEngine) : (s.modTe p f).reqTailReg = s.reqTailReg := rfl
@[simp] theorem State.modTe_cplHeadReg (s : State) (p : PortId) (f : TransferEngine → TransferEngine) : (s.modTe p f).cplHeadReg = s.cplHeadReg := rfl
@[simp] theorem State.modTe_setup (s : State) (p : PortId) (f : TransferEngine → TransferEngine) : (s.modTe p f).setup = s.setup := rfl
@[simp] theorem State.modTe_head (s : State) (p : PortId) (f : TransferEngine → TransferEngine) : (s.modTe p f).head = s.head := rfl
@[simp] theorem State.modTe_tail (s : State) (p : PortId) (f : TransferEngine → TransferEngine) : (s.modTe p f).tail = s.tail := rfl
@[simp] theorem State.modTe_ort (s : State) (p : PortId) (f : TransferEngine → TransferEngine) : (s.modTe p f).ort = s.ort := rfl
@[simp] theorem State.modTe_cpl (s : State) (p : PortId) (f : TransferEngine → TransferEngine) : (s.modTe p f).cpl = s.cpl := rfl
@[simp] theorem State.modTe_bus (s : State) (p : PortId) (f : TransferEngine → TransferEngine) : (s.modTe p f).bus = s.bus := rfl
@[simp] theorem State.modTe_groups (s : State) (p : PortId) (f : TransferEngine → TransferEngine) : (s.modTe p f).groups = s.groups := rfl
@[simp] theorem State.modTe_unitInbox (s : State) (p : PortId) (f : TransferEngine → TransferEngine) : (s.modTe p f).unitInbox = s.unitInbox := rfl
@[simp] theorem State.modTe_syncInLevel (s : State) (p : PortId) (f : TransferEngine → TransferEngine) : (s.modTe p f).syncInLevel = s.syncInLevel := rfl
@[simp] theorem State.modTe_syncOutEnd (s : State) (p : PortId) (f : TransferEngine → TransferEngine) : (s.modTe p f).syncOutEnd = s.syncOutEnd := rfl
@[simp] theorem State.modTe_arrivals (s : State) (p : PortId) (f : TransferEngine → TransferEngine) : (s.modTe p f).arrivals = s.arrivals := rfl
@[simp] theorem State.modTe_choices (s : State) (p : PortId) (f : TransferEngine → TransferEngine) : (s.modTe p f).choices = s.choices := rfl
@[simp] theorem State.modTe_pending (s : State) (p : PortId) (f : TransferEngine → TransferEngine) : (s.modTe p f).pending = s.pending := rfl

/-! ### modCounters -/

@[simp] theorem State.modCounters_time (s : State) (p : PortId) (f : Counters → Counters) : (s.modCounters p f).time = s.time := rfl
@[simp] theorem State.modCounters_resetAsserted (s : State) (p : PortId) (f : Counters → Counters) : (s.modCounters p f).resetAsserted = s.resetAsserted := rfl
@[simp] theorem State.modCounters_part (s : State) (p : PortId) (f : Counters → Counters) : (s.modCounters p f).part = s.part := rfl
@[simp] theorem State.modCounters_haltCause (s : State) (p : PortId) (f : Counters → Counters) : (s.modCounters p f).haltCause = s.haltCause := rfl
@[simp] theorem State.modCounters_ctrlEnable (s : State) (p : PortId) (f : Counters → Counters) : (s.modCounters p f).ctrlEnable = s.ctrlEnable := rfl
@[simp] theorem State.modCounters_intEnable (s : State) (p : PortId) (f : Counters → Counters) : (s.modCounters p f).intEnable = s.intEnable := rfl
@[simp] theorem State.modCounters_setupAddr (s : State) (p : PortId) (f : Counters → Counters) : (s.modCounters p f).setupAddr = s.setupAddr := rfl
@[simp] theorem State.modCounters_reqTailReg (s : State) (p : PortId) (f : Counters → Counters) : (s.modCounters p f).reqTailReg = s.reqTailReg := rfl
@[simp] theorem State.modCounters_cplHeadReg (s : State) (p : PortId) (f : Counters → Counters) : (s.modCounters p f).cplHeadReg = s.cplHeadReg := rfl
@[simp] theorem State.modCounters_setup (s : State) (p : PortId) (f : Counters → Counters) : (s.modCounters p f).setup = s.setup := rfl
@[simp] theorem State.modCounters_head (s : State) (p : PortId) (f : Counters → Counters) : (s.modCounters p f).head = s.head := rfl
@[simp] theorem State.modCounters_tail (s : State) (p : PortId) (f : Counters → Counters) : (s.modCounters p f).tail = s.tail := rfl
@[simp] theorem State.modCounters_ort (s : State) (p : PortId) (f : Counters → Counters) : (s.modCounters p f).ort = s.ort := rfl
@[simp] theorem State.modCounters_cpl (s : State) (p : PortId) (f : Counters → Counters) : (s.modCounters p f).cpl = s.cpl := rfl
@[simp] theorem State.modCounters_bus (s : State) (p : PortId) (f : Counters → Counters) : (s.modCounters p f).bus = s.bus := rfl
@[simp] theorem State.modCounters_groups (s : State) (p : PortId) (f : Counters → Counters) : (s.modCounters p f).groups = s.groups := rfl
@[simp] theorem State.modCounters_unitInbox (s : State) (p : PortId) (f : Counters → Counters) : (s.modCounters p f).unitInbox = s.unitInbox := rfl
@[simp] theorem State.modCounters_syncInLevel (s : State) (p : PortId) (f : Counters → Counters) : (s.modCounters p f).syncInLevel = s.syncInLevel := rfl
@[simp] theorem State.modCounters_syncOutEnd (s : State) (p : PortId) (f : Counters → Counters) : (s.modCounters p f).syncOutEnd = s.syncOutEnd := rfl
@[simp] theorem State.modCounters_arrivals (s : State) (p : PortId) (f : Counters → Counters) : (s.modCounters p f).arrivals = s.arrivals := rfl
@[simp] theorem State.modCounters_choices (s : State) (p : PortId) (f : Counters → Counters) : (s.modCounters p f).choices = s.choices := rfl
@[simp] theorem State.modCounters_pending (s : State) (p : PortId) (f : Counters → Counters) : (s.modCounters p f).pending = s.pending := rfl

/-! ### setPortState -/

@[simp] theorem State.setPortState_time (s : State) (p : PortId) (st : PortState) : (s.setPortState p st).time = s.time := rfl
@[simp] theorem State.setPortState_resetAsserted (s : State) (p : PortId) (st : PortState) : (s.setPortState p st).resetAsserted = s.resetAsserted := rfl
@[simp] theorem State.setPortState_part (s : State) (p : PortId) (st : PortState) : (s.setPortState p st).part = s.part := rfl
@[simp] theorem State.setPortState_haltCause (s : State) (p : PortId) (st : PortState) : (s.setPortState p st).haltCause = s.haltCause := rfl
@[simp] theorem State.setPortState_ctrlEnable (s : State) (p : PortId) (st : PortState) : (s.setPortState p st).ctrlEnable = s.ctrlEnable := rfl
@[simp] theorem State.setPortState_intEnable (s : State) (p : PortId) (st : PortState) : (s.setPortState p st).intEnable = s.intEnable := rfl
@[simp] theorem State.setPortState_setupAddr (s : State) (p : PortId) (st : PortState) : (s.setPortState p st).setupAddr = s.setupAddr := rfl
@[simp] theorem State.setPortState_reqTailReg (s : State) (p : PortId) (st : PortState) : (s.setPortState p st).reqTailReg = s.reqTailReg := rfl
@[simp] theorem State.setPortState_cplHeadReg (s : State) (p : PortId) (st : PortState) : (s.setPortState p st).cplHeadReg = s.cplHeadReg := rfl
@[simp] theorem State.setPortState_setup (s : State) (p : PortId) (st : PortState) : (s.setPortState p st).setup = s.setup := rfl
@[simp] theorem State.setPortState_head (s : State) (p : PortId) (st : PortState) : (s.setPortState p st).head = s.head := rfl
@[simp] theorem State.setPortState_tail (s : State) (p : PortId) (st : PortState) : (s.setPortState p st).tail = s.tail := rfl
@[simp] theorem State.setPortState_ort (s : State) (p : PortId) (st : PortState) : (s.setPortState p st).ort = s.ort := rfl
@[simp] theorem State.setPortState_cpl (s : State) (p : PortId) (st : PortState) : (s.setPortState p st).cpl = s.cpl := rfl
@[simp] theorem State.setPortState_bus (s : State) (p : PortId) (st : PortState) : (s.setPortState p st).bus = s.bus := rfl
@[simp] theorem State.setPortState_groups (s : State) (p : PortId) (st : PortState) : (s.setPortState p st).groups = s.groups := rfl
@[simp] theorem State.setPortState_unitInbox (s : State) (p : PortId) (st : PortState) : (s.setPortState p st).unitInbox = s.unitInbox := rfl
@[simp] theorem State.setPortState_syncInLevel (s : State) (p : PortId) (st : PortState) : (s.setPortState p st).syncInLevel = s.syncInLevel := rfl
@[simp] theorem State.setPortState_syncOutEnd (s : State) (p : PortId) (st : PortState) : (s.setPortState p st).syncOutEnd = s.syncOutEnd := rfl
@[simp] theorem State.setPortState_arrivals (s : State) (p : PortId) (st : PortState) : (s.setPortState p st).arrivals = s.arrivals := rfl
@[simp] theorem State.setPortState_choices (s : State) (p : PortId) (st : PortState) : (s.setPortState p st).choices = s.choices := rfl
@[simp] theorem State.setPortState_pending (s : State) (p : PortId) (st : PortState) : (s.setPortState p st).pending = s.pending := rfl

/-! ### setNext -/

@[simp] theorem State.setNext_time (s : State) (p : PortId) (n : Option Word) : (s.setNext p n).time = s.time := rfl
@[simp] theorem State.setNext_resetAsserted (s : State) (p : PortId) (n : Option Word) : (s.setNext p n).resetAsserted = s.resetAsserted := rfl
@[simp] theorem State.setNext_part (s : State) (p : PortId) (n : Option Word) : (s.setNext p n).part = s.part := rfl
@[simp] theorem State.setNext_haltCause (s : State) (p : PortId) (n : Option Word) : (s.setNext p n).haltCause = s.haltCause := rfl
@[simp] theorem State.setNext_ctrlEnable (s : State) (p : PortId) (n : Option Word) : (s.setNext p n).ctrlEnable = s.ctrlEnable := rfl
@[simp] theorem State.setNext_intEnable (s : State) (p : PortId) (n : Option Word) : (s.setNext p n).intEnable = s.intEnable := rfl
@[simp] theorem State.setNext_setupAddr (s : State) (p : PortId) (n : Option Word) : (s.setNext p n).setupAddr = s.setupAddr := rfl
@[simp] theorem State.setNext_reqTailReg (s : State) (p : PortId) (n : Option Word) : (s.setNext p n).reqTailReg = s.reqTailReg := rfl
@[simp] theorem State.setNext_cplHeadReg (s : State) (p : PortId) (n : Option Word) : (s.setNext p n).cplHeadReg = s.cplHeadReg := rfl
@[simp] theorem State.setNext_setup (s : State) (p : PortId) (n : Option Word) : (s.setNext p n).setup = s.setup := rfl
@[simp] theorem State.setNext_head (s : State) (p : PortId) (n : Option Word) : (s.setNext p n).head = s.head := rfl
@[simp] theorem State.setNext_tail (s : State) (p : PortId) (n : Option Word) : (s.setNext p n).tail = s.tail := rfl
@[simp] theorem State.setNext_ort (s : State) (p : PortId) (n : Option Word) : (s.setNext p n).ort = s.ort := rfl
@[simp] theorem State.setNext_cpl (s : State) (p : PortId) (n : Option Word) : (s.setNext p n).cpl = s.cpl := rfl
@[simp] theorem State.setNext_bus (s : State) (p : PortId) (n : Option Word) : (s.setNext p n).bus = s.bus := rfl
@[simp] theorem State.setNext_groups (s : State) (p : PortId) (n : Option Word) : (s.setNext p n).groups = s.groups := rfl
@[simp] theorem State.setNext_unitInbox (s : State) (p : PortId) (n : Option Word) : (s.setNext p n).unitInbox = s.unitInbox := rfl
@[simp] theorem State.setNext_syncInLevel (s : State) (p : PortId) (n : Option Word) : (s.setNext p n).syncInLevel = s.syncInLevel := rfl
@[simp] theorem State.setNext_syncOutEnd (s : State) (p : PortId) (n : Option Word) : (s.setNext p n).syncOutEnd = s.syncOutEnd := rfl
@[simp] theorem State.setNext_arrivals (s : State) (p : PortId) (n : Option Word) : (s.setNext p n).arrivals = s.arrivals := rfl
@[simp] theorem State.setNext_choices (s : State) (p : PortId) (n : Option Word) : (s.setNext p n).choices = s.choices := rfl
@[simp] theorem State.setNext_pending (s : State) (p : PortId) (n : Option Word) : (s.setNext p n).pending = s.pending := rfl

/-! ### modGroup -/

@[simp] theorem State.modGroup_time (s : State) (g : GroupId) (f : Group → Group) : (s.modGroup g f).time = s.time := rfl
@[simp] theorem State.modGroup_resetAsserted (s : State) (g : GroupId) (f : Group → Group) : (s.modGroup g f).resetAsserted = s.resetAsserted := rfl
@[simp] theorem State.modGroup_part (s : State) (g : GroupId) (f : Group → Group) : (s.modGroup g f).part = s.part := rfl
@[simp] theorem State.modGroup_haltCause (s : State) (g : GroupId) (f : Group → Group) : (s.modGroup g f).haltCause = s.haltCause := rfl
@[simp] theorem State.modGroup_ctrlEnable (s : State) (g : GroupId) (f : Group → Group) : (s.modGroup g f).ctrlEnable = s.ctrlEnable := rfl
@[simp] theorem State.modGroup_intEnable (s : State) (g : GroupId) (f : Group → Group) : (s.modGroup g f).intEnable = s.intEnable := rfl
@[simp] theorem State.modGroup_setupAddr (s : State) (g : GroupId) (f : Group → Group) : (s.modGroup g f).setupAddr = s.setupAddr := rfl
@[simp] theorem State.modGroup_reqTailReg (s : State) (g : GroupId) (f : Group → Group) : (s.modGroup g f).reqTailReg = s.reqTailReg := rfl
@[simp] theorem State.modGroup_cplHeadReg (s : State) (g : GroupId) (f : Group → Group) : (s.modGroup g f).cplHeadReg = s.cplHeadReg := rfl
@[simp] theorem State.modGroup_setup (s : State) (g : GroupId) (f : Group → Group) : (s.modGroup g f).setup = s.setup := rfl
@[simp] theorem State.modGroup_head (s : State) (g : GroupId) (f : Group → Group) : (s.modGroup g f).head = s.head := rfl
@[simp] theorem State.modGroup_tail (s : State) (g : GroupId) (f : Group → Group) : (s.modGroup g f).tail = s.tail := rfl
@[simp] theorem State.modGroup_ort (s : State) (g : GroupId) (f : Group → Group) : (s.modGroup g f).ort = s.ort := rfl
@[simp] theorem State.modGroup_cpl (s : State) (g : GroupId) (f : Group → Group) : (s.modGroup g f).cpl = s.cpl := rfl
@[simp] theorem State.modGroup_bus (s : State) (g : GroupId) (f : Group → Group) : (s.modGroup g f).bus = s.bus := rfl
@[simp] theorem State.modGroup_ports (s : State) (g : GroupId) (f : Group → Group) : (s.modGroup g f).ports = s.ports := rfl
@[simp] theorem State.modGroup_unitInbox (s : State) (g : GroupId) (f : Group → Group) : (s.modGroup g f).unitInbox = s.unitInbox := rfl
@[simp] theorem State.modGroup_syncInLevel (s : State) (g : GroupId) (f : Group → Group) : (s.modGroup g f).syncInLevel = s.syncInLevel := rfl
@[simp] theorem State.modGroup_syncOutEnd (s : State) (g : GroupId) (f : Group → Group) : (s.modGroup g f).syncOutEnd = s.syncOutEnd := rfl
@[simp] theorem State.modGroup_arrivals (s : State) (g : GroupId) (f : Group → Group) : (s.modGroup g f).arrivals = s.arrivals := rfl
@[simp] theorem State.modGroup_choices (s : State) (g : GroupId) (f : Group → Group) : (s.modGroup g f).choices = s.choices := rfl
@[simp] theorem State.modGroup_pending (s : State) (g : GroupId) (f : Group → Group) : (s.modGroup g f).pending = s.pending := rfl

/-! ### modCpl -/

@[simp] theorem State.modCpl_time (s : State) (f : CompletionWriter → CompletionWriter) : (s.modCpl f).time = s.time := rfl
@[simp] theorem State.modCpl_resetAsserted (s : State) (f : CompletionWriter → CompletionWriter) : (s.modCpl f).resetAsserted = s.resetAsserted := rfl
@[simp] theorem State.modCpl_part (s : State) (f : CompletionWriter → CompletionWriter) : (s.modCpl f).part = s.part := rfl
@[simp] theorem State.modCpl_haltCause (s : State) (f : CompletionWriter → CompletionWriter) : (s.modCpl f).haltCause = s.haltCause := rfl
@[simp] theorem State.modCpl_ctrlEnable (s : State) (f : CompletionWriter → CompletionWriter) : (s.modCpl f).ctrlEnable = s.ctrlEnable := rfl
@[simp] theorem State.modCpl_intEnable (s : State) (f : CompletionWriter → CompletionWriter) : (s.modCpl f).intEnable = s.intEnable := rfl
@[simp] theorem State.modCpl_setupAddr (s : State) (f : CompletionWriter → CompletionWriter) : (s.modCpl f).setupAddr = s.setupAddr := rfl
@[simp] theorem State.modCpl_reqTailReg (s : State) (f : CompletionWriter → CompletionWriter) : (s.modCpl f).reqTailReg = s.reqTailReg := rfl
@[simp] theorem State.modCpl_cplHeadReg (s : State) (f : CompletionWriter → CompletionWriter) : (s.modCpl f).cplHeadReg = s.cplHeadReg := rfl
@[simp] theorem State.modCpl_setup (s : State) (f : CompletionWriter → CompletionWriter) : (s.modCpl f).setup = s.setup := rfl
@[simp] theorem State.modCpl_head (s : State) (f : CompletionWriter → CompletionWriter) : (s.modCpl f).head = s.head := rfl
@[simp] theorem State.modCpl_tail (s : State) (f : CompletionWriter → CompletionWriter) : (s.modCpl f).tail = s.tail := rfl
@[simp] theorem State.modCpl_ort (s : State) (f : CompletionWriter → CompletionWriter) : (s.modCpl f).ort = s.ort := rfl
@[simp] theorem State.modCpl_bus (s : State) (f : CompletionWriter → CompletionWriter) : (s.modCpl f).bus = s.bus := rfl
@[simp] theorem State.modCpl_ports (s : State) (f : CompletionWriter → CompletionWriter) : (s.modCpl f).ports = s.ports := rfl
@[simp] theorem State.modCpl_groups (s : State) (f : CompletionWriter → CompletionWriter) : (s.modCpl f).groups = s.groups := rfl
@[simp] theorem State.modCpl_unitInbox (s : State) (f : CompletionWriter → CompletionWriter) : (s.modCpl f).unitInbox = s.unitInbox := rfl
@[simp] theorem State.modCpl_syncInLevel (s : State) (f : CompletionWriter → CompletionWriter) : (s.modCpl f).syncInLevel = s.syncInLevel := rfl
@[simp] theorem State.modCpl_syncOutEnd (s : State) (f : CompletionWriter → CompletionWriter) : (s.modCpl f).syncOutEnd = s.syncOutEnd := rfl
@[simp] theorem State.modCpl_arrivals (s : State) (f : CompletionWriter → CompletionWriter) : (s.modCpl f).arrivals = s.arrivals := rfl
@[simp] theorem State.modCpl_choices (s : State) (f : CompletionWriter → CompletionWriter) : (s.modCpl f).choices = s.choices := rfl
@[simp] theorem State.modCpl_pending (s : State) (f : CompletionWriter → CompletionWriter) : (s.modCpl f).pending = s.pending := rfl

/-! ### modBus -/

@[simp] theorem State.modBus_time (s : State) (f : Bus → Bus) : (s.modBus f).time = s.time := rfl
@[simp] theorem State.modBus_resetAsserted (s : State) (f : Bus → Bus) : (s.modBus f).resetAsserted = s.resetAsserted := rfl
@[simp] theorem State.modBus_part (s : State) (f : Bus → Bus) : (s.modBus f).part = s.part := rfl
@[simp] theorem State.modBus_haltCause (s : State) (f : Bus → Bus) : (s.modBus f).haltCause = s.haltCause := rfl
@[simp] theorem State.modBus_ctrlEnable (s : State) (f : Bus → Bus) : (s.modBus f).ctrlEnable = s.ctrlEnable := rfl
@[simp] theorem State.modBus_intEnable (s : State) (f : Bus → Bus) : (s.modBus f).intEnable = s.intEnable := rfl
@[simp] theorem State.modBus_setupAddr (s : State) (f : Bus → Bus) : (s.modBus f).setupAddr = s.setupAddr := rfl
@[simp] theorem State.modBus_reqTailReg (s : State) (f : Bus → Bus) : (s.modBus f).reqTailReg = s.reqTailReg := rfl
@[simp] theorem State.modBus_cplHeadReg (s : State) (f : Bus → Bus) : (s.modBus f).cplHeadReg = s.cplHeadReg := rfl
@[simp] theorem State.modBus_setup (s : State) (f : Bus → Bus) : (s.modBus f).setup = s.setup := rfl
@[simp] theorem State.modBus_head (s : State) (f : Bus → Bus) : (s.modBus f).head = s.head := rfl
@[simp] theorem State.modBus_tail (s : State) (f : Bus → Bus) : (s.modBus f).tail = s.tail := rfl
@[simp] theorem State.modBus_ort (s : State) (f : Bus → Bus) : (s.modBus f).ort = s.ort := rfl
@[simp] theorem State.modBus_cpl (s : State) (f : Bus → Bus) : (s.modBus f).cpl = s.cpl := rfl
@[simp] theorem State.modBus_ports (s : State) (f : Bus → Bus) : (s.modBus f).ports = s.ports := rfl
@[simp] theorem State.modBus_groups (s : State) (f : Bus → Bus) : (s.modBus f).groups = s.groups := rfl
@[simp] theorem State.modBus_unitInbox (s : State) (f : Bus → Bus) : (s.modBus f).unitInbox = s.unitInbox := rfl
@[simp] theorem State.modBus_syncInLevel (s : State) (f : Bus → Bus) : (s.modBus f).syncInLevel = s.syncInLevel := rfl
@[simp] theorem State.modBus_syncOutEnd (s : State) (f : Bus → Bus) : (s.modBus f).syncOutEnd = s.syncOutEnd := rfl
@[simp] theorem State.modBus_arrivals (s : State) (f : Bus → Bus) : (s.modBus f).arrivals = s.arrivals := rfl
@[simp] theorem State.modBus_choices (s : State) (f : Bus → Bus) : (s.modBus f).choices = s.choices := rfl
@[simp] theorem State.modBus_pending (s : State) (f : Bus → Bus) : (s.modBus f).pending = s.pending := rfl

/-! ### setOrt -/

@[simp] theorem State.setOrt_time (s : State) (id : Nat) (f : OrtEntry → OrtEntry) : (s.setOrt id f).time = s.time := rfl
@[simp] theorem State.setOrt_resetAsserted (s : State) (id : Nat) (f : OrtEntry → OrtEntry) : (s.setOrt id f).resetAsserted = s.resetAsserted := rfl
@[simp] theorem State.setOrt_part (s : State) (id : Nat) (f : OrtEntry → OrtEntry) : (s.setOrt id f).part = s.part := rfl
@[simp] theorem State.setOrt_haltCause (s : State) (id : Nat) (f : OrtEntry → OrtEntry) : (s.setOrt id f).haltCause = s.haltCause := rfl
@[simp] theorem State.setOrt_ctrlEnable (s : State) (id : Nat) (f : OrtEntry → OrtEntry) : (s.setOrt id f).ctrlEnable = s.ctrlEnable := rfl
@[simp] theorem State.setOrt_intEnable (s : State) (id : Nat) (f : OrtEntry → OrtEntry) : (s.setOrt id f).intEnable = s.intEnable := rfl
@[simp] theorem State.setOrt_setupAddr (s : State) (id : Nat) (f : OrtEntry → OrtEntry) : (s.setOrt id f).setupAddr = s.setupAddr := rfl
@[simp] theorem State.setOrt_reqTailReg (s : State) (id : Nat) (f : OrtEntry → OrtEntry) : (s.setOrt id f).reqTailReg = s.reqTailReg := rfl
@[simp] theorem State.setOrt_cplHeadReg (s : State) (id : Nat) (f : OrtEntry → OrtEntry) : (s.setOrt id f).cplHeadReg = s.cplHeadReg := rfl
@[simp] theorem State.setOrt_setup (s : State) (id : Nat) (f : OrtEntry → OrtEntry) : (s.setOrt id f).setup = s.setup := rfl
@[simp] theorem State.setOrt_head (s : State) (id : Nat) (f : OrtEntry → OrtEntry) : (s.setOrt id f).head = s.head := rfl
@[simp] theorem State.setOrt_tail (s : State) (id : Nat) (f : OrtEntry → OrtEntry) : (s.setOrt id f).tail = s.tail := rfl
@[simp] theorem State.setOrt_cpl (s : State) (id : Nat) (f : OrtEntry → OrtEntry) : (s.setOrt id f).cpl = s.cpl := rfl
@[simp] theorem State.setOrt_bus (s : State) (id : Nat) (f : OrtEntry → OrtEntry) : (s.setOrt id f).bus = s.bus := rfl
@[simp] theorem State.setOrt_ports (s : State) (id : Nat) (f : OrtEntry → OrtEntry) : (s.setOrt id f).ports = s.ports := rfl
@[simp] theorem State.setOrt_groups (s : State) (id : Nat) (f : OrtEntry → OrtEntry) : (s.setOrt id f).groups = s.groups := rfl
@[simp] theorem State.setOrt_unitInbox (s : State) (id : Nat) (f : OrtEntry → OrtEntry) : (s.setOrt id f).unitInbox = s.unitInbox := rfl
@[simp] theorem State.setOrt_syncInLevel (s : State) (id : Nat) (f : OrtEntry → OrtEntry) : (s.setOrt id f).syncInLevel = s.syncInLevel := rfl
@[simp] theorem State.setOrt_syncOutEnd (s : State) (id : Nat) (f : OrtEntry → OrtEntry) : (s.setOrt id f).syncOutEnd = s.syncOutEnd := rfl
@[simp] theorem State.setOrt_arrivals (s : State) (id : Nat) (f : OrtEntry → OrtEntry) : (s.setOrt id f).arrivals = s.arrivals := rfl
@[simp] theorem State.setOrt_choices (s : State) (id : Nat) (f : OrtEntry → OrtEntry) : (s.setOrt id f).choices = s.choices := rfl
@[simp] theorem State.setOrt_pending (s : State) (id : Nat) (f : OrtEntry → OrtEntry) : (s.setOrt id f).pending = s.pending := rfl

/-! ### setOrtState -/

@[simp] theorem State.setOrtState_time (s : State) (id : Nat) (st : OrtState) : (s.setOrtState id st).time = s.time := rfl
@[simp] theorem State.setOrtState_resetAsserted (s : State) (id : Nat) (st : OrtState) : (s.setOrtState id st).resetAsserted = s.resetAsserted := rfl
@[simp] theorem State.setOrtState_part (s : State) (id : Nat) (st : OrtState) : (s.setOrtState id st).part = s.part := rfl
@[simp] theorem State.setOrtState_haltCause (s : State) (id : Nat) (st : OrtState) : (s.setOrtState id st).haltCause = s.haltCause := rfl
@[simp] theorem State.setOrtState_ctrlEnable (s : State) (id : Nat) (st : OrtState) : (s.setOrtState id st).ctrlEnable = s.ctrlEnable := rfl
@[simp] theorem State.setOrtState_intEnable (s : State) (id : Nat) (st : OrtState) : (s.setOrtState id st).intEnable = s.intEnable := rfl
@[simp] theorem State.setOrtState_setupAddr (s : State) (id : Nat) (st : OrtState) : (s.setOrtState id st).setupAddr = s.setupAddr := rfl
@[simp] theorem State.setOrtState_reqTailReg (s : State) (id : Nat) (st : OrtState) : (s.setOrtState id st).reqTailReg = s.reqTailReg := rfl
@[simp] theorem State.setOrtState_cplHeadReg (s : State) (id : Nat) (st : OrtState) : (s.setOrtState id st).cplHeadReg = s.cplHeadReg := rfl
@[simp] theorem State.setOrtState_setup (s : State) (id : Nat) (st : OrtState) : (s.setOrtState id st).setup = s.setup := rfl
@[simp] theorem State.setOrtState_head (s : State) (id : Nat) (st : OrtState) : (s.setOrtState id st).head = s.head := rfl
@[simp] theorem State.setOrtState_tail (s : State) (id : Nat) (st : OrtState) : (s.setOrtState id st).tail = s.tail := rfl
@[simp] theorem State.setOrtState_cpl (s : State) (id : Nat) (st : OrtState) : (s.setOrtState id st).cpl = s.cpl := rfl
@[simp] theorem State.setOrtState_bus (s : State) (id : Nat) (st : OrtState) : (s.setOrtState id st).bus = s.bus := rfl
@[simp] theorem State.setOrtState_ports (s : State) (id : Nat) (st : OrtState) : (s.setOrtState id st).ports = s.ports := rfl
@[simp] theorem State.setOrtState_groups (s : State) (id : Nat) (st : OrtState) : (s.setOrtState id st).groups = s.groups := rfl
@[simp] theorem State.setOrtState_unitInbox (s : State) (id : Nat) (st : OrtState) : (s.setOrtState id st).unitInbox = s.unitInbox := rfl
@[simp] theorem State.setOrtState_syncInLevel (s : State) (id : Nat) (st : OrtState) : (s.setOrtState id st).syncInLevel = s.syncInLevel := rfl
@[simp] theorem State.setOrtState_syncOutEnd (s : State) (id : Nat) (st : OrtState) : (s.setOrtState id st).syncOutEnd = s.syncOutEnd := rfl
@[simp] theorem State.setOrtState_arrivals (s : State) (id : Nat) (st : OrtState) : (s.setOrtState id st).arrivals = s.arrivals := rfl
@[simp] theorem State.setOrtState_choices (s : State) (id : Nat) (st : OrtState) : (s.setOrtState id st).choices = s.choices := rfl
@[simp] theorem State.setOrtState_pending (s : State) (id : Nat) (st : OrtState) : (s.setOrtState id st).pending = s.pending := rfl

/-! ### endFlight -/

@[simp] theorem State.endFlight_time (s : State) : (s.endFlight).time = s.time := rfl
@[simp] theorem State.endFlight_resetAsserted (s : State) : (s.endFlight).resetAsserted = s.resetAsserted := rfl
@[simp] theorem State.endFlight_part (s : State) : (s.endFlight).part = s.part := rfl
@[simp] theorem State.endFlight_haltCause (s : State) : (s.endFlight).haltCause = s.haltCause := rfl
@[simp] theorem State.endFlight_ctrlEnable (s : State) : (s.endFlight).ctrlEnable = s.ctrlEnable := rfl
@[simp] theorem State.endFlight_intEnable (s : State) : (s.endFlight).intEnable = s.intEnable := rfl
@[simp] theorem State.endFlight_setupAddr (s : State) : (s.endFlight).setupAddr = s.setupAddr := rfl
@[simp] theorem State.endFlight_reqTailReg (s : State) : (s.endFlight).reqTailReg = s.reqTailReg := rfl
@[simp] theorem State.endFlight_cplHeadReg (s : State) : (s.endFlight).cplHeadReg = s.cplHeadReg := rfl
@[simp] theorem State.endFlight_setup (s : State) : (s.endFlight).setup = s.setup := rfl
@[simp] theorem State.endFlight_head (s : State) : (s.endFlight).head = s.head := rfl
@[simp] theorem State.endFlight_tail (s : State) : (s.endFlight).tail = s.tail := rfl
@[simp] theorem State.endFlight_ort (s : State) : (s.endFlight).ort = s.ort := rfl
@[simp] theorem State.endFlight_cpl (s : State) : (s.endFlight).cpl = s.cpl := rfl
@[simp] theorem State.endFlight_ports (s : State) : (s.endFlight).ports = s.ports := rfl
@[simp] theorem State.endFlight_groups (s : State) : (s.endFlight).groups = s.groups := rfl
@[simp] theorem State.endFlight_unitInbox (s : State) : (s.endFlight).unitInbox = s.unitInbox := rfl
@[simp] theorem State.endFlight_syncInLevel (s : State) : (s.endFlight).syncInLevel = s.syncInLevel := rfl
@[simp] theorem State.endFlight_syncOutEnd (s : State) : (s.endFlight).syncOutEnd = s.syncOutEnd := rfl
@[simp] theorem State.endFlight_arrivals (s : State) : (s.endFlight).arrivals = s.arrivals := rfl
@[simp] theorem State.endFlight_choices (s : State) : (s.endFlight).choices = s.choices := rfl
@[simp] theorem State.endFlight_pending (s : State) : (s.endFlight).pending = s.pending := rfl

/-! ### disown -/

@[simp] theorem State.disown_time (s : State) (of : Access → Option PortId) (p : PortId) : (s.disown of p).time = s.time := rfl
@[simp] theorem State.disown_resetAsserted (s : State) (of : Access → Option PortId) (p : PortId) : (s.disown of p).resetAsserted = s.resetAsserted := rfl
@[simp] theorem State.disown_part (s : State) (of : Access → Option PortId) (p : PortId) : (s.disown of p).part = s.part := rfl
@[simp] theorem State.disown_haltCause (s : State) (of : Access → Option PortId) (p : PortId) : (s.disown of p).haltCause = s.haltCause := rfl
@[simp] theorem State.disown_ctrlEnable (s : State) (of : Access → Option PortId) (p : PortId) : (s.disown of p).ctrlEnable = s.ctrlEnable := rfl
@[simp] theorem State.disown_intEnable (s : State) (of : Access → Option PortId) (p : PortId) : (s.disown of p).intEnable = s.intEnable := rfl
@[simp] theorem State.disown_setupAddr (s : State) (of : Access → Option PortId) (p : PortId) : (s.disown of p).setupAddr = s.setupAddr := rfl
@[simp] theorem State.disown_reqTailReg (s : State) (of : Access → Option PortId) (p : PortId) : (s.disown of p).reqTailReg = s.reqTailReg := rfl
@[simp] theorem State.disown_cplHeadReg (s : State) (of : Access → Option PortId) (p : PortId) : (s.disown of p).cplHeadReg = s.cplHeadReg := rfl
@[simp] theorem State.disown_setup (s : State) (of : Access → Option PortId) (p : PortId) : (s.disown of p).setup = s.setup := rfl
@[simp] theorem State.disown_head (s : State) (of : Access → Option PortId) (p : PortId) : (s.disown of p).head = s.head := rfl
@[simp] theorem State.disown_tail (s : State) (of : Access → Option PortId) (p : PortId) : (s.disown of p).tail = s.tail := rfl
@[simp] theorem State.disown_ort (s : State) (of : Access → Option PortId) (p : PortId) : (s.disown of p).ort = s.ort := rfl
@[simp] theorem State.disown_cpl (s : State) (of : Access → Option PortId) (p : PortId) : (s.disown of p).cpl = s.cpl := rfl
@[simp] theorem State.disown_ports (s : State) (of : Access → Option PortId) (p : PortId) : (s.disown of p).ports = s.ports := rfl
@[simp] theorem State.disown_groups (s : State) (of : Access → Option PortId) (p : PortId) : (s.disown of p).groups = s.groups := rfl
@[simp] theorem State.disown_unitInbox (s : State) (of : Access → Option PortId) (p : PortId) : (s.disown of p).unitInbox = s.unitInbox := rfl
@[simp] theorem State.disown_syncInLevel (s : State) (of : Access → Option PortId) (p : PortId) : (s.disown of p).syncInLevel = s.syncInLevel := rfl
@[simp] theorem State.disown_syncOutEnd (s : State) (of : Access → Option PortId) (p : PortId) : (s.disown of p).syncOutEnd = s.syncOutEnd := rfl
@[simp] theorem State.disown_arrivals (s : State) (of : Access → Option PortId) (p : PortId) : (s.disown of p).arrivals = s.arrivals := rfl
@[simp] theorem State.disown_choices (s : State) (of : Access → Option PortId) (p : PortId) : (s.disown of p).choices = s.choices := rfl
@[simp] theorem State.disown_pending (s : State) (of : Access → Option PortId) (p : PortId) : (s.disown of p).pending = s.pending := rfl

/-! ### unwantSample -/

@[simp] theorem State.unwantSample_time (s : State) (p : PortId) : (s.unwantSample p).time = s.time := rfl
@[simp] theorem State.unwantSample_resetAsserted (s : State) (p : PortId) : (s.unwantSample p).resetAsserted = s.resetAsserted := rfl
@[simp] theorem State.unwantSample_part (s : State) (p : PortId) : (s.unwantSample p).part = s.part := rfl
@[simp] theorem State.unwantSample_haltCause (s : State) (p : PortId) : (s.unwantSample p).haltCause = s.haltCause := rfl
@[simp] theorem State.unwantSample_ctrlEnable (s : State) (p : PortId) : (s.unwantSample p).ctrlEnable = s.ctrlEnable := rfl
@[simp] theorem State.unwantSample_intEnable (s : State) (p : PortId) : (s.unwantSample p).intEnable = s.intEnable := rfl
@[simp] theorem State.unwantSample_setupAddr (s : State) (p : PortId) : (s.unwantSample p).setupAddr = s.setupAddr := rfl
@[simp] theorem State.unwantSample_reqTailReg (s : State) (p : PortId) : (s.unwantSample p).reqTailReg = s.reqTailReg := rfl
@[simp] theorem State.unwantSample_cplHeadReg (s : State) (p : PortId) : (s.unwantSample p).cplHeadReg = s.cplHeadReg := rfl
@[simp] theorem State.unwantSample_setup (s : State) (p : PortId) : (s.unwantSample p).setup = s.setup := rfl
@[simp] theorem State.unwantSample_head (s : State) (p : PortId) : (s.unwantSample p).head = s.head := rfl
@[simp] theorem State.unwantSample_tail (s : State) (p : PortId) : (s.unwantSample p).tail = s.tail := rfl
@[simp] theorem State.unwantSample_ort (s : State) (p : PortId) : (s.unwantSample p).ort = s.ort := rfl
@[simp] theorem State.unwantSample_cpl (s : State) (p : PortId) : (s.unwantSample p).cpl = s.cpl := rfl
@[simp] theorem State.unwantSample_ports (s : State) (p : PortId) : (s.unwantSample p).ports = s.ports := rfl
@[simp] theorem State.unwantSample_groups (s : State) (p : PortId) : (s.unwantSample p).groups = s.groups := rfl
@[simp] theorem State.unwantSample_unitInbox (s : State) (p : PortId) : (s.unwantSample p).unitInbox = s.unitInbox := rfl
@[simp] theorem State.unwantSample_syncInLevel (s : State) (p : PortId) : (s.unwantSample p).syncInLevel = s.syncInLevel := rfl
@[simp] theorem State.unwantSample_syncOutEnd (s : State) (p : PortId) : (s.unwantSample p).syncOutEnd = s.syncOutEnd := rfl
@[simp] theorem State.unwantSample_arrivals (s : State) (p : PortId) : (s.unwantSample p).arrivals = s.arrivals := rfl
@[simp] theorem State.unwantSample_choices (s : State) (p : PortId) : (s.unwantSample p).choices = s.choices := rfl
@[simp] theorem State.unwantSample_pending (s : State) (p : PortId) : (s.unwantSample p).pending = s.pending := rfl

/-! ### leave -/

@[simp] theorem State.leave_time (s : State) (p : PortId) : (s.leave p).time = s.time := rfl
@[simp] theorem State.leave_resetAsserted (s : State) (p : PortId) : (s.leave p).resetAsserted = s.resetAsserted := rfl
@[simp] theorem State.leave_part (s : State) (p : PortId) : (s.leave p).part = s.part := rfl
@[simp] theorem State.leave_haltCause (s : State) (p : PortId) : (s.leave p).haltCause = s.haltCause := rfl
@[simp] theorem State.leave_ctrlEnable (s : State) (p : PortId) : (s.leave p).ctrlEnable = s.ctrlEnable := rfl
@[simp] theorem State.leave_intEnable (s : State) (p : PortId) : (s.leave p).intEnable = s.intEnable := rfl
@[simp] theorem State.leave_setupAddr (s : State) (p : PortId) : (s.leave p).setupAddr = s.setupAddr := rfl
@[simp] theorem State.leave_reqTailReg (s : State) (p : PortId) : (s.leave p).reqTailReg = s.reqTailReg := rfl
@[simp] theorem State.leave_cplHeadReg (s : State) (p : PortId) : (s.leave p).cplHeadReg = s.cplHeadReg := rfl
@[simp] theorem State.leave_setup (s : State) (p : PortId) : (s.leave p).setup = s.setup := rfl
@[simp] theorem State.leave_head (s : State) (p : PortId) : (s.leave p).head = s.head := rfl
@[simp] theorem State.leave_tail (s : State) (p : PortId) : (s.leave p).tail = s.tail := rfl
@[simp] theorem State.leave_ort (s : State) (p : PortId) : (s.leave p).ort = s.ort := rfl
@[simp] theorem State.leave_cpl (s : State) (p : PortId) : (s.leave p).cpl = s.cpl := rfl
@[simp] theorem State.leave_bus (s : State) (p : PortId) : (s.leave p).bus = s.bus := rfl
@[simp] theorem State.leave_unitInbox (s : State) (p : PortId) : (s.leave p).unitInbox = s.unitInbox := rfl
@[simp] theorem State.leave_syncInLevel (s : State) (p : PortId) : (s.leave p).syncInLevel = s.syncInLevel := rfl
@[simp] theorem State.leave_syncOutEnd (s : State) (p : PortId) : (s.leave p).syncOutEnd = s.syncOutEnd := rfl
@[simp] theorem State.leave_arrivals (s : State) (p : PortId) : (s.leave p).arrivals = s.arrivals := rfl
@[simp] theorem State.leave_choices (s : State) (p : PortId) : (s.leave p).choices = s.choices := rfl
@[simp] theorem State.leave_pending (s : State) (p : PortId) : (s.leave p).pending = s.pending := rfl

/-! ### chosen -/

@[simp] theorem State.chosen_time (s : State) : (s.chosen).time = s.time := rfl
@[simp] theorem State.chosen_resetAsserted (s : State) : (s.chosen).resetAsserted = s.resetAsserted := rfl
@[simp] theorem State.chosen_part (s : State) : (s.chosen).part = s.part := rfl
@[simp] theorem State.chosen_haltCause (s : State) : (s.chosen).haltCause = s.haltCause := rfl
@[simp] theorem State.chosen_ctrlEnable (s : State) : (s.chosen).ctrlEnable = s.ctrlEnable := rfl
@[simp] theorem State.chosen_intEnable (s : State) : (s.chosen).intEnable = s.intEnable := rfl
@[simp] theorem State.chosen_setupAddr (s : State) : (s.chosen).setupAddr = s.setupAddr := rfl
@[simp] theorem State.chosen_reqTailReg (s : State) : (s.chosen).reqTailReg = s.reqTailReg := rfl
@[simp] theorem State.chosen_cplHeadReg (s : State) : (s.chosen).cplHeadReg = s.cplHeadReg := rfl
@[simp] theorem State.chosen_setup (s : State) : (s.chosen).setup = s.setup := rfl
@[simp] theorem State.chosen_head (s : State) : (s.chosen).head = s.head := rfl
@[simp] theorem State.chosen_tail (s : State) : (s.chosen).tail = s.tail := rfl
@[simp] theorem State.chosen_ort (s : State) : (s.chosen).ort = s.ort := rfl
@[simp] theorem State.chosen_cpl (s : State) : (s.chosen).cpl = s.cpl := rfl
@[simp] theorem State.chosen_bus (s : State) : (s.chosen).bus = s.bus := rfl
@[simp] theorem State.chosen_ports (s : State) : (s.chosen).ports = s.ports := rfl
@[simp] theorem State.chosen_groups (s : State) : (s.chosen).groups = s.groups := rfl
@[simp] theorem State.chosen_unitInbox (s : State) : (s.chosen).unitInbox = s.unitInbox := rfl
@[simp] theorem State.chosen_syncInLevel (s : State) : (s.chosen).syncInLevel = s.syncInLevel := rfl
@[simp] theorem State.chosen_syncOutEnd (s : State) : (s.chosen).syncOutEnd = s.syncOutEnd := rfl
@[simp] theorem State.chosen_arrivals (s : State) : (s.chosen).arrivals = s.arrivals := rfl
@[simp] theorem State.chosen_pending (s : State) : (s.chosen).pending = s.pending := rfl

/-! ### Ports and groups after an update -/

@[simp] theorem State.port_modPort_self (s : State) (p : PortId) (f : Port → Port) :
    (s.modPort p f).port p = f (s.port p) := by
  simp [State.modPort, State.port]

theorem State.port_modPort_ne (s : State) {p q : PortId} (h : q ≠ p) (f : Port → Port) :
    (s.modPort p f).port q = s.port q := by
  simp [State.modPort, State.port, Fin.val_ne_of_ne (Ne.symm h)]

@[simp] theorem State.group_modGroup_self (s : State) (g : GroupId) (f : Group → Group) :
    (s.modGroup g f).group g = f (s.group g) := by
  simp [State.modGroup, State.group]

theorem State.group_modGroup_ne (s : State) {g k : GroupId} (h : k ≠ g) (f : Group → Group) :
    (s.modGroup g f).group k = s.group k := by
  simp [State.modGroup, State.group, Fin.val_ne_of_ne (Ne.symm h)]

/-- The ports of two states with one `ports` field. -/
theorem State.port_congr {s t : State} (h : t.ports = s.ports) (q : PortId) : t.port q = s.port q := by
  simp [State.port, h]

/-- The groups of two states with one `groups` field. -/
theorem State.group_congr {s t : State} (h : t.groups = s.groups) (g : GroupId) : t.group g = s.group g := by
  simp [State.group, h]

@[simp] theorem State.group_modPort (s : State) (p : PortId) (f : Port → Port) (k : GroupId) : (s.modPort p f).group k = s.group k := rfl
@[simp] theorem State.group_modLf (s : State) (p : PortId) (f : Framer → Framer) (k : GroupId) : (s.modLf p f).group k = s.group k := rfl
@[simp] theorem State.group_modSeq (s : State) (p : PortId) (f : Sequencer → Sequencer) (k : GroupId) : (s.modSeq p f).group k = s.group k := rfl
@[simp] theorem State.group_modCyc (s : State) (p : PortId) (f : CycleEngine → CycleEngine) (k : GroupId) : (s.modCyc p f).group k = s.group k := rfl
@[simp] theorem State.group_modTe (s : State) (p : PortId) (f : TransferEngine → TransferEngine) (k : GroupId) : (s.modTe p f).group k = s.group k := rfl
@[simp] theorem State.group_modCounters (s : State) (p : PortId) (f : Counters → Counters) (k : GroupId) : (s.modCounters p f).group k = s.group k := rfl
@[simp] theorem State.group_setPortState (s : State) (p : PortId) (st : PortState) (k : GroupId) : (s.setPortState p st).group k = s.group k := rfl
@[simp] theorem State.group_setNext (s : State) (p : PortId) (n : Option Word) (k : GroupId) : (s.setNext p n).group k = s.group k := rfl
@[simp] theorem State.port_modGroup (s : State) (g : GroupId) (f : Group → Group) (q : PortId) : (s.modGroup g f).port q = s.port q := rfl
@[simp] theorem State.port_modCpl (s : State) (f : CompletionWriter → CompletionWriter) (q : PortId) : (s.modCpl f).port q = s.port q := rfl
@[simp] theorem State.group_modCpl (s : State) (f : CompletionWriter → CompletionWriter) (k : GroupId) : (s.modCpl f).group k = s.group k := rfl
@[simp] theorem State.port_modBus (s : State) (f : Bus → Bus) (q : PortId) : (s.modBus f).port q = s.port q := rfl
@[simp] theorem State.group_modBus (s : State) (f : Bus → Bus) (k : GroupId) : (s.modBus f).group k = s.group k := rfl
@[simp] theorem State.port_setOrt (s : State) (id : Nat) (f : OrtEntry → OrtEntry) (q : PortId) : (s.setOrt id f).port q = s.port q := rfl
@[simp] theorem State.group_setOrt (s : State) (id : Nat) (f : OrtEntry → OrtEntry) (k : GroupId) : (s.setOrt id f).group k = s.group k := rfl
@[simp] theorem State.port_setOrtState (s : State) (id : Nat) (st : OrtState) (q : PortId) : (s.setOrtState id st).port q = s.port q := rfl
@[simp] theorem State.group_setOrtState (s : State) (id : Nat) (st : OrtState) (k : GroupId) : (s.setOrtState id st).group k = s.group k := rfl
@[simp] theorem State.port_endFlight (s : State) (q : PortId) : (s.endFlight).port q = s.port q := rfl
@[simp] theorem State.group_endFlight (s : State) (k : GroupId) : (s.endFlight).group k = s.group k := rfl
@[simp] theorem State.port_disown (s : State) (of : Access → Option PortId) (p : PortId) (q : PortId) : (s.disown of p).port q = s.port q := rfl
@[simp] theorem State.group_disown (s : State) (of : Access → Option PortId) (p : PortId) (k : GroupId) : (s.disown of p).group k = s.group k := rfl
@[simp] theorem State.port_unwantSample (s : State) (p : PortId) (q : PortId) : (s.unwantSample p).port q = s.port q := rfl
@[simp] theorem State.group_unwantSample (s : State) (p : PortId) (k : GroupId) : (s.unwantSample p).group k = s.group k := rfl
@[simp] theorem State.port_chosen (s : State) (q : PortId) : (s.chosen).port q = s.port q := rfl
@[simp] theorem State.group_chosen (s : State) (k : GroupId) : (s.chosen).group k = s.group k := rfl

/-! ### Parts of a port after an update of that port -/

@[simp] theorem State.port_modLf_self (s : State) (p : PortId) (f : Framer → Framer) :
    (s.modLf p f).port p = { s.port p with lf := f (s.port p).lf } := by
  simp [State.modLf]

@[simp] theorem State.port_modSeq_self (s : State) (p : PortId) (f : Sequencer → Sequencer) :
    (s.modSeq p f).port p = { s.port p with seq := f (s.port p).seq } := by
  simp [State.modSeq]

@[simp] theorem State.port_modCyc_self (s : State) (p : PortId) (f : CycleEngine → CycleEngine) :
    (s.modCyc p f).port p = { s.port p with cyc := f (s.port p).cyc } := by
  simp [State.modCyc]

@[simp] theorem State.port_modTe_self (s : State) (p : PortId) (f : TransferEngine → TransferEngine) :
    (s.modTe p f).port p = { s.port p with te := f (s.port p).te } := by
  simp [State.modTe]

@[simp] theorem State.port_modCounters_self (s : State) (p : PortId) (f : Counters → Counters) :
    (s.modCounters p f).port p = { s.port p with counters := f (s.port p).counters } := by
  simp [State.modCounters]

@[simp] theorem State.port_setPortState_self (s : State) (p : PortId) (st : PortState) :
    (s.setPortState p st).port p = { s.port p with state := st } := by
  simp [State.setPortState]

/-! ### The Line Framer -/

@[simp] theorem Framer.stretch_state (f : Framer) (r : Bool) (t : Nat) : (f.stretch r t).state = f.state := by
  cases r <;> rfl
@[simp] theorem Framer.stretch_held (f : Framer) (r : Bool) (t : Nat) : (f.stretch r t).held = f.held := by
  cases r <;> rfl
@[simp] theorem Framer.stretch_flight (f : Framer) (r : Bool) (t : Nat) : (f.stretch r t).flight = f.flight := by
  cases r <;> rfl
@[simp] theorem Framer.stretch_txen (f : Framer) (r : Bool) (t : Nat) : (f.stretch r t).txen = f.txen := by
  cases r <;> rfl
@[simp] theorem Framer.stretch_waitSince (f : Framer) (r : Bool) (t : Nat) : (f.stretch r t).waitSince = f.waitSince := by
  cases r <;> rfl
@[simp] theorem Framer.stretch_timer (f : Framer) (r : Bool) (t : Nat) : (f.stretch r t).timer = f.timer := by
  cases r <;> rfl
@[simp] theorem Framer.stretch_rx (f : Framer) (r : Bool) (t : Nat) : (f.stretch r t).rx = f.rx := by
  cases r <;> rfl
@[simp] theorem Framer.stretch_candidate (f : Framer) (r : Bool) (t : Nat) : (f.stretch r t).candidate = f.candidate := by
  cases r <;> rfl
@[simp] theorem Framer.change_state (f : Framer) (r : Bool) (t : Nat) : (f.change r t).state = f.state := by
  cases r <;> rfl
@[simp] theorem Framer.change_held (f : Framer) (r : Bool) (t : Nat) : (f.change r t).held = f.held := by
  cases r <;> rfl
@[simp] theorem Framer.change_flight (f : Framer) (r : Bool) (t : Nat) : (f.change r t).flight = f.flight := by
  cases r <;> rfl
@[simp] theorem Framer.change_txen (f : Framer) (r : Bool) (t : Nat) : (f.change r t).txen = f.txen := by
  cases r <;> rfl
@[simp] theorem Framer.change_waitSince (f : Framer) (r : Bool) (t : Nat) : (f.change r t).waitSince = f.waitSince := by
  cases r <;> rfl
@[simp] theorem Framer.change_timer (f : Framer) (r : Bool) (t : Nat) : (f.change r t).timer = f.timer := by
  cases r <;> rfl
@[simp] theorem Framer.change_rx (f : Framer) (r : Bool) (t : Nat) : (f.change r t).rx = f.rx := by
  cases r <;> rfl
@[simp] theorem Framer.toGuard_held (f : Framer) (sp : Speed) (t : Nat) : (f.toGuard sp t).held = f.held := rfl
@[simp] theorem Framer.toGuard_flight (f : Framer) (sp : Speed) (t : Nat) : (f.toGuard sp t).flight = f.flight := rfl
@[simp] theorem Framer.toGuard_recessiveSince (f : Framer) (sp : Speed) (t : Nat) : (f.toGuard sp t).recessiveSince = f.recessiveSince := rfl
@[simp] theorem Framer.toGuard_dominantSince (f : Framer) (sp : Speed) (t : Nat) : (f.toGuard sp t).dominantSince = f.dominantSince := rfl
@[simp] theorem Framer.toGuard_waitSince (f : Framer) (sp : Speed) (t : Nat) : (f.toGuard sp t).waitSince = f.waitSince := rfl

end Sys2Proof.Machine
end

