-- ==== Sys2Proof/Laws/Frames.lean ====
section
/-! SUPPORT. What every operation of a port leaves as it was: part control, the other ports, and that the Event Pending List
keeps its entries apart. Each lemma carries a frame back through one operation, so a frame of a composition is the chain of
its operations' lemmas. -/

namespace Sys2Proof.Machine

/-- From `s` to `t` only port `p`, groups, tables and lists may have changed; the number of table entries has not. -/
structure At (p : PortId) (s t : State) : Prop where
  control : t.control = s.control
  others : OthersKept p s t
  events : s.EventsDistinct → t.EventsDistinct

variable {p : PortId} {s t : State}

theorem At.refl (p : PortId) (s : State) : At p s s := ⟨rfl, fun _ _ => rfl, id⟩

theorem At.onlyPort (h : At p s t) : OnlyPort p s t := ⟨h.control, h.others⟩

/-- An update that leaves part control, every port and the Event Pending List as they were. -/
theorem At.of_kept {u : State} (h : At p s t) (hc : u.control = t.control) (hp : u.ports = t.ports)
    (he : u.cpl.events = t.cpl.events) : At p s u :=
  ⟨hc.trans h.control, fun q hq => (State.port_congr hp q).trans (h.others q hq),
   fun hs => by have := h.events hs; simpa [State.EventsDistinct, he] using this⟩

/-! ### Updates -/

theorem modPort_at (h : At p s t) (f : Port → Port) : At p s (t.modPort p f) :=
  ⟨h.control, fun q hq => (State.port_modPort_ne t hq f).trans (h.others q hq), h.events⟩

theorem modLf_at (h : At p s t) (f : Framer → Framer) : At p s (t.modLf p f) := modPort_at h _

theorem modSeq_at (h : At p s t) (f : Sequencer → Sequencer) : At p s (t.modSeq p f) := modPort_at h _

theorem modCyc_at (h : At p s t) (f : CycleEngine → CycleEngine) : At p s (t.modCyc p f) := modPort_at h _

theorem modTe_at (h : At p s t) (f : TransferEngine → TransferEngine) : At p s (t.modTe p f) := modPort_at h _

theorem modCounters_at (h : At p s t) (f : Counters → Counters) : At p s (t.modCounters p f) := modPort_at h _

theorem setPortState_at (h : At p s t) (st : PortState) : At p s (t.setPortState p st) := modPort_at h _

theorem modGroup_at (h : At p s t) (g : GroupId) (f : Group → Group) : At p s (t.modGroup g f) :=
  h.of_kept rfl rfl rfl

theorem setOrt_at (h : At p s t) (id : Nat) (f : OrtEntry → OrtEntry) : At p s (t.setOrt id f) :=
  h.of_kept (by simp [State.control, State.setOrt]) rfl rfl

theorem setOrtState_at (h : At p s t) (id : Nat) (st : OrtState) : At p s (t.setOrtState id st) := setOrt_at h _ _

theorem endFlight_at (h : At p s t) : At p s t.endFlight := h.of_kept rfl rfl rfl

theorem disown_at (h : At p s t) (of : Access → Option PortId) (q : PortId) : At p s (t.disown of q) :=
  h.of_kept rfl rfl rfl

theorem unwantSample_at (h : At p s t) (q : PortId) : At p s (t.unwantSample q) := h.of_kept rfl rfl rfl

theorem leave_at (h : At p s t) : At p s (t.leave p) :=
  modPort_at (h.of_kept (u := { t with groups := t.groups.map (Group.without p) }) rfl rfl rfl) _

theorem setNext_at (h : At p s t) (n : Option Word) : At p s (t.setNext p n) := modPort_at h _

theorem foldl_at {α : Type} (f : State → α → State) (hf : ∀ a u, At p s u → At p s (f u a)) (l : List α) (h : At p s t) :
    At p s (l.foldl f t) := by
  induction l generalizing t with
  | nil => exact h
  | cons a l ih => exact ih (hf a t h)

/-! ### The Completion Writer -/

theorem complete_at (h : At p s t) (id : Nat) (st : Status) (r : Word) : At p s (t.complete id st r) := by
  unfold State.complete
  split
  · exact h
  · split
    · exact h
    · exact h.of_kept (by simp [State.control, State.setOrtState, State.setOrt]) rfl rfl

theorem handOver_at (h : At p s t) (id : Nat) (st : Status) (r : Word) : At p s (t.handOver id st r) := by
  refine foldl_at _ (fun e u hu => complete_at hu _ _ _) _ ?_
  exact (complete_at h id st r).of_kept (by simp [State.control]) rfl rfl

theorem handAll_at (h : At p s t) (ids : List Nat) (st : Status) : At p s (t.handAll ids st) :=
  foldl_at _ (fun _ _ hu => handOver_at hu _ _ _) _ h

/-- A further occurrence leaves an entry's port and kind as they were. -/
theorem Event.again_key (e : Event) (d : Word) : (e.again d).port = e.port ∧ (e.again d).kind = e.kind := ⟨rfl, rfl⟩

/-- A post keeps the entries of the Event Pending List apart (R149, R150). -/
theorem post_events (t : State) (q : PortId) (k : EventKind) (d : Word) (h : t.EventsDistinct) :
    (t.post q k d).EventsDistinct := by
  unfold State.post
  split
  · simp only [State.EventsDistinct, State.modCpl, List.pairwise_map]
    refine h.imp ?_
    intro a b hab
    split <;> split <;> simpa [Event.again] using hab
  · rename_i hn
    simp only [State.EventsDistinct, List.pairwise_append, List.pairwise_cons, List.Pairwise.nil, List.mem_singleton,
      forall_eq]
    refine ⟨h, by simp, fun a ha hk => hn ?_⟩
    exact List.any_eq_true.mpr ⟨a, ha, by simpa using hk⟩

theorem post_control (t : State) (q : PortId) (k : EventKind) (d : Word) : (t.post q k d).control = t.control := by
  unfold State.post
  split <;> rfl

theorem post_ports (t : State) (q : PortId) (k : EventKind) (d : Word) : (t.post q k d).ports = t.ports := by
  unfold State.post
  split <;> rfl

theorem post_at (h : At p s t) (q : PortId) (k : EventKind) (d : Word) : At p s (t.post q k d) :=
  ⟨(post_control t q k d).trans h.control,
   fun r hr => (State.port_congr (post_ports t q k d) r).trans (h.others r hr), fun hs => post_events t q k d (h.events hs)⟩

end Sys2Proof.Machine
end

