-- ==== Sys2Proof/Laws/PortFrames.lean ====
section
/-! SUPPORT. The frames of the operations the engines of a port share: each touches one port at most. -/

namespace Sys2Proof.Machine

variable {p : PortId} {s t : State}

theorem ite_at {c : Prop} [Decidable c] {a b : State} (ha : At p s a) (hb : At p s b) :
    At p s (if c then a else b) := by
  split
  · exact ha
  · exact hb

/-! ### Line, schedule, sample, sequencer -/

theorem handToLine_at (h : At p s t) (x : Handed) : At p s (t.handToLine p x) := modLf_at h _

theorem discardSample_at (h : At p s t) : At p s (t.discardSample p) := unwantSample_at (modCyc_at h _) _

theorem toReady_at (h : At p s t) : At p s (t.toReady p) := modPort_at (discardSample_at (leave_at h)) _

theorem startSequence_at (h : At p s t) (m : SeqMode) : At p s (t.startSequence p m) := modSeq_at h _

theorem stopSequence_at (h : At p s t) : At p s (t.stopSequence p) := modSeq_at h _

/-! ### The queue and the active transfer -/

theorem clearTransfer_at (h : At p s t) : At p s (t.clearTransfer p) := modPort_at h _

theorem endActive_at (h : At p s t) (st : Status) (r : Word) : At p s (t.endActive p st r) := by
  unfold State.endActive
  split
  · exact h
  · exact handOver_at (modPort_at (clearTransfer_at h) _) _ _ _

theorem deferActive_at (h : At p s t) (e : Ending) : At p s (t.deferActive p e) := by
  unfold State.deferActive
  split
  · exact h
  · exact disown_at (modPort_at (clearTransfer_at h) _) _ _

theorem returnActive_at (h : At p s t) : At p s (t.returnActive p) := by
  unfold State.returnActive
  split
  · exact h
  · exact disown_at (setOrtState_at (clearTransfer_at h) _ _) _ _

theorem endTransfer_at (h : At p s t) (st : Status) (r : Word) : At p s (t.endTransfer p st r) :=
  ite_at (deferActive_at h _) (endActive_at h _ _)

theorem endAbandoned_at (h : At p s t) : At p s (t.endAbandoned p) := by
  unfold State.endAbandoned
  split
  · exact h
  · exact endActive_at h _ _

theorem stopActive_at (h : At p s t) (b i : Bool) : At p s (t.stopActive p b i) := by
  unfold State.stopActive
  dsimp only
  split
  · exact ite_at (ite_at (deferActive_at h _) (endAbandoned_at (disown_at h _ _))) (endTransfer_at h _ _)
  · refine ite_at (endTransfer_at h _ _) (ite_at (deferActive_at ?_ _) (returnActive_at h))
    cases (t.port p).te.transfer with
    | none => exact h
    | some a => exact setOrtState_at h a.ort .queued

theorem handQueue_at (h : At p s t) (st : Status) : At p s (t.handQueue p st) := handAll_at (modPort_at h _) _ _

theorem handEnded_at (h : At p s t) (x : Bool) : At p s (t.handEnded p x) := by
  refine foldl_at _ (fun e u hu => ?_) _ (modPort_at h _)
  split
  · exact handOver_at hu _ _ _
  · exact hu

theorem accessEnded_at (h : At p s t) : At p s (t.accessEnded p) :=
  foldl_at _ (fun _ _ hu => handOver_at hu _ _ _) _ (modPort_at (handEnded_at h _) _)

theorem formerEnded_at (h : At p s t) : At p s (t.formerEnded p) := accessEnded_at (modPort_at h _)

/-! ### Misses, the end of a link, the end of a port's requests -/

theorem goodExchange_at (h : At p s t) : At p s (t.goodExchange p) := ite_at (modCounters_at h _) h

theorem countFailure_at (h : At p s t) (c : Cause) : At p s (t.countFailure p c) := modCounters_at h _

theorem endSlot_at (h : At p s t) (of : ControlKind → Status) (r : Word) : At p s (t.endSlot p of r) := by
  unfold State.endSlot
  split
  · exact h
  · exact handOver_at (modPort_at h _) _ _ _

theorem linkEnd_at (h : At p s t) (c : Cause) : At p s (t.linkEnd p c) :=
  have h₁ := modCounters_at (post_at (modPort_at h _) p .linkLost _) _
  have h₂ := discardSample_at (ite_at (modPort_at (setPortState_at h₁ _) _) (startSequence_at (setPortState_at h₁ _) _))
  have h₃ := stopActive_at (endSlot_at (ite_at h₂ (leave_at h₂)) _ _) _ _
  ite_at (handQueue_at h₃ _) h₃

theorem miss_at (h : At p s t) (c : Cause) : At p s (t.miss p c) :=
  ite_at (ite_at (linkEnd_at h c) (modCounters_at h _)) h

theorem endRequests_at (h : At p s t) (st : Status) : At p s (t.endRequests p st) :=
  handAll_at (disown_at (disown_at (modPort_at h _) _ _) _ _) _ _

theorem enterFault_at (h : At p s t) (c : FaultCause) : At p s (t.enterFault p c) :=
  ite_at h (modPort_at (stopSequence_at (endRequests_at (leave_at (post_at h _ _ _)) _)) _)

theorem attend_at (h : At p s t) (a : Bool) (d : Word) : At p s (t.attend p a d) :=
  have h₁ := modCounters_at h _
  ite_at (post_at h₁ _ _ _) h₁

/-! ### The Bring-up Sequencer -/

theorem handIdentify_at (h : At p s t) : At p s (t.handIdentify p) := modSeq_at (handToLine_at h _) _

theorem beginAttempt_at (h : At p s t) : At p s (t.beginAttempt p) := handToLine_at (modSeq_at h _) _

theorem idleWithoutLink_at (h : At p s t) : At p s (t.idleWithoutLink p) := stopSequence_at (modPort_at h _)

theorem abortSequence_at (h : At p s t) : At p s (t.abortSequence p) :=
  handQueue_at (endSlot_at (idleWithoutLink_at h) _ _) _

theorem failSequence_at (h : At p s t) (n : Nat) : At p s (t.failSequence p n) := by
  unfold State.failSequence
  split
  · exact handQueue_at (endSlot_at (idleWithoutLink_at h) _ _) _
  · exact handQueue_at (idleWithoutLink_at (modPort_at (leave_at (post_at h _ _ _)) _)) _

theorem linkMade_at (h : At p s t) (l : Link) (st : PortState) : At p s (t.linkMade p l st) :=
  stopSequence_at (modPort_at h _)

theorem succeedSequence_at (h : At p s t) (d : Descriptor) : At p s (t.succeedSequence p d) := by
  unfold State.succeedSequence
  dsimp only
  split
  · exact endSlot_at (linkMade_at h _ _) _ _
  · have h₁ := post_at (linkMade_at h ⟨d, (t.port p).seq.rungSpeed⟩ .ready) p .linkRestored
    exact ite_at (modPort_at (post_at (linkMade_at h _ _) _ _ _) _) (ite_at (modPort_at (leave_at (h₁ _)) _) (h₁ _))

theorem identifyOutcome_at (h : At p s t) (o : Outcome) : At p s (t.identifyOutcome p o) := by
  refine ite_at h (ite_at (abortSequence_at h) ?_)
  split
  · dsimp only
    split
    · exact failSequence_at h _
    · exact succeedSequence_at h _
  · exact ite_at (handIdentify_at (modSeq_at h _)) (ite_at (modSeq_at h _) (failSequence_at h _))

theorem abortBringUp_at (h : At p s t) : At p s (t.abortBringUp p) := by
  unfold State.abortBringUp
  dsimp only
  split
  · exact abortSequence_at h
  · exact ite_at (abortSequence_at h) (modSeq_at h _)
  · exact modSeq_at h _
  · exact modSeq_at h _
  · exact h

/-! ### The Cycle Engine -/

theorem beginSample_at (h : At p s t) : At p s (t.beginSample p) := by
  unfold State.beginSample
  exact modCyc_at (discardSample_at h) _

theorem countJudgement_at (h : At p s t) (j : Option StaleCause) : At p s (t.countJudgement p j) := by
  unfold State.countJudgement
  split
  · exact modCounters_at h _
  · exact ite_at (post_at (modCounters_at h _) _ _ _) (modCounters_at h _)

theorem finishStop_at (h : At p s t) : At p s (t.finishStop p) := by
  have h₁ : At p s ((t.toReady p).modPort p fun x => { x with slot := none }) := modPort_at (toReady_at h) _
  unfold State.finishStop
  dsimp only
  split
  · exact handOver_at h₁ _ _ _
  · exact h₁

theorem cycleEnds_at (h : At p s t) : At p s (t.cycleEnds p) := ite_at (finishStop_at h) h

theorem runCycle_at (h : At p s t) (n : Word) : At p s (t.runCycle p n) := by
  have h₁ := countJudgement_at h (judgeSample (t.port p).cyc.lastGen (t.port p).cyc.sample)
  have h₂ := discardSample_at (ite_at (c := (judgeSample (t.port p).cyc.lastGen (t.port p).cyc.sample).isNone = true)
    (modCyc_at h₁ CycleEngine.accept) h₁)
  unfold State.runCycle
  dsimp only
  split
  · exact modCyc_at (handToLine_at h₂ _) _
  · exact cycleEnds_at h₂

theorem slip_at (h : At p s t) : At p s (t.slip p) :=
  cycleEnds_at (post_at (modCounters_at (discardSample_at h) _) _ _ _)

theorem cycleAtStart_at (h : At p s t) (n : Word) : At p s (t.cycleAtStart p n) :=
  ite_at (runCycle_at h n) (ite_at (modCyc_at h _) (slip_at h))

theorem emptyImageList_at (h : At p s t) : At p s (t.emptyImageList p) := unwantSample_at (modCyc_at h _) _

theorem imageFaultReady_at (h : At p s t) : At p s (t.imageFaultReady p) :=
  endSlot_at (toReady_at (modCyc_at h _)) _ _

theorem imageFault_at (h : At p s t) (a : Word) : At p s (t.imageFault p a) := by
  have h₁ := emptyImageList_at (post_at h p .imageFault a)
  unfold State.imageFault
  dsimp only
  split
  · exact imageFaultReady_at h₁
  · exact ite_at (imageFaultReady_at h₁) (modCyc_at h₁ _)
  · exact modPort_at (leave_at h₁) _
  all_goals exact h₁

theorem afterCycle_at (h : At p s t) : At p s (t.afterCycle p) :=
  ite_at (imageFaultReady_at h) (cycleEnds_at h)

theorem cycleOutcome_at (h : At p s t) (f : Frame) (o : Outcome) : At p s (t.cycleOutcome p f o) := by
  have h₁ : At p s (t.modCyc p fun c => { c with underWay := none }) := modCyc_at h _
  unfold State.cycleOutcome
  dsimp only
  split
  · have h₂ := attend_at h₁
    exact afterCycle_at (goodExchange_at (ite_at (modCyc_at (h₂ _ _) _) (h₂ _ _)))
  · exact ite_at (miss_at h₁ _) (afterCycle_at (miss_at h₁ _))

/-! ### The Transfer Engine -/

theorem claimFetch_at (h : At p s t) (x : Transfer) : At p s (t.claimFetch p x) := modPort_at h _

theorem activate_at (h : At p s t) (x : Transfer) : At p s (t.activate p x) := by
  have h₁ : At p s ((t.modTe p fun te => { TransferEngine.reset with
      lastToggle := te.lastToggle, phase := .sendWait, transfer := some x }).setOrtState x.ort .active) :=
    setOrtState_at (modTe_at h _) _ _
  exact ite_at (endActive_at h₁ _ _) (ite_at (claimFetch_at h₁ _) (modTe_at h₁ _))

theorem abandonNow_at (h : At p s t) : At p s (t.abandonNow p) := modPort_at h _

theorem abandonFor_at (h : At p s t) (c : AbandonCause) : At p s (t.abandonFor p c) :=
  ite_at (abandonNow_at (modTe_at h _)) (endAbandoned_at (modTe_at h _))

theorem sendSegment_at (h : At p s t) (g : Segment) : At p s (t.sendSegment p g) := by
  unfold State.sendSegment
  exact modTe_at (handToLine_at h _) _

theorem busyReply_at (h : At p s t) (f : TransferEngine → TransferEngine) : At p s (t.busyReply p f) :=
  ite_at (endActive_at (modTe_at h _) _ _) (modTe_at (modTe_at h _) _)

theorem writeAccepted_at (h : At p s t) (x : Transfer) (g : Segment) : At p s (t.writeAccepted p x g) :=
  ite_at (endActive_at (modTe_at h _) _ _) (claimFetch_at (modTe_at h _) _)

theorem readAccepted_at (h : At p s t) (x : Transfer) (l : List Byte) (b : Bool) :
    At p s (t.readAccepted p x l b) :=
  have h₁ := modTe_at h _
  ite_at (abandonFor_at h₁ _) (ite_at (ite_at (endActive_at h₁ _ _) (busyReply_at h₁ _)) (modPort_at h₁ _))

theorem segmentReply_at (h : At p s t) (x : Transfer) (g : Segment) (l : List Byte) :
    At p s (t.segmentReply p x g l) := by
  unfold State.segmentReply
  dsimp only
  split
  · exact endActive_at h _ _
  · exact busyReply_at h _
  · exact ite_at (writeAccepted_at h _ _) (readAccepted_at h _ _ _)

theorem segmentReplyAbandoned_at (h : At p s t) (g : Segment) (l : List Byte) :
    At p s (t.segmentReplyAbandoned p g l) := ite_at (endAbandoned_at h) (abandonNow_at h)

theorem segmentFailed_at (h : At p s t) : At p s (t.segmentFailed p) :=
  ite_at (abandonNow_at h) (ite_at (modTe_at (modTe_at h _) _) (abandonFor_at (modTe_at h _) _))

theorem segmentOutcome_at (h : At p s t) (o : Outcome) : At p s (t.segmentOutcome p o) := by
  unfold State.segmentOutcome
  split
  · split
    · have h₁ := attend_at (goodExchange_at h)
      exact ite_at (segmentReplyAbandoned_at (h₁ _ _) _ _) (segmentReply_at (h₁ _ _) _ _ _)
    · exact ite_at (miss_at h _) (segmentFailed_at (miss_at h _))
  · exact h

theorem abandonOutcome_at (h : At p s t) (o : Outcome) : At p s (t.abandonOutcome p o) := by
  unfold State.abandonOutcome
  split
  · exact endAbandoned_at (goodExchange_at h)
  · exact ite_at (miss_at h _) (endAbandoned_at (miss_at h _))

theorem transferOutcome_at (h : At p s t) (f : Frame) (o : Outcome) : At p s (t.transferOutcome p f o) := by
  unfold State.transferOutcome
  split
  · exact segmentOutcome_at h o
  · exact abandonOutcome_at h o
  · exact handEnded_at h _
  · exact h

theorem fetchEnded_at (h : At p s t) (d : Option ReadData) : At p s (t.fetchEnded p d) := by
  unfold State.fetchEnded
  dsimp only
  split
  · exact h
  · refine ite_at (ite_at (abandonNow_at h) (endAbandoned_at h)) ?_
    split
    · exact abandonFor_at h _
    · exact modTe_at h _

theorem storeEnded_at (h : At p s t) (ok : Bool) : At p s (t.storeEnded p ok) := by
  unfold State.storeEnded
  dsimp only
  split
  · exact ite_at (abandonNow_at h) (ite_at (abandonFor_at h _)
      (ite_at (endActive_at (modTe_at h _) _ _) (modTe_at (modTe_at h _) _)))
  · exact h

theorem abortActive_at (h : At p s t) : At p s (t.abortActive p) :=
  have h₁ := modTe_at h _
  ite_at h (ite_at h₁ (ite_at (abandonNow_at h₁) (endAbandoned_at h₁)))

theorem abortTransfer_at (h : At p s t) (id : Nat) : At p s (t.abortTransfer p id) :=
  ite_at (abortActive_at h) (ite_at (handOver_at (modPort_at h _) _ _ _) h)

/-! ### The Line Framer -/

theorem deliver_at (h : At p s t) (f : Frame) (o : Outcome) : At p s (t.deliver p f o) := by
  have h₁ : At p s (match o with
      | .failed c => t.countFailure p c
      | .ok _ => t) := by
    split
    · exact countFailure_at h _
    · exact h
  unfold State.deliver
  dsimp only
  split
  · exact identifyOutcome_at h₁ o
  · exact cycleOutcome_at h₁ f o
  · exact transferOutcome_at h₁ f o

theorem endExchange_at (h : At p s t) (f : Frame) (o : Outcome) (n : Nat) : At p s (t.endExchange p f o n) :=
  deliver_at (modLf_at h _) f o

theorem assertTxen_at (h : At p s t) : At p s (t.assertTxen p) := modPort_at h _

theorem startOnLine_at (h : At p s t) : At p s (t.startOnLine p) := by
  unfold State.startOnLine
  split
  · exact h
  · exact ite_at (modCounters_at (modLf_at (assertTxen_at h) _) _) (modLf_at (assertTxen_at h) _)
  · exact modLf_at (assertTxen_at h) _

theorem guardOver_at (h : At p s t) : At p s (t.guardOver p) := by
  have h₁ : At p s (t.modLf p fun x => { x with
      state := if x.held.isSome then .waiting else .free, waitSince := t.time, timer := none, flight := none }) :=
    modLf_at h _
  unfold State.guardOver
  dsimp only
  refine ite_at h₁ ?_
  split
  · exact ite_at (abortSequence_at (runCycle_at (modCyc_at h₁ _) _)) (runCycle_at (modCyc_at h₁ _) _)
  · exact ite_at (abortSequence_at h₁) h₁

theorem pulseOver_at (h : At p s t) : At p s (t.pulseOver p) :=
  ite_at (ite_at (abortSequence_at (modLf_at h _)) (handIdentify_at (modLf_at h _))) (modLf_at h _)

end Sys2Proof.Machine
end

