-- ==== Sys2Proof/Laws/CommandFrames.lean ====
section
/-! SUPPORT. The frames of the commands' own operations: what a taken request, a fire, an abort and each step of a port leave
as they were. -/

namespace Sys2Proof.Machine

variable {p : PortId} {s t : State}

/-- From `s` to `t` part control is as it was, and the Event Pending List keeps its entries apart. -/
structure Side (s t : State) : Prop where
  control : t.control = s.control
  events : s.EventsDistinct → t.EventsDistinct

theorem Side.refl (s : State) : Side s s := ⟨rfl, id⟩

theorem Side.trans {u : State} (h : Side s t) (k : Side t u) : Side s u :=
  ⟨k.control.trans h.control, fun hs => k.events (h.events hs)⟩

theorem At.side (h : At p s t) : Side s t := ⟨h.control, h.events⟩

theorem foldl_side {α : Type} (f : State → α → State) (hf : ∀ u a, Side u (f u a)) (l : List α) (h : Side s t) :
    Side s (l.foldl f t) := by
  induction l generalizing t with
  | nil => exact h
  | cons a l ih => exact ih (h.trans (hf t a))

/-! ### Arrivals (R134, R135) -/

/-- An arrival that is not late acts at once where none waits. -/
@[simp] theorem atPort_now {a : Arrival} {act : State → State} (h : (s.port p).inbox = []) :
    s.atPort p false a act = act s := by
  simp [State.atPort, h]

/-- An arrival that is late, or finds others waiting, joins them, and nothing else happens. -/
theorem atPort_waits {late : Bool} {a : Arrival} {act : State → State} (h : late = true ∨ (s.port p).inbox ≠ []) :
    s.atPort p late a act = s.modPort p fun x => { x with inbox := x.inbox ++ [a] } := by
  unfold State.atPort
  rw [if_pos]
  rcases h with h | h <;> simp [h]

@[simp] theorem atUnit_now {a : Arrival} {act : State → State} (h : s.unitInbox = []) : s.atUnit false a act = act s := by
  simp [State.atUnit, h]

theorem atUnit_waits {late : Bool} {a : Arrival} {act : State → State} (h : late = true ∨ s.unitInbox ≠ []) :
    s.atUnit late a act = { s with unitInbox := s.unitInbox ++ [a] } := by
  unfold State.atUnit
  rw [if_pos]
  rcases h with h | h <;> simp [h]

/-- An arrival at a port leaves what its act leaves. -/
theorem atPort_side {late : Bool} {a : Arrival} {act : State → State} (h : Side s (act s)) :
    Side s (s.atPort p late a act) := by
  unfold State.atPort
  split
  · exact (modPort_at (At.refl p s) _).side
  · exact h

/-! ### Requests at a port -/

theorem badPortState_at (h : At p s t) (id : Nat) : At p s (t.badPortState id) := handOver_at h _ _ _

theorem configurePort_at (r : ReqRecord) (id : Nat) (s : State) : At (targetPort r) s (s.configurePort r id) :=
  ite_at (handOver_at (modPort_at (At.refl _ s) _) _ _ _) (badPortState_at (At.refl _ s) id)

theorem enablePort_at (r : ReqRecord) (id : Nat) (s : State) : At (targetPort r) s (s.enablePort r id) := by
  have h := At.refl (targetPort r) s
  unfold State.enablePort
  dsimp only
  split
  · exact handOver_at (modPort_at h _) _ _ _
  · exact badPortState_at h id
  all_goals exact handOver_at h _ _ _

theorem disablePort_at (r : ReqRecord) (id : Nat) (s : State) : At (targetPort r) s (s.disablePort r id) := by
  have h := modPort_at (stopSequence_at (endRequests_at (leave_at (At.refl (targetPort r) s)) .portDisabled)) Port.disabled
  unfold State.disablePort
  exact ite_at (handOver_at h _ _ _) (setOrtState_at (modPort_at h _) _ _)

theorem queryPort_at (r : ReqRecord) (id : Nat) (s : State) : At (targetPort r) s (s.queryPort r id) :=
  setOrtState_at (modPort_at (At.refl _ s) _) _ _

theorem bringUpPort_at (r : ReqRecord) (id : Nat) (s : State) : At (targetPort r) s (s.bringUpPort r id) := by
  have h := At.refl (targetPort r) s
  have h₁ : At (targetPort r) s ((s.modPort (targetPort r) fun x => { x with
      slot := some (.bringUp, id), state := .bringup,
      counters := { x.counters with misses := 0 } }).setOrtState id .active) := setOrtState_at (modPort_at h _) _ _
  exact ite_at (ite_at (handOver_at h _ _ _) (startSequence_at (ite_at (stopActive_at h₁ _ _) h₁) _))
    (badPortState_at h id)

theorem arm_at (h : At p s t) (id : Nat) (k : Sched) : At p s (t.arm p id k) := setOrtState_at (modPort_at h _) _ _

theorem startCycling_at (r : ReqRecord) (id : Nat) (s : State) : At (targetPort r) s (s.startCycling r id) := by
  have h := At.refl (targetPort r) s
  unfold State.startCycling
  dsimp only
  split
  · refine ite_at (handOver_at h _ _ _) ?_
    split
    · split
      · exact handOver_at (modGroup_at (modGroup_at h _ _) _ _) _ _ _
      · exact arm_at (modGroup_at (modGroup_at h _ _) _ _) _ _
    · split
      · exact handOver_at h _ _ _
      · exact arm_at h _ _
  · exact badPortState_at h id

theorem stopCycling_at (r : ReqRecord) (id : Nat) (s : State) : At (targetPort r) s (s.stopCycling r id) := by
  have h := At.refl (targetPort r) s
  unfold State.stopCycling
  dsimp only
  split
  · exact handOver_at h _ _ _
  · exact handOver_at (modPort_at (leave_at h) _) _ _ _
  · exact handOver_at (endSlot_at (toReady_at h) _ _) _ _ _
  · exact ite_at (handOver_at h _ _ _)
      (ite_at (setOrtState_at (modPort_at h _) _ _) (handOver_at (toReady_at h) _ _ _))
  all_goals exact badPortState_at h id

theorem queueTransfer_at (w : Bool) (r : ReqRecord) (id : Nat) (s : State) :
    At (targetPort r) s (s.queueTransfer w r id) := by
  have h := At.refl (targetPort r) s
  exact ite_at (badPortState_at h id) (ite_at (handOver_at h _ _ _) (setOrtState_at (modPort_at h _) _ _))

theorem configureGroup_at (p : PortId) (r : ReqRecord) (id : Nat) (s : State) : At p s (s.configureGroup r id) :=
  have h := At.refl p s
  ite_at (handOver_at (modGroup_at h _ _) _ _ _) (handOver_at h _ _ _)

/-! ### ABORT -/

theorem abortCycleStart_at (h : At p s t) : At p s (t.abortCycleStart p) := endSlot_at (toReady_at h) _ _

theorem abortEntry_at (e : OrtEntry) (s : State) : At e.targetPort s (s.abortEntry e) :=
  have h := At.refl e.targetPort s
  ite_at h (ite_at (abortTransfer_at h _) (ite_at (abortBringUp_at h) (ite_at (abortCycleStart_at h) h)))

theorem abortArrives_side (a id : Nat) (s : State) : Side s (s.abortArrives a id) := by
  unfold State.abortArrives
  split
  · rename_i e _
    exact (ite_at (abortEntry_at e s) (At.refl _ s)).side
  · exact Side.refl s

theorem runAbort_side (r : ReqRecord) (late : Bool) (id : Nat) (s : State) : Side s (s.runAbort r late id) := by
  unfold State.runAbort
  dsimp only
  split
  · exact (handOver_at (At.refl 0 s) _ _ _).side
  · exact foldl_side _ (fun u (e : OrtEntry) => atPort_side (abortArrives_side id e.id u)) _ (setOrt_at (At.refl 0 s) _ _).side

/-! ### Fires -/

theorem firstFire_at (g : GroupId) (m : Member) (s : State) : At m.port s (s.firstFire g m) :=
  ite_at (setNext_at (At.refl _ s) _) (At.refl _ s)

theorem refire_at (g : GroupId) (m : Member) (s : State) : At m.port s (s.refire g m) := by
  have h := At.refl m.port s
  unfold State.refire
  dsimp only
  split
  · rename_i n _ k _ _
    have h₁ : At m.port s (s.setNext m.port (some n)) := setNext_at h _
    refine ite_at (post_at (modCounters_at ?_ _) _ _ _) ?_ <;>
      exact ite_at h (ite_at (cycleEnds_at (discardSample_at h₁)) h₁)
  · exact h

theorem fire_side (g : GroupId) (s : State) : Side s (s.fire g) := by
  unfold State.fire
  refine foldl_side _ (fun u m => ?_) _ (modGroup_at (At.refl 0 s) g _).side
  split
  · exact (refire_at g m u).side
  · exact (firstFire_at g m u).side

theorem syncFireGroups_side (r : ReqRecord) (id : Nat) (s : State) : Side s (s.syncFireGroups r id) := by
  unfold State.syncFireGroups
  dsimp only
  split
  · exact (handOver_at (At.refl 0 s) _ _ _).side
  · have h := foldl_side (fun s g => State.fire g s) (fun u g => fire_side g u) (allGroups.filter (maskNames r)) (Side.refl s)
    exact h.trans (handOver_at (At.refl 0 _) _ _ _).side

/-! ### The end of an arrival's way -/

theorem requestArrives_side (k : Byte) (r : ReqRecord) (id : Nat) (s : State) : Side s (s.requestArrives k r id) := by
  unfold State.requestArrives
  repeat' split
  · exact (configurePort_at r id s).side
  · exact (enablePort_at r id s).side
  · exact (disablePort_at r id s).side
  · exact (bringUpPort_at r id s).side
  · exact (startCycling_at r id s).side
  · exact (stopCycling_at r id s).side
  · exact (configureGroup_at 0 r id s).side
  · exact syncFireGroups_side r id s
  · exact (queueTransfer_at false r id s).side
  · exact (queueTransfer_at true r id s).side
  · exact (queryPort_at r id s).side
  · exact Side.refl s

theorem arrives_side (a : Arrival) (s : State) : Side s (s.arrives a) := by
  cases a with
  | request id k r => exact requestArrives_side k r id s
  | abort a id => exact abortArrives_side a id s

/-- An arrival that a port takes leaves part control as it was (R135). -/
theorem portArrival_side (p : PortId) (s : State) : Side s (s.portArrival p) := by
  unfold State.portArrival
  split
  · exact (modPort_at (At.refl p s) _).side.trans (arrives_side _ _)
  · exact Side.refl s

/-- An arrival that the Schedule Unit takes changes of part control only the arrivals that wait there (R135). -/
theorem unitArrival_control (s : State) : s.unitArrival.control = { s.control with unitInbox := s.unitInbox.tail } := by
  unfold State.unitArrival
  split
  · rename_i a rest h
    rw [(arrives_side a _).control, h]
    rfl
  · rename_i h
    rw [h]
    simp [State.control, h]

/-! ### The take (R127) -/

/-- The head advances and nothing else. -/
theorem advanceHead_eq (s : State) (u : Setup) (h : s.setup = some u) :
    s.advanceHead = { s with head := (s.head + 1) % u.reqSize } := by
  simp [State.advanceHead, h]

/-- A take whose act keeps part control does to it what the take itself does: the head advances (R125, R127). -/
theorem take_control (s : State) (u : Setup) (e : OrtEntry) (k : Byte) (r : ReqRecord) (c : Option Status)
    (act : Nat → State → State) (hf : s.Fetched u e) (ha : ∀ id v, Side v (act id v)) :
    (s.take k r c act).control = s.takenControl u := by
  obtain ⟨h₁, h₂, h₃, h₄⟩ := hf
  have hs : s.endFlight.setup = some u := h₃
  have hr : s.endFlight.runningOrPaused = true := h₂
  have ho : (s.endFlight.ort.find? fun e => e.st = .fetching) = some e := h₄
  simp only [State.take, h₁, hr, ho, if_true]
  have hb : ∀ f : OrtEntry → OrtEntry, (s.endFlight.advanceHead.setOrt e.id f).control = s.takenControl u := by
    intro f
    rw [(setOrt_at (At.refl 0 _) e.id f).control, advanceHead_eq _ u hs]
    rfl
  split
  · rw [(handOver_at (At.refl 0 _) _ _ _).control, hb]
  · rw [(ha _ _).control, hb]

/-! ### Reports and accesses -/

theorem reportEnded_at (h : At p s t) (id : Nat) (ok : Bool) : At p s (t.reportEnded p id ok) := by
  have h₁ := modPort_at h fun x => { x with queries := x.queries.filter fun q => q.ort ≠ id }
  unfold State.reportEnded
  split
  · exact h
  · exact accessEnded_at (ite_at (handOver_at h₁ _ _ _) (handOver_at h₁ _ _ _))

/-! ### Sampling and starts -/

theorem sampleNow_at (h : At p s t) : At p s (t.sampleNow p) :=
  ite_at (beginSample_at (modPort_at h _)) (modPort_at h _)

theorem actOnStart_at (h : At p s t) (n : Word) : At p s (t.actOnStart p n) := by
  unfold State.actOnStart
  dsimp only
  split
  · exact cycleAtStart_at (endSlot_at (setPortState_at h _) _ _) _
  · exact ite_at h (cycleAtStart_at h n)
  all_goals exact h

theorem startNow_at (h : At p s t) : At p s (t.startNow p) := by
  unfold State.startNow
  split
  · exact actOnStart_at (setNext_at h _) _
  · exact h

/-! ### Transfers -/

theorem activateHead_at (h : At p s t) : At p s (t.activateHead p) := by
  unfold State.activateHead
  split
  · exact activate_at h _
  · exact h

theorem handSegment_at (h : At p s t) : At p s (t.handSegment p) := by
  unfold State.handSegment
  split
  · exact h
  · split
    · exact sendSegment_at h _
    · exact endActive_at h _ _
    · exact h

theorem handAbandon_at (h : At p s t) : At p s (t.handAbandon p) := by
  unfold State.handAbandon
  split
  · exact modTe_at (handToLine_at h _) _
  · exact endAbandoned_at h
  · exact h

/-! ### The line -/

theorem collide_at (h : At p s t) (e : Exchange) (bit : Nat) : At p s (t.collide p e bit) :=
  endExchange_at (modPort_at h _) _ _ _

theorem releaseLine_at (h : At p s t) (n : Nat) : At p s (t.releaseLine p n) := modPort_at h _

theorem frameSent_at (h : At p s t) : At p s (t.frameSent p) := by
  unfold State.frameSent
  split
  · exact h
  · exact modPort_at (releaseLine_at h _) _

theorem lineIs_at (h : At p s t) (told b : Bool) (n : Nat) : At p s (t.lineIs p told b n) := ite_at h (modPort_at h _)

theorem beginReply_at (h : At p s t) (told : Bool) (n : Nat) : At p s (t.beginReply p told n) :=
  modLf_at (lineIs_at h _ _ _) _

theorem received_at (h : At p s t) (tb : Nat) (told : Bool) (c next : Option Nat) (rx : Rx) :
    At p s (t.received p tb told c next rx) := by
  unfold State.received
  split
  · exact modLf_at (lineIs_at h _ _ _) _
  · exact modPort_at (lineIs_at h _ _ _) _

theorem replyEnds_at (h : At p s t) (f : Frame) (o : Outcome) (n : Nat) (b : Bool) (m : Nat) :
    At p s (t.replyEnds p f o n b m) := endExchange_at (lineIs_at h _ _ _) _ _ _

theorem pulseSent_at (h : At p s t) : At p s (t.pulseSent p) := modLf_at (releaseLine_at h _) _

theorem lineLevel_at (h : At p s t) (b : Bool) : At p s (t.lineLevel p b) := modPort_at h _

end Sys2Proof.Machine
end

