-- ==== Sys2Proof/Laws/HandOver.lean ====
section
/-! SUPPORT. What a hand-over to the Completion Writer, a take, a post and an instant do, said once. -/

namespace Sys2Proof.Machine

variable {s t : State}

/-! ### What a hand-over leaves -/

/-- From `s` to `t` only the table, the Completion Writer and the count of arrivals may have changed. -/
structure TablesOnly (s t : State) : Prop where
  ports : t.ports = s.ports
  groups : t.groups = s.groups
  bus : t.bus = s.bus
  events : t.cpl.events = s.cpl.events
  control : t.control = s.control
  /-- completions are added at the end -/
  done : ∃ l, t.cpl.done = s.cpl.done ++ l

theorem TablesOnly.refl (s : State) : TablesOnly s s := ⟨rfl, rfl, rfl, rfl, rfl, [], by simp⟩

theorem TablesOnly.trans {u : State} (h : TablesOnly s t) (k : TablesOnly t u) : TablesOnly s u := by
  obtain ⟨l, hl⟩ := h.done
  obtain ⟨m, hm⟩ := k.done
  exact ⟨k.ports.trans h.ports, k.groups.trans h.groups, k.bus.trans h.bus, k.events.trans h.events,
    k.control.trans h.control, l ++ m, by rw [hm, hl, List.append_assoc]⟩

theorem complete_tablesOnly (s : State) (id : Nat) (st : Status) (r : Word) : TablesOnly s (s.complete id st r) := by
  unfold State.complete
  split
  · exact TablesOnly.refl s
  · split
    · exact TablesOnly.refl s
    · exact ⟨rfl, rfl, rfl, rfl, by simp [State.control, State.setOrtState, State.setOrt], _, rfl⟩

/-- The first of a hand-over's two parts: the entry's own completion, and the counts of the ABORTs that matched it. -/
theorem handOver_eq (s : State) (id : Nat) (st : Status) (r : Word) :
    ∃ (u : State) (l : List OrtEntry), u.cpl.done = (s.complete id st r).cpl.done ∧ TablesOnly (s.complete id st r) u ∧
      s.handOver id st r = l.foldl (fun s (e : OrtEntry) => s.complete e.id .ok (BitVec.ofNat 32 e.matched)) u :=
  let v := s.complete id st r
  ⟨{ v with ort := v.ort.map fun e => { e with awaited := e.awaited.filter (· ≠ id) } },
    s.settledBy id, rfl, ⟨rfl, rfl, rfl, rfl, by simp [State.control, v], [], by simp [v]⟩, rfl⟩

theorem foldl_tablesOnly {α : Type} (f : State → α → State) (hf : ∀ u a, TablesOnly u (f u a)) (l : List α)
    (h : TablesOnly s t) : TablesOnly s (l.foldl f t) := by
  induction l generalizing t with
  | nil => exact h
  | cons a l ih => exact ih (h.trans (hf t a))

theorem handOver_tablesOnly (s : State) (id : Nat) (st : Status) (r : Word) : TablesOnly s (s.handOver id st r) := by
  obtain ⟨u, l, -, hu, he⟩ := handOver_eq s id st r
  rw [he]
  exact foldl_tablesOnly _ (fun _ _ => complete_tablesOnly _ _ _ _) l ((complete_tablesOnly s id st r).trans hu)

@[simp] theorem handOver_ports (s : State) (id : Nat) (st : Status) (r : Word) : (s.handOver id st r).ports = s.ports :=
  (handOver_tablesOnly s id st r).ports

@[simp] theorem handOver_groups (s : State) (id : Nat) (st : Status) (r : Word) :
    (s.handOver id st r).groups = s.groups := (handOver_tablesOnly s id st r).groups

@[simp] theorem handOver_bus (s : State) (id : Nat) (st : Status) (r : Word) : (s.handOver id st r).bus = s.bus :=
  (handOver_tablesOnly s id st r).bus

@[simp] theorem handOver_port (s : State) (id : Nat) (st : Status) (r : Word) (q : PortId) :
    (s.handOver id st r).port q = s.port q := State.port_congr (handOver_ports s id st r) q

@[simp] theorem handOver_group (s : State) (id : Nat) (st : Status) (r : Word) (g : GroupId) :
    (s.handOver id st r).group g = s.group g := State.group_congr (handOver_groups s id st r) g

@[simp] theorem handOver_events (s : State) (id : Nat) (st : Status) (r : Word) :
    (s.handOver id st r).cpl.events = s.cpl.events := (handOver_tablesOnly s id st r).events

@[simp] theorem handOver_control (s : State) (id : Nat) (st : Status) (r : Word) :
    (s.handOver id st r).control = s.control := (handOver_tablesOnly s id st r).control

/-- An entry that is not DONE is reported first, and ABORTs that waited for it after it (R131, R139, R148). -/
theorem handOver_done {id : Nat} {e : OrtEntry} (st : Status) (r : Word) (he : s.ortFind id = some e) (hd : e.st ≠ .done) :
    ∃ l, (s.handOver id st r).cpl.done = s.cpl.done ++
      ({ ort := id, tag := e.tag, kind := e.kind, target := e.target, status := st, result := r,
         arrival := s.arrivals } :: l) := by
  obtain ⟨u, l, hd', -, heq⟩ := handOver_eq s id st r
  have hc : (s.complete id st r).cpl.done = s.cpl.done ++
      [{ ort := id, tag := e.tag, kind := e.kind, target := e.target, status := st, result := r,
         arrival := s.arrivals }] := by
    simp [State.complete, he, hd]
  obtain ⟨m, hm⟩ := (foldl_tablesOnly (fun s (e : OrtEntry) => s.complete e.id .ok (BitVec.ofNat 32 e.matched))
    (fun _ _ => complete_tablesOnly _ _ _ _) l (TablesOnly.refl u)).done
  exact ⟨m, by rw [heq, hm, hd', hc, List.append_assoc, List.singleton_append]⟩

/-! ### The table after the first steps of a take -/

/-- A place of the table holds what the update makes of the entry there. -/
theorem ortFind_setOrt (s : State) (id : Nat) (f : OrtEntry → OrtEntry) (hid : ∀ e, (f e).id = e.id) (e : OrtEntry)
    (he : s.ortFind id = some e) : (s.setOrt id f).ortFind id = some (f e) := by
  have : ∀ l : List OrtEntry, l.find? (fun e => e.id = id) = some e →
      (l.map fun e => if e.id = id then f e else e).find? (fun e => e.id = id) = some (f e) := by
    intro l
    induction l with
    | nil => simp
    | cons a l ih =>
      intro h
      by_cases ha : a.id = id
      · simp only [List.find?_cons, ha, decide_true, Option.some.injEq] at h
        subst h
        simp [ha, hid]
      · simp only [List.find?_cons, ha, decide_false] at h
        simpa [ha] using ih h
  simpa [State.ortFind, State.setOrt] using this s.ort he

/-- In a table whose places differ, the place of an entry of it finds that entry. -/
theorem ortFind_of_mem (s : State) (hn : (s.ort.map (·.id)).Nodup) {e : OrtEntry} (he : e ∈ s.ort) :
    s.ortFind e.id = some e := by
  have : ∀ l : List OrtEntry, (l.map (·.id)).Nodup → e ∈ l → l.find? (fun x => x.id = e.id) = some e := by
    intro l
    induction l with
    | nil => simp
    | cons a l ih =>
      intro hn he
      simp only [List.map_cons, List.nodup_cons, List.mem_map, not_exists, not_and] at hn
      rcases List.mem_cons.mp he with rfl | he
      · simp
      · have hne : a.id ≠ e.id := fun h => hn.1 e he h.symm
        simpa [List.find?_cons, hne] using ih hn.2 he
  exact this s.ort hn he

/-- The state a valid record finds at its target: the access has ended, the head has advanced, the entry is filled. -/
def State.routed (s : State) (u : Setup) (e : OrtEntry) (k : Byte) (r : ReqRecord) : State :=
  ({ s.endFlight with head := (s.head + 1) % u.reqSize }).setOrt e.id fun x =>
    { x with tag := r.tag, kind := k, target := r.target, st := .routed }

theorem take_valid (u : Setup) (e : OrtEntry) (k : Byte) (r : ReqRecord) (act : Nat → State → State)
    (hf : s.Fetched u e) : s.take k r none act = act e.id (s.routed u e k r) := by
  obtain ⟨h₁, h₂, h₃, h₄⟩ := hf
  have hr : s.endFlight.runningOrPaused = true := h₂
  have ho : (s.endFlight.ort.find? fun e => e.st = .fetching) = some e := h₄
  simp only [State.take, h₁, hr, ho, if_true]
  rw [advanceHead_eq s.endFlight u h₃]
  rfl

theorem take_invalid (u : Setup) (e : OrtEntry) (k : Byte) (r : ReqRecord) (st : Status) (act : Nat → State → State)
    (hf : s.Fetched u e) : s.take k r (some st) act = (s.routed u e k r).handOver e.id st 0 := by
  obtain ⟨h₁, h₂, h₃, h₄⟩ := hf
  have hr : s.endFlight.runningOrPaused = true := h₂
  have ho : (s.endFlight.ort.find? fun e => e.st = .fetching) = some e := h₄
  simp only [State.take, h₁, hr, ho, if_true]
  rw [advanceHead_eq s.endFlight u h₃]
  rfl

theorem routed_ports (s : State) (u : Setup) (e : OrtEntry) (k : Byte) (r : ReqRecord) :
    (s.routed u e k r).ports = s.ports := rfl

theorem routed_groups (s : State) (u : Setup) (e : OrtEntry) (k : Byte) (r : ReqRecord) :
    (s.routed u e k r).groups = s.groups := rfl

theorem routed_cpl (s : State) (u : Setup) (e : OrtEntry) (k : Byte) (r : ReqRecord) :
    (s.routed u e k r).cpl = s.cpl := rfl

theorem routed_control (s : State) (u : Setup) (e : OrtEntry) (k : Byte) (r : ReqRecord) :
    (s.routed u e k r).control = s.takenControl u := by
  simp [State.routed, State.takenControl, State.control, State.setOrt, State.endFlight, State.modBus]

/-- The entry of a take, as its target finds it. -/
theorem routed_find (s : State) (u : Setup) (e : OrtEntry) (k : Byte) (r : ReqRecord) (hf : s.Fetched u e)
    (hn : s.TableSound e) :
    (s.routed u e k r).ortFind e.id =
      some { e with tag := r.tag, kind := k, target := r.target, st := .routed } := by
  have hm : e ∈ s.ort := List.mem_of_find?_eq_some hf.2.2.2
  exact ortFind_setOrt { s.endFlight with head := (s.head + 1) % u.reqSize } e.id
    (fun x => { x with tag := r.tag, kind := k, target := r.target, st := .routed }) (fun _ => rfl) e
    (ortFind_of_mem s hn.1 hm)

/-- A request handed over at its take is reported with what its record carried (R127, R131). -/
theorem routed_reported (s : State) (u : Setup) (e : OrtEntry) (k : Byte) (r : ReqRecord) (st : Status) (x : Word)
    (hf : s.Fetched u e) (hn : s.TableSound e) :
    Reported s ((s.routed u e k r).handOver e.id st x) e k r st x :=
  handOver_done (s := s.routed u e k r) st x (routed_find s u e k r hf hn) (by simp)

/-! ### Instants -/

/-- Time reaches an instant and nothing else changes. -/
theorem reach_eq {n : Nat} {s' : State} (h : s.reach n = some s') : s' = { s with time := n } ∧ s.time ≤ n := by
  unfold State.reach at h
  split at h
  · rename_i hn
    cases h
    subst hn
    exact ⟨rfl, Nat.le_refl _⟩
  · split at h
    · rename_i hq
      cases h
      simp only [Bool.and_eq_true, decide_eq_true_eq] at hq
      exact ⟨rfl, Nat.le_of_lt hq.1⟩
    · cases h

/-- A due step is taken at its instant. -/
theorem atInstant_next {n : Nat} {s' : State} (act : State → State) (h : s.Reaches n s') :
    atInstant (some n) act s = .next (act s') := by
  unfold State.Reaches at h
  simp [atInstant, exactlyAt, h]

theorem exactlyAt_next {n : Nat} {s' : State} (act : State → State) (h : s.reach n = some s') :
    exactlyAt n act s = .next (act s') := by
  simp [exactlyAt, h]

/-- A step whose instant has come, or passed, is taken now. -/
theorem reaches_now {n : Nat} (h : n ≤ s.time) : s.Reaches n s := by
  simp [State.Reaches, State.reach, Nat.max_eq_left h]

end Sys2Proof.Machine
end

