-- ==== Sys2Proof/Laws/Line.lean ====
section
/-! SUPPORT. The candidate start edge of R4: when the receiver holds one, when it is confirmed, and when the running limit is
judged. -/

namespace Sys2Proof.Machine

variable {s : State} {p : PortId} {c n t : Nat}

/-- The edge to be confirmed is the candidate; the line is dominant, its sample has not passed, and it fell within the limit. -/
theorem edgeToConfirm_eq_some :
    s.edgeToConfirm p = some c ↔
      (s.port p).rxd = false ∧ (s.port p).lf.candidate = some c ∧ s.time ≤ c + (s.port p).lf.halfTb ∧
        ∃ n, (s.port p).lf.timer = some n ∧ c ≤ n := by
  cases hr : (s.port p).rxd <;> cases hn : (s.port p).lf.timer <;>
    simp [State.edgeToConfirm, Framer.pendingEdge, hr, hn, Option.filter_eq_some_iff]

/-- With no candidate edge the limit is judged at its expiry. -/
theorem limitDue_of_no_candidate (hc : (s.port p).lf.candidate = none) : s.limitDue p = (s.port p).lf.timer := by
  simp [State.limitDue, State.edgeToConfirm, Framer.pendingEdge, hc]

/-- While an edge is to be confirmed the limit is not judged. -/
theorem limitDue_of_edge (hc : s.edgeToConfirm p = some c) : s.limitDue p = none := by
  simp [State.limitDue, hc]

/-- A candidate edge within the limit that is not to be confirmed holds the judgement until its sample. -/
theorem limitDue_of_glitch (he : s.edgeToConfirm p = none) (hc : (s.port p).lf.candidate = some c)
    (hn : (s.port p).lf.timer = some n) (h : c ≤ n) : s.limitDue p = some (max n (c + (s.port p).lf.halfTb)) := by
  simp [State.limitDue, he, hc, hn, h]

/-- With no edge awaiting its sample every edge that does not lie in the past agrees with what has been told. -/
theorem edgeAgrees_of_no_candidate (hc : (s.port p).lf.candidate = none) : s.edgeAgrees p t = decide (s.time ≤ t) := by
  simp [State.edgeAgrees, Framer.pendingEdge, hc]

/-- The edges that agree with what has been told, as the claims say it. -/
theorem edgeAgrees_iff : s.edgeAgrees p t = true ↔ (s.port p).EdgeOpen (s.port p).lf.halfTb s.time t := by
  cases hc : (s.port p).lf.candidate with
  | none => simp [State.edgeAgrees, Framer.pendingEdge, Port.EdgeOpen, hc]
  | some c =>
    by_cases h : s.time ≤ c + (s.port p).lf.halfTb <;> cases hr : (s.port p).rxd <;>
      simp [State.edgeAgrees, Framer.pendingEdge, Port.EdgeOpen, Option.filter, hc, h, hr]

/-- Where a STATION_REPLY begins as the claims say it, its edges agree with what has been told. -/
theorem edgesAgree_of_beginsAt {tb g e : Nat} {rx : Rx} {chars : List RxChar} {next : Option Nat}
    (hh : (s.port p).lf.halfTb = tb / 2)
    (h : BeginsAt (s.port p) tb s.time g rx (chars.map (·.gap) ++ next.toList) e) :
    s.edgesAgree p tb rx chars next = true := by
  unfold BeginsAt at h
  unfold State.edgesAgree
  cases hr : rx.edge with
  | none =>
    obtain ⟨n, hn, rfl, -, ho⟩ := hr ▸ h
    simpa [hn] using edgeAgrees_iff.mpr (hh ▸ ho)
  | some d =>
    obtain ⟨-, ho⟩ := hr ▸ h
    refine Bool.or_eq_true_iff.mpr ?_
    cases hc : (s.port p).lf.candidate with
    | none => exact .inl (by simp [Framer.pendingEdge, hc])
    | some c => exact .inr ((Option.all_eq_true _ _).mpr fun n hg => edgeAgrees_iff.mpr (hh ▸ ho n (by simp [hc]) hg))

/-- With no edge awaiting its sample none has been told. -/
theorem edgeTold_of_no_candidate (hc : (s.port p).lf.candidate = none) : s.edgeTold p t = false := by
  simp [State.edgeTold, Framer.pendingEdge, hc]

/-- An edge that was told is the candidate, and its sample has not passed, as the claims say it. -/
theorem edgeTold_iff : s.edgeTold p t = true ↔ (s.port p).EdgeTold (s.port p).lf.halfTb s.time t := by
  simp [State.edgeTold, Framer.pendingEdge, Port.EdgeTold, Option.filter_eq_some_iff]

end Sys2Proof.Machine
end

