-- ==== Sys2Proof/Laws/PerInstr.lean ====
section
/-! SUPPORT. Per constructor: a row that takes a record is the row of its own kind octet. -/

namespace Sys2Proof.Laws.RowOfKind

/-- A well-formed row that takes a record is the row that `rowOfKind` gives its kind octet (R132, section 10.2). -/
def Statement (i : Instr) : Prop :=
  match recordOf i with
  | some (k, r) => i.wellFormed = true → ∃ late, rowOfKind k late r = i
  | none => True

theorem unknownRequestKind (kind : Byte) (r : ReqRecord) : Statement (.unknownRequestKind kind r) := by
  intro h
  refine ⟨false, ?_⟩
  simp only [Instr.wellFormed, Machine.kindNamed] at h
  unfold rowOfKind
  split <;> simp_all
theorem nop (r : ReqRecord) : Statement (.nop r) := fun _ => ⟨false, rfl⟩
theorem portConfig (q : Routed) : Statement (.portConfig q) := fun _ => ⟨q.late, rfl⟩
theorem portEnable (q : Routed) : Statement (.portEnable q) := fun _ => ⟨q.late, rfl⟩
theorem portDisable (q : Routed) : Statement (.portDisable q) := fun _ => ⟨q.late, rfl⟩
theorem bringUp (q : Routed) : Statement (.bringUp q) := fun _ => ⟨q.late, rfl⟩
theorem cycleStart (q : Routed) : Statement (.cycleStart q) := fun _ => ⟨q.late, rfl⟩
theorem cycleStop (q : Routed) : Statement (.cycleStop q) := fun _ => ⟨q.late, rfl⟩
theorem groupConfig (q : Routed) : Statement (.groupConfig q) := fun _ => ⟨q.late, rfl⟩
theorem syncFire (q : Routed) : Statement (.syncFire q) := fun _ => ⟨q.late, rfl⟩
theorem paramRead (q : Routed) : Statement (.paramRead q) := fun _ => ⟨q.late, rfl⟩
theorem paramWrite (q : Routed) : Statement (.paramWrite q) := fun _ => ⟨q.late, rfl⟩
theorem abort (q : Routed) : Statement (.abort q) := fun _ => ⟨q.late, rfl⟩
theorem portQuery (q : Routed) : Statement (.portQuery q) := fun _ => ⟨q.late, rfl⟩
theorem reqBusError : Statement .reqBusError := trivial
theorem fetch : Statement .fetch := trivial
theorem bmuGrant : Statement .bmuGrant := trivial
theorem completionWriteClaim : Statement .completionWriteClaim := trivial
theorem recordWriteEnd : ∀ ok, Statement (.recordWriteEnd ok) := by
  intros; exact trivial
theorem holdoffExpiry : Statement .holdoffExpiry := trivial
theorem reqTail : ∀ v, Statement (.reqTail v) := by
  intros; exact trivial
theorem cplHead : ∀ v, Statement (.cplHead v) := by
  intros; exact trivial
theorem enable : ∀ v, Statement (.enable v) := by
  intros; exact trivial
theorem softReset : ∀ v, Statement (.softReset v) := by
  intros; exact trivial
theorem softResetEnd : Statement .softResetEnd := trivial
theorem intEnable : ∀ v, Statement (.intEnable v) := by
  intros; exact trivial
theorem registerWrite : ∀ offset width v, Statement (.registerWrite offset width v) := by
  intros; exact trivial
theorem powerOnReset : Statement .powerOnReset := trivial
theorem resetNDeasserted : Statement .resetNDeasserted := trivial
theorem setupReadEnd : ∀ d, Statement (.setupReadEnd d) := by
  intros; exact trivial
theorem syncIn : ∀ high, Statement (.syncIn high) := by
  intros; exact trivial
theorem beat : ∀ g, Statement (.beat g) := by
  intros; exact trivial
theorem syncOutPulseEnd : Statement .syncOutPulseEnd := trivial
theorem samplingInstant : ∀ p, Statement (.samplingInstant p) := by
  intros; exact trivial
theorem samplingReadEnd : ∀ d, Statement (.samplingReadEnd d) := by
  intros; exact trivial
theorem startInstant : ∀ p, Statement (.startInstant p) := by
  intros; exact trivial
theorem inputImageWriteEnd : ∀ ok, Statement (.inputImageWriteEnd ok) := by
  intros; exact trivial
theorem idleCheck : ∀ p, Statement (.idleCheck p) := by
  intros; exact trivial
theorem collision : ∀ p bit, Statement (.collision p bit) := by
  intros; exact trivial
theorem masterFrameEnd : ∀ p, Statement (.masterFrameEnd p) := by
  intros; exact trivial
theorem noReply : ∀ p hold, Statement (.noReply p hold) := by
  intros; exact trivial
theorem gap : ∀ p hold, Statement (.gap p hold) := by
  intros; exact trivial
theorem stationReply : ∀ p chars next, Statement (.stationReply p chars next) := by
  intros; exact trivial
theorem guardEnd : ∀ p, Statement (.guardEnd p) := by
  intros; exact trivial
theorem wakeDominantEnd : ∀ p, Statement (.wakeDominantEnd p) := by
  intros; exact trivial
theorem quietTimeEnd : ∀ p, Statement (.quietTimeEnd p) := by
  intros; exact trivial
theorem lineStuck : ∀ p, Statement (.lineStuck p) := by
  intros; exact trivial
theorem fltNAsserted : ∀ p, Statement (.fltNAsserted p) := by
  intros; exact trivial
theorem fltNDeasserted : ∀ p, Statement (.fltNDeasserted p) := by
  intros; exact trivial
theorem overcurrent : ∀ p, Statement (.overcurrent p) := by
  intros; exact trivial
theorem attempt : ∀ p, Statement (.attempt p) := by
  intros; exact trivial
theorem backoffExpiry : ∀ p, Statement (.backoffExpiry p) := by
  intros; exact trivial
theorem activation : ∀ p, Statement (.activation p) := by
  intros; exact trivial
theorem segmentHandOver : ∀ p, Statement (.segmentHandOver p) := by
  intros; exact trivial
theorem svcAbandon : ∀ p, Statement (.svcAbandon p) := by
  intros; exact trivial
theorem transferFetchEnd : ∀ d, Statement (.transferFetchEnd d) := by
  intros; exact trivial
theorem transferStoreEnd : ∀ ok, Statement (.transferStoreEnd ok) := by
  intros; exact trivial
theorem portReportWriteEnd : ∀ ok, Statement (.portReportWriteEnd ok) := by
  intros; exact trivial
theorem replyStartEdge : ∀ p edge, Statement (.replyStartEdge p edge) := by
  intros; exact trivial
theorem rxdLevelChange : ∀ p recessive, Statement (.rxdLevelChange p recessive) := by
  intros; exact trivial

end Sys2Proof.Laws.RowOfKind
end

