-- ==== Sys2Proof/Tests/Slice0.lean ====
section
/-! SUPPORT. Tests: ill-formed terms, the spec's worked figures and examples, single steps, and a witness for every claim
with hypotheses. -/

namespace Sys2Proof.Tests

open Sys2Proof.Machine

/- Each test waits for the kernel; checked one after another, they need no more threads than the rest of the package. -/
set_option Elab.async false

/-! ### Ill-formed terms: one for each check of `Instr.wellFormed` -/

/-- A request record of zeros. -/
def blankRecord : ReqRecord := { target := 0, tag := 0, fields := 0 }

/-- A reply character without a gap. -/
def char (b : Byte) : RxChar := { gap := 0, octet := b, stop := true }

theorem test_named_kind_is_no_unknown_kind : (Instr.unknownRequestKind 13 blankRecord).wellFormed = false := by decide
theorem test_unnamed_kind_is : (Instr.unknownRequestKind 14 blankRecord).wellFormed = true := by decide
theorem test_enable_without_soft_reset : (Instr.enable 2).wellFormed = false := by decide
theorem test_int_enable_without_soft_reset : (Instr.intEnable 6).wellFormed = false := by decide
theorem test_soft_reset_sets_its_bit : (Instr.softReset 5).wellFormed = false := by decide
theorem test_register_write_of_ctrl : (Instr.registerWrite 0x04 .w32 0).wellFormed = false := by decide
theorem test_register_write_of_req_tail : (Instr.registerWrite 0x10 .w32 0).wellFormed = false := by decide
theorem test_register_write_of_cpl_head : (Instr.registerWrite 0x18 .w32 0).wellFormed = false := by decide
theorem test_register_write_of_ctrl_narrow : (Instr.registerWrite 0x04 .w16 0).wellFormed = true := by decide
theorem test_collision_past_the_longest_frame : (Instr.collision 0 340).wellFormed = false := by decide
theorem test_no_reply_held_too_long : (Instr.noReply 0 801).wellFormed = false := by decide
theorem test_gap_held_too_long : (Instr.gap 0 801).wellFormed = false := by decide
theorem test_start_edge_after_t_resp : (Instr.replyStartEdge 0 96001).wellFormed = false := by decide
theorem test_reply_of_nothing : (Instr.stationReply 0 [] none).wellFormed = false := by decide
theorem test_reply_too_long : (Instr.stationReply 0 (List.replicate 36 (char 0)) none).wellFormed = false := by decide
theorem test_reply_gap_too_long : (Instr.stationReply 0 [] (some 9601)).wellFormed = false := by decide

/-! ### The CRC and the characters (R3, R8) -/

/-- By hand from R8: FFh after one octet 00h, generator 2Fh. -/
theorem test_crc_of_a_zero_octet : crc [0x00] = 0x42#8 := by decide

/-- By hand from R8, over the octets of "123456789". -/
theorem test_crc_of_nine_digits : crc [0x31, 0x32, 0x33, 0x34, 0x35, 0x36, 0x37, 0x38, 0x39] = 0x20#8 := by
  decide +kernel

/-- R3: start bit, then 53h least significant bit first, then the stop bit. -/
theorem test_character_bits :
    charBits 0x53 = [false, true, true, false, false, true, false, true, false, true] := by decide

/-! ### Exchange windows: the table of R19 -/

theorem test_window_cyclic_l2 : windowTb 16 2 6 8 = 178 ∧ windowUs PortConfig.reset .l2 6 8 = 1113 := by decide
theorem test_window_cyclic_l3 : windowTb 16 2 6 6 = 154 ∧ windowUs PortConfig.reset .l3 6 6 = 241 := by decide
theorem test_window_cyclic_l1 : windowUs PortConfig.reset .l1 6 6 = 7700 := by decide
theorem test_window_identify : windowTb 16 2 2 10 = 162 ∧ windowUs PortConfig.reset .l1 2 10 = 8100 := by decide
theorem test_window_full_segment : windowTb 16 2 18 19 = 430 ∧ windowUs PortConfig.reset .l2 18 19 = 2688 := by decide
theorem test_window_largest : windowTb 60 6 34 35 = 962 ∧
    windowUs { PortConfig.reset with tResp := 60, gapLimit := 6 } .l1 34 35 = 48100 := by decide

/-! ### Small states -/

/-- A setup block: rings of 8 and 16 entries, threshold 1, no holdoff, SYNC_OUT from group 0, rising edge. -/
def setup0 : Setup :=
  { reqBase := 0x10000000, reqK := 3, cplBase := 0x20000000, cplK := 4, threshold := 1, holdoff := 0,
    syncOut := some 0, fallingEdge := false }

/-- The entry of a fetch in flight. -/
def entry0 : OrtEntry := { id := 0, tag := 0, kind := 0, target := 0, st := .fetching, matched := 0, awaited := [] }

/-- A port after reset. -/
def port0 : Port := Port.resetWith false true

/-- An IDLE port, its line free and long recessive. -/
def idlePort : Port := { port0 with state := .idle, lf := { Framer.reset with state := .free, recessiveSince := some 0 } }

/-- The link of the example of chapter 5: L3, 4 octets out, 4 in, 500 µs, S = 8. -/
def link3 : Link :=
  { desc := { stationClass := 1, revision := 1, minPeriod := 5, outLen := 4, inLen := 4, segCode := 0, stationId := 9 }
    speed := .l3 }

def readyPort : Port := { idlePort with state := .ready, link := some link3 }

/-- A RUNNING part with port 0 as given. -/
def running (x : Port) : State :=
  ({ State.reset with
    part := .running, ctrlEnable := true, setup := some setup0, tail := 1, reqTailReg := 1 }).withPort 0 x

/-- The same with an access in flight. -/
def flying (a : Access) (x : Port) : State :=
  { running x with bus := { Bus.reset with flight := some { access := a, live := true, wanted := true } } }

/-- The same with a request fetch in flight. -/
def fetching (x : Port) : State :=
  { flying (.requestFetch 0x10000000) x with
    ort := [entry0], cpl := { CompletionWriter.reset with reserved := 1 } }

theorem fetched (x : Port) : (fetching x).Fetched setup0 entry0 := ⟨rfl, rfl, rfl, rfl⟩

theorem tableSound (x : Port) : (fetching x).TableSound entry0 := by
  exact ⟨List.nodup_singleton _, fun e h _ => List.mem_singleton.mp h⟩

/-- The state a command answers, or the one it met. -/
def after (i : Instr) (s : State) : State :=
  match exec i s with
  | .next t => t
  | .fault _ => s
  | .refused _ => s

/-- The statuses and results handed over, oldest first. -/
def handed (s : State) : List (Status × Word) := s.cpl.done.map fun c => (c.status, c.result)

/-- An instant that has passed is reached where the state stands. -/
theorem reaches_passed (s : State) (n : Nat) (h : n ≤ s.time) : s.Reaches n s := by
  unfold State.Reaches
  rw [Nat.max_eq_left h]
  exact if_pos rfl

/-! ### Records (section 10.2), written out octet by octet -/

/-- A PORT_ENABLE for port 2 with host tag 1234h: kind 03h, target 02h, tag low octet first, then zeros. -/
theorem test_decode_port_enable :
    decodeRecord false 0x12340203#256 = .portEnable ⟨{ target := 2, tag := 0x1234, fields := 0 }, false⟩ := by
  decide +kernel

/-- A PARAM_READ for port 2, index 7, length 64, buffer 20000h (example of chapter 7), host tag 12. -/
def paramRecord : ReqRecord := { target := 2, tag := 12, fields := 0x00020000_0040_0007#224 }

theorem test_decode_param_read :
    decodeRecord true 0x00020000_0040_0007_000C_02_0A#256 = .paramRead ⟨paramRecord, true⟩ ∧
    paramIndex paramRecord = 7 ∧ paramLength paramRecord = 64 ∧ paramBuffer paramRecord = 0x20000 ∧
    checkParam paramRecord = none := by decide +kernel

/-- A kind octet of 0Eh names none (R132). -/
theorem test_decode_unnamed_kind : decodeRecord false 0x0E#256 = .unknownRequestKind 0x0E blankRecord := by decide +kernel

/-- A REQUEST_DONE record, section 10.3: type 1 with phase, kind, tag, result, timestamp, head, status, target. -/
theorem test_done_record :
    doneRecord { ort := 0, tag := 0x0102, kind := kindNop, target := 9, status := .badPort, result := 0x0A0B0C0D,
                 arrival := 0 } true 0x11121314 5 =
      [0x81, 0x01, 0x02, 0x01, 0x0D, 0x0C, 0x0B, 0x0A, 0x14, 0x13, 0x12, 0x11, 0x05, 0x00, 0x02, 0x09] := by
  decide +kernel

/-! ### Examples of chapters 2, 7 and 8 -/

/-- Chapter 7: the NOP of tag 14 completes OK with result 1, its own entry alone. -/
theorem test_nop_counts_its_own_entry : handed (after (.nop blankRecord) (fetching port0)) = [(.ok, 1)] := by
  decide +kernel

/-- Chapter 7: the BRING_UP for port 9 completes BAD_PORT and carries its target as read. -/
theorem test_bring_up_of_port_nine :
    (after (.bringUp ⟨{ blankRecord with target := 9 }, false⟩) (fetching port0)).cpl.done.map (fun c => (c.status, c.target)) =
      [(.badPort, 9)] := by decide +kernel

/-- Chapter 7: the PARAM_READ finds IDLE and is refused. -/
theorem test_param_read_in_idle :
    handed (after (.paramRead ⟨{ paramRecord with target := 0 }, false⟩) (fetching idlePort)) = [(.badPortState, 0)] := by
  decide +kernel

/-- Port 0 of the example of chapter 2: a waiting stop (entry 1), an active write whose fetch is claimed (2), two queued reads
(3, 4) and a claimed report (5). -/
def busyPort : Port :=
  let transfer := fun (i : Nat) (w : Bool) =>
    ({ ort := i, tag := 0, write := w, index := 0, length := 20, buffer := 0x1000, ending := none } : Transfer)
  { readyPort with
    state := .cyclic, slot := some (.cycleStop, 1), stopPending := true
    queue := [transfer 2 true, transfer 3 false, transfer 4 false]
    te := { TransferEngine.reset with phase := .fetching, transfer := some (transfer 2 true), octetsDone := 4, sent := true }
    queries := [{ ort := 5, buffer := 0x2000, report := [], state := .cyclic }]
    xclaims := [.fetch 0x1004 8, .report 5] }

/-- The fetch of the PORT_DISABLE's record (entry 6) is in flight. -/
def busy : State :=
  { fetching busyPort with
    ort := (List.range 7).map fun i => { entry0 with id := i, st := if i = 6 then .fetching else .queued }
    cpl := { CompletionWriter.reset with reserved := 7 } }

/-- The same after the take, the PORT_DISABLE being late, and after the grant of the fetch: what chapter 2 starts from. -/
def busyAtArrival : State := after .bmuGrant (after (.portDisable ⟨blankRecord, true⟩) busy)

/-- Chapter 2: the PORT_DISABLE arrives with the transfer's fetch in flight. The order of hand-over, the result 5, and the
PORT_DISABLE last, after the fetch has ended. -/
theorem test_port_disable_in_the_middle_of_work :
    let s := busyAtArrival
    let t := s.portArrival 0
    let u := after (.transferFetchEnd (some 0)) t
    .portArrival 0 ∈ s.dueNow ∧ s.entryState 6 = some .routed ∧ s.flightOf Access.transferPort 0 = true ∧
    t.cpl.done.map (·.ort) = [1, 3, 4, 5] ∧ t.entryState 6 = some .waiting ∧ (t.port 0).state = .disabled ∧
    u.cpl.done.map (fun c => (c.ort, c.status, c.result)) =
      [(1, .portDisabled, 0), (3, .portDisabled, 0), (4, .portDisabled, 0), (5, .portDisabled, 0),
       (2, .portDisabled, 0), (6, .ok, 5)] ∧ (u.port 0).queue = [] := by decide +kernel

/-- R134: while an arrival is on its way no time passes, and a further request of the port waits behind it (R135). -/
theorem test_arrivals_keep_their_order :
    let s := after (.portQuery ⟨{ blankRecord with tag := 9, fields := 0x2000 }, false⟩)
      { busyAtArrival with
        bus := { Bus.reset with flight := some { access := .requestFetch 0x10000000, live := true, wanted := true } }
        ort := entry0 :: busyAtArrival.ort.drop 1 }
    s.tick = s ∧ (s.port 0).inbox.map (fun a => match a with
      | .request id k _ => (id, k)
      | .abort _ _ => (0, 0)) = [(6, kindPortDisable), (0, kindPortQuery)] := by decide +kernel

/-- The completion ring of the example of chapter 8: tail 15, 15 used, one reservation, two events, tag 5 handed. -/
def fullRing : State :=
  { running port0 with
    ort := [{ entry0 with tag := 5, st := .done }]
    cpl := { CompletionWriter.reset with
      tail := 15, used := 15, reserved := 1, unsignalled := 15
      done := [{ ort := 0, tag := 5, kind := kindParamRead, target := 6, status := .linkLost, result := 0, arrival := 2 }]
      events := [{ port := 6, kind := .cycleSlip, count := 2, detail := 2, first := 3000, arrival := 0 },
                 { port := 6, kind := .linkLost, count := 1, detail := 2, first := 6000, arrival := 1 }] } }

/-- Chapter 8: the event head lacks credit, so tag 5 is written, in slot 15; the tail wraps and the phase inverts. -/
theorem test_completion_before_waiting_events :
    let s := after .bmuGrant (after .completionWriteClaim fullRing)
    let t := after (.recordWriteEnd true) s
    (s.bus.flight.map fun f => match f.access with
      | .recordWrite a l o => (a, l.take 1, o)
      | _ => (0, [], none)) = some (0x200000F0, [0x81], some 0) ∧
    t.cpl.tail = 0 ∧ t.cpl.phase = false ∧ t.cpl.used = 16 ∧ t.cpl.reserved = 0 ∧ t.ort = [] ∧ t.cpl.unsignalled = 16 := by
  decide +kernel

/-- Chapter 8: CPL_HEAD = 8 with head 0 and 16 used returns 8 slots, 3 returns three, 0 none; 20 halts the part. -/
theorem test_cpl_head_of_chapter_8 :
    let s := { running port0 with cpl := { CompletionWriter.reset with used := 16, unsignalled := 16, condition := true } }
    (after (.cplHead 8) s).cpl.used = 8 ∧ (after (.cplHead 3) s).cpl.used = 13 ∧ (after (.cplHead 0) s).cpl.used = 16 ∧
    (after (.cplHead 0) s).cpl.condition = false ∧ (after (.cplHead 20) s).haltCause = some .badHead := by decide +kernel

/-! ### Examples of chapter 4 -/

def grouped (g : GroupId) (d phase period : Nat) (next : Option Word) (delivered : Bool) : Sched :=
  { kind := .grouped g d phase, period := period, next := next, delivered := delivered }

/-- Three confirmed members of G1 wait in ARMED at 5,000,000. -/
def beforeFire : State :=
  let wait := fun (d phase : Nat) =>
    { readyPort with state := .armed, sched := some (grouped 1 d phase (1000 * d) none false) }
  { (((fetching (wait 1 0)).withPort 1 (wait 2 250)).withPort 4 (wait 4 500)).withGroup 1
    { Group.reset with members :=
      [{ port := 0, divisor := 1, phase := 0, tentative := false }, { port := 1, divisor := 2, phase := 250, tentative := false },
       { port := 4, divisor := 4, phase := 500, tentative := false }] } with
    time := 32 * 5000000 }

/-- Firing a group with three members: epoch 5,000,100; starts at 5,000,100, 5,000,350 and 5,000,600. -/
theorem test_first_fire :
    let t := after (.syncFire ⟨{ blankRecord with target := 2 }, false⟩) beforeFire
    handed t = [(.ok, 5000100)] ∧ (t.group 1).running = some { epoch := 5000100, next := 5000100, fresh := true } ∧
    ([0, 1, 4].map fun p => (t.port p).sched.bind (·.next)) = [some 5000100, some 5000350, some 5000600] := by
  decide +kernel

/-- The link of port 6 in the second example: L1, lengths 1 and 1. -/
def link1 : Link :=
  { desc := { stationClass := 1, revision := 1, minPeriod := 5, outLen := 1, inLen := 1, segCode := 0, stationId := 9 }
    speed := .l1 }

/-- G2 is RUNNING; port 6 has been sending since 1,016,000, port 7 has taken the sampling instant of 1,018,500. -/
def beforeRefire : State :=
  let six : Port := { readyPort with
    state := .cyclic, link := some link1, sched := some (grouped 2 4 0 8000 (some 1024000) false)
    lf := { Framer.reset with
      state := .sending, txen := true
      flight := some { frame := cyclicFrame link1 [0] false, start := 32 * 1016000 } }
    cyc := { CycleEngine.reset with underWay := some 1016000 } }
  let seven : Port := { readyPort with
    state := .cyclic, sched := some (grouped 2 1 500 2000 (some 1018500) true)
    cyc := { CycleEngine.reset with sample := .complete (some 4) [] false, admitted := true } }
  { (((fetching port0).withPort 6 six).withPort 7 seven).withGroup 2
    { period := 2000, source := .host, beatNumber := 10
      running := some { epoch := 1000000, next := 1020000, fresh := false }
      members := [{ port := 6, divisor := 4, phase := 0, tentative := false },
                  { port := 7, divisor := 1, phase := 500, tentative := false }] } with
    time := 32 * 1018450 }

/-- A re-fire with a committed line: port 6 to 1,026,550 with one slip, port 7 to 1,019,050 with none, its sample gone. -/
theorem test_refire :
    let t := after (.syncFire ⟨{ blankRecord with target := 4 }, false⟩) beforeRefire
    handed t = [(.ok, 1018550)] ∧ (t.port 6).sched.bind (·.next) = some 1026550 ∧ (t.port 6).counters.slips = 1 ∧
    (t.port 7).sched.bind (·.next) = some 1019050 ∧ (t.port 7).counters.slips = 0 ∧ (t.port 7).cyc.sample = .empty ∧
    t.cpl.events.map (fun e => (e.port, e.kind, e.detail)) = [(6, .cycleSlip, 1)] := by decide +kernel

/-! ### Examples of chapter 5 -/

/-- A CYCLE_START for port 3: group octet, divisor, phase and free period (section 10.2). -/
def cycleRecord (g d : Byte) (phase period : Word) : ReqRecord :=
  { target := 3, tag := 0, fields := (((0#128 ++ period) ++ phase) ++ 0#16) ++ (d ++ g) }

/-- Port 3 READY at L2 with lengths 4 and 6 and minimum period 1000 µs, both images present; G2 at 500 µs; 20,000 µs. -/
def beforeCycleStart (out : Word) : State :=
  { ((fetching port0).withPort 3 { readyPort with
      link := some { link3 with desc := { link3.desc with minPeriod := 10, inLen := 6 }, speed := .l2 }
      config := { PortConfig.reset with outImage := out, inImage := 0x2000 } }).withGroup 2
    { Group.reset with period := 500 } with time := 32 * 20000 }

/-- The refusals of the table. -/
theorem test_cycle_start_refused :
    let refusal := fun r out => handed (after (.cycleStart ⟨r, false⟩) (beforeCycleStart out))
    refusal (cycleRecord 0xFF 0 0 1000) 0x1000 = [(.badPeriod, 0)] ∧
    refusal (cycleRecord 2 2 400 0) 0x1000 = [(.badPeriod, 0)] ∧
    refusal (cycleRecord 2 3 500 0) 0x1000 = [(.badParameter, 0)] ∧
    refusal (cycleRecord 2 3 500 0) 0 = [(.badParameter, 0)] := by decide +kernel

/-- The accepted rows: ARMED, the first start of the free port 100 µs on, and port 3 in the member list of G2. -/
theorem test_cycle_start_accepted :
    let free := after (.cycleStart ⟨cycleRecord 0xFF 0 0 1200, false⟩) (beforeCycleStart 0x1000)
    let joined := after (.cycleStart ⟨cycleRecord 2 3 400 0, false⟩) (beforeCycleStart 0x1000)
    (free.port 3).state = .armed ∧ (free.port 3).sched.bind (·.next) = some 20100 ∧ handed free = [] ∧
    (joined.port 3).state = .armed ∧ (joined.port 3).sched = some (grouped 2 3 400 1500 none false) ∧
    (joined.group 2).members = [{ port := 3, divisor := 3, phase := 400, tentative := false }] := by decide +kernel

/-- CYCLIC at L3 in the cycle of 20,100, its reply being received: the first character began at 20,200 µs. -/
def receivingPort (f : Frame) (start edge : Nat) : Port :=
  { readyPort with
    config := { PortConfig.reset with inImage := 0x2000 }
    lf := { Framer.reset with
      state := .receiving, flight := some { frame := f, start := start }
      rx := some { edge := some edge, count := 0, crc := crcPreset, octets := [], lastEnd := edge } } }

def cycleUnderWay : State :=
  { running { receivingPort (cyclicFrame link3 [1, 2, 3, 4] false) (32 * 20100) (32 * 20200) with
      state := .cyclic
      counters := { Counters.reset with cyclesStarted := 1 }
      cyc := { CycleEngine.reset with underWay := some 20100, lastGen := some 7 } } with
    time := 32 * 20200 + 10 * 6 * 50 }

/-- The same when its first character has just begun, and no record waits to be fetched. -/
def cycleUnderWayAtEdge : State := { cycleUnderWay with time := 32 * 20200, tail := 0 }

/-- The characters of a reply: the covered octets and their CRC, back to back. -/
def replyOf (covered : List Byte) : List RxChar := (covered ++ [crc covered]).map char

/-- Cycle 1: the reply is OK with ATTENTION clear; the input generation becomes 1 and the image goes to slot 1, 40 octets
above the base, its data 8 octets into the slot and before the header (R93, section 10.5). -/
theorem test_first_input_image :
    let t := after (.stationReply 0 (replyOf [0, 5, 6, 7, 8]) none) cycleUnderWay
    (t.port 0).cyc.inputGen = 1 ∧ (t.port 0).lf.state = .guard ∧
    (t.port 0).cyc.list =
      [.write false 0x2030 [5, 6, 7, 8],
       .write true 0x2028 [0x01, 0x00, 0x04, 0x84, 0x4E, 0x00, 0x01, 0x00]] := by decide +kernel

/-- Cycle 3: ATTENTION set posts STATION_ATTENTION with detail 1. -/
theorem test_attention_is_posted :
    (after (.stationReply 0 (replyOf [0x10, 5, 6, 7, 8]) none) cycleUnderWay).cpl.events.map
      (fun e => (e.kind, e.detail)) = [(.stationAttention, 1)] := by decide +kernel

/-- R98: a waiting stop ends at the outcome of its cycle, but not while a cycle sampled before the stop is still to run. -/
theorem test_stop_lets_the_sampled_cycle_run :
    let x := cycleUnderWay.port 0
    let t := fun admitted : Bool => after (.stationReply 0 (replyOf [0, 5, 6, 7, 8]) none)
      { cycleUnderWay.withPort 0 { x with
          slot := some (.cycleStop, 0), stopPending := true
          cyc := { x.cyc with admitted := admitted, sample := .complete (some 8) [1, 2, 3, 4] false } } with
        ort := [{ entry0 with st := .waiting }] }
    ((t false).port 0).state = .ready ∧ handed (t false) = [(.ok, 0)] ∧
    ((t true).port 0).state = .cyclic ∧ handed (t true) = [] ∧
    ((t true).port 0).cyc.sample = .complete (some 8) [1, 2, 3, 4] false := by decide +kernel

/-- R15: a wrong CRC octet fails with CRC, a stop bit sampled dominant with FRAMING. -/
theorem test_bad_replies :
    let causeOf := fun l n =>
      ((after (.stationReply 0 l none) { cycleUnderWay with time := 32 * 20200 + n }).port 0).counters.lastFailure
    causeOf ([0, 5, 6, 7, 8, 0].map char) 3000 = some .crc ∧
    causeOf [{ gap := 0, octet := 0, stop := false }] 475 = some .framing := by decide +kernel

/-! ### Examples of chapter 6 -/

/-- The link of port 3: L2, S = 16. -/
def link2 : Link :=
  { desc := { stationClass := 1, revision := 1, minPeriod := 10, outLen := 4, inLen := 6, segCode := 1, stationId := 9 }
    speed := .l2 }

/-- A write in the gaps of a schedule: the fit test, and the window tests of segments 1, 2 and 3. -/
theorem test_write_in_the_gaps :
    fitTest PortConfig.reset link2 5000 = true ∧ windowTest 100962 105000 2688 = true ∧
    windowTest 102350 105000 2688 = false ∧ windowTest 107350 110000 2438 = true ∧
    serviceWindow PortConfig.reset link2 18 = 2688 ∧ serviceWindow PortConfig.reset link2 14 = 2438 ∧
    serviceWindow PortConfig.reset link2 2 = 1688 := by decide +kernel

/-- Its segments carry 12, 16 and 12 octets. -/
theorem test_segments_of_a_write :
    let t : Transfer := { ort := 0, tag := 12, write := true, index := 300, length := 40, buffer := 0x1000, ending := none }
    ([0, 12, 28].map (nextWriteLen t 16)) = [12, 16, 12] ∧
    (writeSegment t 0 (List.replicate 12 0)).payload.take 4 = [0x2C, 0x01, 0x28, 0x00] ∧
    (writeSegment t 28 (List.replicate 12 0)).last = true := by decide +kernel

/-- Port 0 in READY at L3, S = 8, awaits the reply to segment 3 of a read of at most 20 octets, 16 being done. -/
def thirdSegment : State :=
  let t : Transfer := { ort := 0, tag := 0, write := false, index := 7, length := 20, buffer := 0x1000, ending := none }
  let g := { readSegment t false with toggle := some false }
  { running { receivingPort (segmentFrame readyPort g false) 0 1000 with
      queue := [t]
      te := { TransferEngine.reset with
        phase := .exchange, transfer := some t, octetsDone := 16, segment := some g, sent := true, lastToggle := false } } with
    ort := [{ entry0 with st := .active }], cpl := { CompletionWriter.reset with reserved := 1 }
    time := 1000 + 10 * 11 * 50 }

/-- A read that outruns its maximum length: OK, LEN 8, LAST sets TOO_LONG, an abandon follows, and the result is 16. The OK
reply with data clears the busy count (R112). -/
theorem test_read_too_long :
    let s := thirdSegment.withPort 0 { thirdSegment.port 0 with te := { (thirdSegment.port 0).te with busies := 3 } }
    let t := after (.stationReply 0 (replyOf ([0x08, 0x08] ++ List.replicate 8 0)) none) s
    (t.port 0).te.cause = some .tooLong ∧ (t.port 0).te.busies = 0 ∧ (t.port 0).te.phase = .abandonWait ∧
    abandonResult (t.port 0).te .tooLong = 16 := by decide +kernel

/-- R9, R15: a reply with the other TOGGLE fails with TOGGLE, and a LEN above S with LENGTH. -/
theorem test_bad_service_replies :
    let causeOf := fun l n =>
      ((after (.stationReply 0 l none) { thirdSegment with time := 1000 + n }).port 0).counters.lastFailure
    causeOf (replyOf [0x04, 0x00]) 1500 = some .toggle ∧ causeOf ([0x00, 0x09].map char) 975 = some .length := by
  decide +kernel

/-! ### Examples of chapter 3 -/

/-- Port 5 of the chapter's first example, here port 0: IDENTIFY at L2 has failed to be answered by 745 µs. -/
def identifying : State :=
  { running { idlePort with
      state := .bringup, slot := some (.bringUp, 0), config := { PortConfig.reset with speedMask := 3 }
      lf := { Framer.reset with
        state := .awaiting, recessiveSince := some 0, timer := some (32 * 745)
        flight := some { frame := identifyFrame .l2, start := 32 * 520 } }
      seq := { Sequencer.reset with phase := .identify, ladder := [.l2, .l1], attempts := 1 } } with
    ort := [{ entry0 with st := .active }], cpl := { CompletionWriter.reset with reserved := 1 }
    time := 32 * 745 }

/-- NO_REPLY at 745 µs: rung 2 is handed over and held, and the guard ends at 795. -/
theorem test_second_rung :
    let t := after (.noReply 0 0) identifying
    (t.port 0).lf.state = .guard ∧ (t.port 0).lf.timer = some (32 * 795) ∧ (t.port 0).seq.rung = 2 ∧
    (t.port 0).lf.held = some (.frame (identifyFrame .l1)) ∧ (t.port 0).counters.failed = 1 := by decide +kernel

/-- R4, R13: an edge 0.2 Tb before T_resp expires holds the judgement. The line dominant at its sample, the part confirms it; the
line recessive again, NO_REPLY is declared at that sample, half a Tb after the edge, and the operand tells 60 units. -/
theorem test_candidate_edge_holds_the_limit :
    let e := 32 * 745
    let s := after (.rxdLevelChange 0 false) { identifying with time := e - 40, tail := 0 }
    let glitch := after (.rxdLevelChange 0 true) { s with time := e + 10 }
    s.noReplyDue 0 = none ∧ (s.confirmSteps 0).map (fun d => (d.first, d.cmd)) = [(e + 60, .replyStartEdge 0 3160)] ∧
    after (.noReply 0 0) s = s ∧ ((after (.replyStartEdge 0 3160) s).port 0).lf.rx.bind (·.edge) = some (e - 40) ∧
    after (.noReply 0 0) glitch = glitch ∧ (after (.noReply 0 60) glitch).time = e + 60 ∧
    ((after (.noReply 0 60) glitch).port 0).counters.lastFailure = some .noReply := by decide +kernel

/-- R11, R14: a station that goes on after its last character, dominant from 9.7 Tb of it, leaves the line dominant. -/
theorem test_line_stays_dominant_after_a_reply :
    let n := 32 * 20200 + 10 * 6 * 50
    let start := n - 500
    let five := after (.stationReply 0 ((replyOf [0, 5, 6, 7, 8]).take 5) (some 0)) cycleUnderWayAtEdge
    let told := after (.rxdLevelChange 0 false) { after (.rxdLevelChange 0 true) { five with time := start + 450 } with
      time := start + 485 }
    let t := after (.stationReply 0 ((replyOf [0, 5, 6, 7, 8]).drop 5) none) told
    t.time = n ∧ (t.port 0).lf.state = .guard ∧ (t.port 0).rxd = false ∧ (t.port 0).lf.dominantSince = some (start + 485) ∧
    (t.port 0).lf.recessiveSince = none := by decide +kernel

/-- R4, R14: the station's next character begins as the one before ends, its edge told before that character's STATION_REPLY. It is a
candidate edge: no GAP is declared while it awaits its sample, and the part confirms it there. -/
theorem test_edge_at_the_end_of_a_character :
    let start := 32 * 20200 + 10 * 3 * 50
    let four := after (.stationReply 0 ((replyOf [0, 5, 6, 7, 8]).take 3) (some 0)) cycleUnderWayAtEdge
    let told := after (.rxdLevelChange 0 false) { after (.rxdLevelChange 0 true) { four with time := start + 450 } with
      time := start + 500 }
    let t := after (.stationReply 0 (((replyOf [0, 5, 6, 7, 8]).drop 3).take 1) none) told
    four.time = start + 25 ∧ (t.port 0).lf.candidate = some (start + 500) ∧ (t.port 0).rxd = false ∧
    t.gapDue 0 = none ∧ (t.confirmSteps 0).map (fun d => (d.first, d.cmd)) = [(start + 525, .stationReply 0 [] (some 0))] ∧
    ((after (.stationReply 0 [] (some 0)) t).port 0).lf.rx.bind (·.edge) = some (start + 500) ∧
    after (.stationReply 0 (((replyOf [0, 5, 6, 7, 8]).drop 3).take 1) (some 40)) told = told := by decide +kernel

/-- The result of a BRING_UP that completes OK: id 9, lengths 4 and 6, segment code 1, speed 2 (section 10.3). -/
theorem test_bring_up_result : bringUpResult link2 = 0x91840009#32 := by decide +kernel

/-- The recovery table: a longer minimum period within the port's period and a new segment size are no change. -/
theorem test_recovery_changes :
    let d := link2.desc
    let changed := fun n => descriptorChanged d n true 2000
    changed { d with minPeriod := 15 } = false ∧ changed { d with minPeriod := 25 } = true ∧
    changed { d with inLen := 8 } = true ∧ changed { d with segCode := 2 } = false ∧
    descriptorFailure { d with revision := 2 } = some 2 := by decide +kernel

/-- R120, R131: a link end to IDLE finds a write whose first fetch is in flight: its entry is QUEUED again, and it is handed over
when the fetch has ended. -/
theorem test_unsent_transfer_goes_back_to_its_queue :
    let b : Transfer := { ort := 0, tag := 0, write := true, index := 0, length := 20, buffer := 0x1000, ending := none }
    let s := { flying (.transferFetch 0 0x1000 4) { readyPort with
        config := { PortConfig.reset with autoRecovery := false }, queue := [b]
        te := { TransferEngine.reset with phase := .fetching, transfer := some b } } with
      ort := [{ entry0 with st := .active }] }
    let t := s.linkEnd 0 .noReply
    t.entryState 0 = some .queued ∧ handed t = [] ∧ handed (after (.transferFetchEnd (some 0)) t) = [(.linkLost, 0)] := by
  decide +kernel

/-! ### Witnesses: for each claim with hypotheses, states and operands that meet them, at the ends of their ranges -/

/-- A record is about to be taken, with port 0 as given, and nothing waits at a target. -/
def Taking (x : Port) : Prop :=
  (fetching x).Fetched setup0 entry0 ∧ (fetching x).TableSound entry0 ∧ ((fetching x).port 0).inbox = [] ∧
  (fetching x).unitInbox = []

theorem taking (x : Port) (h : x.inbox = []) : Taking x := ⟨fetched x, tableSound x, h, rfl⟩

/-- With further entries in the table, their slots reserved. -/
def withEntries (es : List OrtEntry) (s : State) : State :=
  { s with ort := s.ort ++ es, cpl := { s.cpl with reserved := s.cpl.reserved + es.length } }

/-- Where one step alone is due it is the one taken. -/
theorem dueStep_single (s : State) (d : OwnStep) (h : s.dueNow = [d]) : s.dueStep = some d := by
  unfold State.dueStep
  rw [h]
  simp [Nat.mod_one]

/-- An idle part; a fetch, an arrival at port 0 and one at the Schedule Unit, each the only thing due. -/
theorem witness_StepRunsTheFrontCommand :
    let port := State.reset.withPort 0 { port0 with inbox := [.abort 0 1] }
    let unit := { State.reset with unitInbox := [.request 0 kindSyncFire blankRecord] }
    (State.reset.pending = [] ∧ State.reset.dueStep = none) ∧
    ((running port0).pending = [] ∧ (running port0).dueStep = some (.row .fetch)) ∧
    (port.pending = [] ∧ port.dueStep = some (.portArrival 0)) ∧
    (unit.pending = [] ∧ unit.dueStep = some .unitArrival) :=
  ⟨⟨rfl, rfl⟩, ⟨rfl, dueStep_single _ _ (by decide +kernel)⟩, ⟨rfl, dueStep_single _ _ (by decide +kernel)⟩,
    rfl, dueStep_single _ _ (by decide +kernel)⟩

theorem witness_NoCommandTouchesTheQueue : exec .fetch State.reset = .next State.reset := rfl

theorem witness_RecordsDecodeToTheirRows :
    (Instr.paramRead ⟨paramRecord, true⟩).wellFormed = true ∧
    encodeRecord (.paramRead ⟨paramRecord, true⟩) = some 0x00020000_0040_0007_000C_02_0A#256 ∧
    (Instr.unknownRequestKind 0xFF blankRecord).wellFormed = true ∧
    encodeRecord (.unknownRequestKind 0xFF blankRecord) = some 0xFF#256 := by decide +kernel

/-- Its completion ring is full with the reservation of the fetch in flight, and a PORT_ENABLE waits at port 3. -/
def fullFront : State :=
  { (fetching port0).withPort 3 { port0 with inbox := [.request 5 kindPortEnable blankRecord] } with
    cpl := { CompletionWriter.reset with used := 15, reserved := 1 } }

/-- A state that meets every invariant, and the step from it. -/
theorem witness_invariants :
    let s := { fullFront with pending := [.nop blankRecord] }
    s.Books ∧ s.Credit ∧ s.EventsDistinct ∧ s.IndicesBelow ∧ s.NoneBefore ∧ s.MissesBelow ∧ s.ArrivalsValid ∧ s.LineSafe ∧
    step s = .next (after (.nop blankRecord) fullFront) := by
  refine ⟨⟨rfl, by decide +kernel⟩, ⟨by decide +kernel, by decide +kernel, by decide +kernel, by decide +kernel,
    by decide +kernel, ?_⟩, List.Pairwise.nil, ?_, ⟨by decide +kernel, by decide +kernel⟩, ?_, ?_, ?_, rfl⟩
  · intro u h
    obtain rfl := Option.some.inj h
    decide +kernel
  · intro u h
    obtain rfl := Option.some.inj h
    decide +kernel
  · unfold State.MissesBelow
    decide +kernel
  · rintro id k r (h | ⟨p, h⟩)
    · exact nomatch h
    · have every : ∀ p : PortId, ∀ a ∈ (fullFront.port p).inbox, a = .request 5 kindPortEnable blankRecord := by
        decide +kernel
      obtain ⟨rfl, rfl, rfl⟩ := Arrival.request.inj (every p _ h)
      decide +kernel
  · unfold State.LineSafe
    decide +kernel

/-- A failed port and a failed reserved octet; a PORT_ENABLE and a SYNC_FIRE that pass, late or not, with nothing waiting at the
target and with an earlier arrival there. -/
theorem witness_AFailedCheckIsReported :
    let port := fetching { port0 with inbox := [.abort 1 2] }
    let unit := { fetching port0 with unitInbox := [.request 1 kindSyncFire blankRecord] }
    let fire : ReqRecord := { blankRecord with target := 1 }
    (recordOf (.bringUp ⟨{ blankRecord with target := 8 }, true⟩) = some (kindBringUp, { blankRecord with target := 8 }) ∧
      checkOf (.bringUp ⟨{ blankRecord with target := 8 }, true⟩) = some (some .badPort)) ∧
    (recordOf (.nop { blankRecord with target := 1 }) = some (kindNop, { blankRecord with target := 1 }) ∧
      checkOf (.nop { blankRecord with target := 1 }) = some (some .badRequest)) ∧ Taking port0 ∧
    (checkOf (rowOfKind kindPortEnable false blankRecord) = some none ∧ kindOfPort kindPortEnable = true ∧
      port.Fetched setup0 entry0 ∧ (port.port (targetPort blankRecord)).inbox ≠ []) ∧
    checkOf (rowOfKind kindSyncFire false fire) = some none ∧ kindOfUnit kindSyncFire = true ∧
    unit.Fetched setup0 entry0 ∧ unit.unitInbox ≠ [] :=
  ⟨by decide +kernel, by decide +kernel, taking _ rfl, ⟨by decide +kernel, by decide +kernel, fetched _, by decide +kernel⟩,
    by decide +kernel, by decide +kernel, ⟨rfl, rfl, rfl, rfl⟩, by decide +kernel⟩

theorem witness_AnUnknownKindIsBadRequest :
    kindNamed 0 = false ∧ kindNamed 14 = false ∧ kindNamed 0xFF = false ∧ Taking port0 :=
  ⟨by decide, by decide, by decide, taking _ rfl⟩

theorem witness_ANopReportsTheEntriesInUse :
    checkNop blankRecord = none ∧ (fetching port0).Fetched setup0 entry0 ∧ (fetching port0).TableSound entry0 ∧
    (fetching port0).NotAwaited entry0.id ∧ (fetching port0).Books :=
  ⟨by decide +kernel, fetched _, tableSound _, by unfold State.NotAwaited; decide +kernel, rfl, by decide +kernel⟩

/-- PORT_CONFIG with every field at its least: mask 1, T_resp 6, G 0, miss limit 1, policy 0, stale limit 1, no recovery,
1 attempt, backoff 1, code 0, retry limit 0, busy limit 1, no images. -/
def leastConfig : ReqRecord := { blankRecord with fields := 0x01_00_00_01_01_00_01_00_01_00_06_01#224 }

/-- The same with every field at its greatest: mask 7, T_resp 60, G 6, miss limit 15 and so on, images at the top. -/
def greatestConfig : ReqRecord :=
  { blankRecord with fields := 0xFFFFFFB0_FFFFFFD8_FF_03_03_FF_07_01_FF_02_0F_06_3C_07#224 }

theorem witness_PortConfigReplacesTheConfiguration :
    checkPortConfig leastConfig = none ∧ checkPortConfig greatestConfig = none ∧
    (Taking port0 ∧ ((fetching port0).port (targetPort leastConfig)).state = .disabled) ∧
    (Taking idlePort ∧ ((fetching idlePort).port (targetPort leastConfig)).state = .idle) ∧
    Taking readyPort ∧ ((fetching readyPort).port (targetPort leastConfig)).state = .ready :=
  ⟨by decide +kernel, by decide +kernel, ⟨taking _ rfl, rfl⟩, ⟨taking _ rfl, rfl⟩, taking _ rfl, rfl⟩

/-- A kind that carries its port alone, for port 0 and port 7. -/
theorem witness_PortEnableTurnsThePortOn :
    checkPortOnly blankRecord = none ∧ checkPortOnly { blankRecord with target := 7 } = none ∧
    (Taking port0 ∧ ((fetching port0).port 0).state = .disabled) ∧
    (Taking { port0 with state := .fault } ∧ ((fetching { port0 with state := .fault }).port 0).state = .fault) ∧
    Taking idlePort ∧ ((fetching idlePort).port 0).state = .idle :=
  ⟨by decide +kernel, by decide +kernel, ⟨taking _ rfl, rfl⟩, ⟨taking _ rfl, rfl⟩, taking _ rfl, rfl⟩

/-- A queued read with table entry 3. -/
def queuedRead : Transfer :=
  { ort := 3, tag := 4, write := false, index := 1, length := 4096, buffer := 0x1000, ending := none }

/-- A READY port with a queued transfer. -/
def queueingPort : Port := { readyPort with queue := [queuedRead] }

/-- The port of chapter 2 at a PORT_DISABLE that acts within its take; and a late one that finds the transfer's fetch in flight,
or the report write. -/
theorem witness_PortDisableClearsThePort :
    let held := fun i : Nat => { entry0 with id := i, st := .queued }
    let x := busy.port 0
    let s := busyAtArrival
    let d : OrtEntry := { held 6 with tag := blankRecord.tag, kind := kindPortDisable, target := 0, st := .routed }
    let reporting := { s.withPort 0 { s.port 0 with xclaims := [.fetch 0x1004 8] } with
      bus := { Bus.reset with flight := some { access := .reportWrite 0 5 0x2000 [], live := true, wanted := true } } }
    (targetPort blankRecord = 0 ∧ x.disables = [] ∧ (∀ b ∈ x.queue, b.ending = none) ∧ checkPortOnly blankRecord = none ∧
      busy.Fetched setup0 { entry0 with id := 6 } ∧ busy.TableSound { entry0 with id := 6 } ∧ x.inbox = [] ∧
      x.reportClaims = x.queries.map (·.ort) ∧ ([1, 2, 3, 4, 5].map held).map (·.id) = x.requestIds ∧
      (6 :: x.requestIds).Nodup ∧ busy.Open ([1, 2, 3, 4, 5].map held) ∧ busy.NotAwaited 6) ∧
    (s.pending = [] ∧ s.dueStep = some (.portArrival 0) ∧ (s.port 0).disables = [] ∧
      (s.port 0).inbox = [.request 6 kindPortDisable blankRecord] ∧
      s.bus.flight = some { access := .transferFetch 0 0x1004 8, live := true, wanted := true } ∧
      (s.port 0).te.transfer = (s.port 0).queue.head? ∧ ((s.port 0).queue.map fun b => (b.ort, b.ending)) =
        [(2, none), (3, none), (4, none)] ∧ (s.port 0).reportClaims = [5] ∧ (s.port 0).slot.map (·.2) = some 1 ∧
      s.Open (held 2 :: d :: [1, 3, 4, 5].map held)) ∧
    (reporting.pending = [] ∧ reporting.dueStep = some (.portArrival 0) ∧ (reporting.port 0).disables = [] ∧
      (reporting.port 0).inbox = [.request 6 kindPortDisable blankRecord] ∧ (reporting.port 0).reportClaims = [] ∧
      ((reporting.port 0).queries.map (·.ort)) = [5] ∧ reporting.Open (held 5 :: d :: [1, 2, 3, 4].map held)) := by
  unfold State.Open State.NotAwaited
  refine ⟨⟨rfl, rfl, by decide +kernel, by decide +kernel, ⟨rfl, rfl, rfl, by decide +kernel⟩, ?_, rfl, by decide +kernel,
    by decide +kernel, by decide +kernel, by decide +kernel, by decide +kernel⟩,
    ⟨rfl, dueStep_single _ _ (by decide +kernel), by decide +kernel, by decide +kernel, by decide +kernel, by decide +kernel,
      by decide +kernel, by decide +kernel, by decide +kernel, by decide +kernel⟩,
    rfl, dueStep_single _ _ (by decide +kernel), by decide +kernel, by decide +kernel, by decide +kernel, by decide +kernel,
    by decide +kernel⟩
  unfold State.TableSound
  decide +kernel

/-- A READY port whose active transfer stands as given, at a BRING_UP that acts within its take. -/
def bringUpWith (te : TransferEngine) : State :=
  withEntries [{ entry0 with id := 3, st := .active }] (fetching { queueingPort with te := te })

/-- The same at a late BRING_UP, with an access of the transfer in flight. -/
def bringUpAtAccess (a : Access) (te : TransferEngine) : State :=
  { flying a { queueingPort with te := te, inbox := [.request 6 kindBringUp blankRecord] } with
    tail := 0, ort := [{ entry0 with id := 3, st := .active }, { entry0 with id := 6, st := .routed }] }

/-- R43: a BRING_UP hands a transfer whose abandon has been decided at once with its cause, though a store is in flight, and the
store ends dropped. R108: a queued write is activated meanwhile, and once the store has ended its claim stands behind a report's
(R101). -/
theorem test_bring_up_gives_up_an_access :
    let a := Access.transferStore 0 0x1000 [1]
    let te : TransferEngine := { TransferEngine.reset with
      transfer := some queuedRead, phase := .storing, sent := true, cause := some .aborted }
    let t := (bringUpAtAccess a te).portArrival 0
    let s := after (.activation 0) { flying a { queueingPort with queue := [{ queuedRead with write := true }] } with bus := t.bus }
    let v := s.withPort 0 { s.port 0 with xclaims := (s.port 0).xclaims ++ [.report 8] }
    (t.cpl.done.map fun c => (c.ort, c.status)) = [(3, .aborted)] ∧ (t.port 0).queue = [] ∧
    t.bus.flight = some { access := a, live := false, wanted := true } ∧ (after (.transferStoreEnd false) t).cpl = t.cpl ∧
    (s.port 0).te.phase = .fetching ∧ s.grantDue = none ∧
    ((after (.transferStoreEnd true) v).port 0).xclaims = [.report 8, .fetch 0x1000 4] := by decide +kernel

/-- A port in each case of its state and slot; an active transfer at each fate, within the take and at a late arrival. -/
theorem witness_BringUpStartsASequence :
    let te : TransferEngine := { TransferEngine.reset with transfer := some queuedRead, phase := .storing, sent := true }
    let w : OrtEntry := { entry0 with id := 3, st := .active }
    let late := [bringUpAtAccess (.transferStore 0 0x1000 [1]) te,
      bringUpAtAccess (.transferStore 0 0x1000 [1]) { te with cause := some .aborted }]
    targetPort blankRecord = 0 ∧ checkPortOnly blankRecord = none ∧
    (∀ x ∈ [port0, idlePort, readyPort, { readyPort with slot := some (.cycleStop, 4) }],
      Taking x ∧ ((fetching x).port 0).te.transfer.map (·.ort) ≠ some entry0.id) ∧
    ((∀ v ∈ [te, { te with sent := false }], (bringUpWith v).Fetched setup0 entry0) ∧
      (bringUpWith te).TableSound entry0 ∧ (bringUpWith te).Open [w] ∧
      te.fate false true false = .handed .linkLost 0 ∧ { te with sent := false }.fate false true false = .kept ∧
      { te with phase := .abandonExchange, cause := some .tooLong }.fate false true false = .waits ⟨.tooLong, 0, true⟩) ∧
    (∀ s ∈ late, s.dueNow = [.portArrival 0]) ∧
    (∀ s ∈ late, s.pending = [] ∧ (s.port 0).inbox = [.request 6 kindBringUp blankRecord] ∧
      s.ortFind 6 = some { entry0 with id := 6, st := .routed } ∧ (s.port 0).te.transfer.map (·.ort) ≠ some 6 ∧
      (s.port 0).state = .ready ∧ (s.port 0).slot = none ∧ s.Open [w] ∧ s.flightOf Access.transferPort 0 = true) ∧
    te.fate true true false = .waits ⟨.linkLost, 0, false⟩ ∧
    { te with cause := some .aborted }.fate true true false = .handed .aborted 0 ∧
    (∀ s ∈ late, ∀ f, s.bus.flight = some f → f.access.transferPort = some 0 ∧
      (((s.portArrival 0).port 0).queue.filter fun u => u.ending.any fun d => !d.onExchange).map (·.ort) =
        (if (s.port 0).te.cause.isSome then [] else [3]) ∧
      ((s.portArrival 0).port 0).disables = []) := by
  unfold State.Open State.NotAwaited State.TableSound
  refine ⟨rfl, by decide +kernel, fun x h => ⟨taking x ?_, ?_⟩, ⟨fun v _ => ⟨rfl, rfl, rfl, rfl⟩, by decide +kernel⟩,
    by decide +kernel, by decide +kernel, by decide +kernel, by decide +kernel, fun s h f e => ?_⟩
  · revert x; decide +kernel
  · revert x; decide +kernel
  · simp only [List.mem_cons, List.not_mem_nil, or_false] at h
    rcases h with rfl | rfl <;> (obtain rfl := Option.some.inj e; decide +kernel)

/-- Free periods at both ends; a group, divisors at both ends, and a phase at the group's period. A port outside READY and one
with its slot occupied; a RUNNING group, before its epoch and 720,720 beats after it. -/
theorem witness_CycleStartArmsThePort :
    (∀ r ∈ [cycleRecord 0xFF 0 0 250, cycleRecord 0xFF 0 0 1000000, cycleRecord 3 1 999 0, cycleRecord 0 16 1000 0],
      checkCycleStart { r with target := 0 } = none) ∧
    (∀ x ∈ [idlePort, { readyPort with slot := some (.bringUp, 4) }, readyPort], Taking x) ∧
    (let x := (fetching { readyPort with slot := some (.bringUp, 4) }).port 0
     x.state = .ready ∧ x.link = some link3 ∧ x.slot.isSome = true) ∧ ((fetching idlePort).port 0).state ≠ .ready ∧
    ((fetching readyPort).port 0).state = .ready ∧ ((fetching readyPort).port 0).link = some link3 ∧
    ((fetching readyPort).port 0).slot = none ∧
    (∀ g, ∀ m ∈ ((fetching readyPort).group g).members, m.port ≠ 0) ∧
    (∀ n ∈ [0, 720720], ∀ now ∈ [n * 1000, 100 + n * 1000],
      let b : Beats := { epoch := 100, next := BitVec.ofNat 32 (100 + n * 1000), fresh := n = 0 }
      let s := { (fetching readyPort).withGroup 3 { Group.reset with running := some b, beatNumber := n % 720720 } with
        time := 32 * now }
      (s.group 3).running = some b ∧ 1 ≤ (s.group 3).period ∧ s.timeOf b.next = 32 * (100 + n * (s.group 3).period) ∧
      (s.group 3).beatNumber = n % 720720 ∧ (b.fresh = true ↔ n = 0) ∧
      100 + n * (s.group 3).period ≤ s.micros + (s.group 3).period ∧ s.lineFree 0 = 32 * now) ∧
    FirstInstant (100 + 999) (1 * 1000) (32 * (0 + 64)) 0 := by
  refine ⟨by decide +kernel, fun x h => taking x ?_, ⟨rfl, rfl, rfl⟩, by decide +kernel, rfl, rfl, rfl, by decide +kernel,
    by decide +kernel, ?_⟩
  · revert x; decide +kernel
  · exact ⟨by decide, fun j h => absurd h (Nat.not_lt_zero j)⟩

/-- Each state; in ARMED and CYCLIC with the slot empty and occupied, in CYCLIC with a cycle under way or not. -/
theorem witness_CycleStopEndsTheSchedule :
    let c : OrtEntry := { entry0 with id := 1, kind := kindCycleStart, st := .waiting }
    checkPortOnly blankRecord = none ∧
    ∀ x ∈ [port0, idlePort, readyPort, { readyPort with state := .recovery, resume := true },
        { readyPort with state := .armed, slot := some (.cycleStart, 1) }, { readyPort with state := .armed },
        { readyPort with state := .cyclic, slot := some (.cycleStop, 1) },
        { readyPort with state := .cyclic, cyc := { CycleEngine.reset with admitted := true } },
        { readyPort with state := .cyclic }, { readyPort with state := .bringup, slot := some (.bringUp, 1) }],
      let s := withEntries [c] (fetching x)
      (s.Fetched setup0 entry0 ∧ s.TableSound entry0 ∧ (s.port 0).inbox = [] ∧
        (s.port 0).slot.all fun k => decide (k.2 ≠ entry0.id)) ∧ s.NotAwaited entry0.id ∧ s.Open [c] := by
  unfold State.Open State.NotAwaited State.TableSound
  refine ⟨by decide +kernel, fun x h => ⟨⟨⟨rfl, rfl, rfl, rfl⟩, ?_⟩, ?_⟩⟩ <;> revert x <;> decide +kernel

/-- GROUP_CONFIG records: period, then the source octet (section 10.2). -/
def groupRecord (period : Word) (source : Byte) : ReqRecord :=
  { blankRecord with fields := (0#184 ++ source) ++ period }

theorem witness_GroupConfigWritesAnEmptyGroup :
    checkGroupConfig (groupRecord 250 0) = none ∧ checkGroupConfig (groupRecord 1000000 1) = none ∧
    checkGroupConfig { groupRecord 250 0 with target := 1 } = none ∧ (Taking port0 ∧ ((fetching port0).group 0).members = []) ∧
    beforeFire.Fetched setup0 entry0 ∧ beforeFire.TableSound entry0 ∧ beforeFire.unitInbox = [] ∧
    (beforeFire.group 1).members ≠ [] :=
  ⟨by decide +kernel, by decide +kernel, by decide +kernel, ⟨taking _ rfl, rfl⟩, ⟨rfl, rfl, rfl, rfl⟩, tableSound port0, rfl,
    by decide +kernel⟩

/-- A mask that names a LINE group; UNFIRED members at an epoch 100 µs on, and a re-fire that passes one instant of port 6,
whose line is committed, and none of port 7. -/
theorem witness_SyncFireFiresTheNamedGroups :
    let line := (fetching port0).withGroup 3 { Group.reset with source := .line }
    let fits := fun (s : State) (g : GroupId) (m : Member) (k : Nat) =>
      ((s.group g).members.filter fun n => n.port = m.port) = [m] ∧ 1 ≤ (s.group g).period ∧ 1 ≤ m.divisor ∧
      FirstInstant (s.micros + 100 + m.phase) (m.divisor * (s.group g).period) (s.fireBound g m.port) k
    (∀ n ∈ [1, 2, 4, 15], checkSyncFire { blankRecord with target := n } = none) ∧
    (∀ s ∈ [line, beforeFire, beforeRefire], s.Fetched setup0 entry0 ∧ s.TableSound entry0 ∧ s.unitInbox = [] ∧
      ∀ p, (s.port p).slot = none) ∧
    (maskNames { blankRecord with target := 15 } 3 = true ∧ (line.group 3).source = .line) ∧
    (∀ g, maskNames { blankRecord with target := 2 } g = true → g = 1) ∧
    (∀ g, maskNames { blankRecord with target := 4 } g = true → g = 2) ∧
    (∀ g, (beforeFire.group g).source = .host ∧ (beforeRefire.group g).source = .host) ∧
    ((beforeFire.group 1).running = none ∧ fits beforeFire 1 { port := 1, divisor := 2, phase := 250, tentative := false } 0) ∧
    (beforeRefire.group 2).running ≠ none ∧
    fits beforeRefire 2 { port := 6, divisor := 4, phase := 0, tentative := false } 1 ∧
    fits beforeRefire 2 { port := 7, divisor := 1, phase := 500, tentative := false } 0 := by
  unfold FirstInstant State.TableSound
  refine ⟨by decide +kernel, fun s h => ⟨?_, ?_⟩, by decide +kernel⟩
  · simp only [List.mem_cons, List.not_mem_nil, or_false] at h
    rcases h with rfl | rfl | rfl <;> exact ⟨rfl, rfl, rfl, rfl⟩
  · revert s
    decide +kernel

/-- A queue with room for one more, a full one, and a state that takes no transfer. -/
theorem witness_TransfersJoinTheQueue :
    checkParam { paramRecord with target := 0 } = none ∧
    (Taking { readyPort with queue := List.replicate 7 queuedRead } ∧
      ((fetching { readyPort with queue := List.replicate 7 queuedRead }).port 0).queue.length = 7) ∧
    (Taking { readyPort with queue := List.replicate 8 queuedRead } ∧
      ((fetching { readyPort with queue := List.replicate 8 queuedRead }).port 0).queue.length = 8) ∧
    Taking idlePort ∧ ((fetching idlePort).port 0).state = .idle :=
  ⟨by decide +kernel, ⟨taking _ rfl, rfl⟩, ⟨taking _ rfl, rfl⟩, taking _ rfl, rfl⟩

/-- An ABORT of tag 4 at port 0, and a table that holds a queued read of that tag. -/
def abortRecord : ReqRecord := { blankRecord with fields := 4 }

def matchedEntry : OrtEntry := { entry0 with id := 3, tag := 4, kind := kindParamRead, st := .queued }

/-- The active transfer of entry 3 in a phase, with a segment sent or not and with an abandon cause or none. -/
def activePort (phase : XferPhase) (sent : Bool) (cause : Option AbandonCause) : Port :=
  { queueingPort with
    te := { TransferEngine.reset with phase := phase, transfer := some queuedRead, sent := sent, cause := cause } }

/-- A BRING_UP of entry 3 in a phase of its sequence, a transfer of entry 4 in the queue. -/
def bringingUp (phase : SeqPhase) (lf : FramerState) : Port :=
  { idlePort with
    state := .bringup, slot := some (.bringUp, 3), queue := [{ queuedRead with ort := 4 }]
    lf := { idlePort.lf with state := lf }, seq := { Sequencer.reset with phase := phase } }

/-- One match of each kind, by where it stands: a transfer with a cause, in an exchange, after a segment, before one, queued, and
ended already; a BRING_UP that stops and that goes on; a CYCLE_START; a CYCLE_STOP. -/
def matchings : List (Byte × Port) :=
  [(kindParamRead, activePort .exchange true (some .tooLong)), (kindParamRead, activePort .exchange true none),
   (kindParamRead, activePort .storing true none), (kindParamRead, activePort .sendWait false none),
   (kindParamRead, queueingPort), (kindParamRead, { queueingPort with queue := [{ queuedRead with ending := some ⟨.linkLost, 0, false⟩ }] }),
   (kindBringUp, bringingUp .backoff .guard), (kindBringUp, bringingUp .lineWait .free),
   (kindBringUp, bringingUp .lineWait .guard), (kindBringUp, bringingUp .identify .sending),
   (kindCycleStart, { readyPort with state := .armed, slot := some (.cycleStart, 3) }),
   (kindCycleStop, { readyPort with state := .cyclic, slot := some (.cycleStop, 3) })]

/-- The match, the transfer behind it and the ABORT that waits for the match and for `still`. -/
def matchOf (k : Byte) : OrtEntry := { matchedEntry with kind := k, st := .active }

def behindMatch : OrtEntry := { matchedEntry with id := 4, tag := 9 }

def waitingAbort (still : List Nat) : OrtEntry :=
  { entry0 with kind := kindAbort, st := .waiting, matched := still.length + 1, awaited := 3 :: still }

/-- Two aborts of entry 3 wait in the inbox of its port. -/
def arriving (abort : OrtEntry) (m : OrtEntry) (a : Access) (x : Port) : State :=
  { flying a { x with inbox := [.abort 0 3, .abort 0 3] } with
    ort := [abort, m, behindMatch], tail := 0, reqTailReg := 0 }

/-- At the take: no match; matches in the queues of two ports; matches of two kinds, early and late, one port's inbox empty and the
other's not; one match of every kind. -/
theorem witness_AbortReportsAfterItsMatches :
    let all : ReqRecord := { abortRecord with target := 0xFF }
    let other := { matchedEntry with id := 4, target := 3, kind := kindParamWrite }
    let several := withEntries [matchedEntry, other]
      ((fetching queueingPort).withPort 3 { readyPort with queue := [{ queuedRead with ort := 4 }] })
    let query := { matchedEntry with id := 4, target := 3, kind := kindPortQuery }
    let mixed := withEntries [matchedEntry, query]
      ((fetching (activePort .storing true none)).withPort 3 { readyPort with inbox := [.abort 9 9] })
    (checkAbort abortRecord = none ∧ checkAbort all = none) ∧
    (Taking port0 ∧ (fetching port0).abortMatches abortRecord = []) ∧
    (several.Fetched setup0 entry0 ∧ several.TableSound entry0 ∧ several.abortMatches all = [matchedEntry, other] ∧
      (several.port 0).inbox = [] ∧ (several.port 3).inbox = [] ∧ several.Open [matchedEntry, other] ∧
      several.NotAwaited 0) ∧
    (mixed.Fetched setup0 entry0 ∧ mixed.TableSound entry0 ∧ mixed.abortMatches all = [matchedEntry, query]) ∧
    (∀ x ∈ matchings,
      let s := withEntries [matchOf x.1, behindMatch] (fetching x.2)
      (s.Fetched setup0 entry0 ∧ s.TableSound entry0) ∧ s.abortMatches abortRecord = [matchOf x.1] ∧
      (matchOf x.1).targetPort = 0 ∧ (s.port 0).inbox = [] ∧ s.Open [matchOf x.1, behindMatch] ∧ s.NotAwaited 0 ∧
      (0 :: 3 :: [4]).Nodup) ∧
    (behindMatch.id :: [] = (bringingUp .backoff .guard).queuedIds) := by
  unfold State.Open State.NotAwaited State.TableSound
  refine ⟨by decide +kernel, ⟨taking _ rfl, by decide +kernel⟩, ⟨⟨rfl, rfl, rfl, rfl⟩, by decide +kernel⟩,
    ⟨⟨rfl, rfl, rfl, rfl⟩, by decide +kernel⟩, ?_, by decide +kernel⟩
  intro x h
  refine ⟨⟨⟨rfl, rfl, rfl, rfl⟩, ?_⟩, ?_⟩ <;> revert x <;> decide +kernel

/-- As arrivals: one match of every kind, the access of its transfer in flight and none of it, the ABORT waiting for no other and
for one more; a match that is DONE; and an ABORT that has been handed over. -/
theorem witness_AbortReportsAfterItsMatches_as_arrivals :
    (∀ x ∈ matchings, ∀ a ∈ [Access.transferFetch 0 0x1000 8, .sampleRead 0 .gen1 0x1000 2], ∀ still ∈ [[], [7]],
      let s := arriving (waitingAbort still) (matchOf x.1) a x.2
      (s.port 0).inbox = [.abort 0 3, .abort 0 3] ∧ s.ortFind 3 = some (matchOf x.1) ∧ (matchOf x.1).targetPort = 0 ∧
      s.ortFind 0 = some (waitingAbort still) ∧ 3 ∈ (waitingAbort still).awaited ∧
      (∀ w ∈ s.ort, 3 ∈ w.awaited → w = waitingAbort still) ∧ s.Open [behindMatch] ∧
      s.flightOf Access.transferPort 0 = (a == .transferFetch 0 0x1000 8)) ∧
    (arriving (waitingAbort []) { matchOf kindParamRead with st := .done } (.requestFetch 0) port0).ortFind 3 =
      some { matchOf kindParamRead with st := .done } ∧
    (arriving { waitingAbort [] with st := .done } (matchOf kindParamRead) (.requestFetch 0) port0).ortFind 0 =
      some { waitingAbort [] with st := .done } ∧
    let s := arriving (waitingAbort []) (matchOf kindParamRead) (.transferFetch 0 0x1000 8) (activePort .fetching true none)
    s.pending = [] ∧ s.dueStep = some (.portArrival 0) := by
  unfold State.Open State.NotAwaited
  exact ⟨by decide +kernel, by decide +kernel, by decide +kernel, rfl, dueStep_single _ _ (by decide +kernel)⟩

/-- The buffer of a query: the least and the greatest that 64 octets fit. -/
theorem witness_PortQueryClaimsItsReport :
    checkPortQuery { blankRecord with fields := 8 } = none ∧
    checkPortQuery { blankRecord with fields := 0xFFFFFFC0 } = none ∧ Taking port0 :=
  ⟨by decide +kernel, by decide +kernel, taking _ rfl⟩

theorem witness_AFetchBusErrorHalts :
    (fetching port0).fetchFlying = true ∧ (fetching port0).runningOrPaused = true ∧
    (fetching port0).bus.fetchClaim = false ∧ { fetching port0 with part := .paused }.runningOrPaused = true :=
  ⟨rfl, rfl, rfl, rfl⟩

/-- Every condition at its edge: 63 entries and a credit of exactly 2; each of them failing; and a fetch in flight in HALTED. -/
theorem witness_AFetchReservesAllocatesAndClaims :
    let s := { running port0 with
      ort := (List.range 63).map fun i => { entry0 with id := i, st := .queued }
      cpl := { CompletionWriter.reset with used := 13, reserved := 1 } }
    s.setup = some setup0 ∧ s.part = .running ∧ s.head ≠ s.tail ∧ s.ort.length < 64 ∧
    s.cpl.used + s.cpl.reserved + 2 ≤ setup0.cplSize ∧ s.bus.fetchClaim = false ∧ s.fetchFlying = false ∧
    { s with part := .paused }.part ≠ .running ∧ { s with tail := s.head }.head = { s with tail := s.head }.tail ∧
    64 ≤ { s with ort := entry0 :: s.ort }.ort.length ∧
    setup0.cplSize < { s with cpl := { s.cpl with used := 14 } }.cpl.used + s.cpl.reserved + 2 ∧
    (fetching port0).fetchFlying = true ∧
    let h := { fetching port0 with part := .halted, haltCause := some .badHead }
    h.part = .halted ∧ h.fetchFlying = true ∧ (h.ort.find? fun x => x.st = .fetching) = some entry0 ∧
    ∀ i ∈ [Instr.nop blankRecord, .unknownRequestKind 14 blankRecord, .abort ⟨abortRecord, true⟩],
      (recordOf i).isSome = true ∧ i.wellFormed = true := by decide +kernel

/-- Claims of each class; in class 2 port 0 was served last, so port 3 comes before port 0. -/
theorem witness_TheArbiterGrantsTheLowestClass :
    let waiting : Port := { readyPort with cyc := { CycleEngine.reset with list := [.sample .gen1] } }
    let claiming : Port := { readyPort with xclaims := [.fetch 0x1000 4] }
    let one := running waiting
    let two := { (running claiming).withPort 3 claiming with bus := { Bus.reset with last2 := 0 } }
    let record := { fullRing with bus := { Bus.reset with recordClaim := some .completion } }
    one.bus.flight = none ∧ ServedNext one.bus.last1 (fun q => (one.port q).cyc.list ≠ []) 0 ∧
    (one.port 0).cyc.list = .sample .gen1 :: [] ∧
    two.bus.flight = none ∧ (∀ q, (two.port q).cyc.list = []) ∧
    ServedNext two.bus.last2 (fun q => (two.port q).xclaims ≠ []) 3 ∧
    (two.port 3).xclaims = .fetch 0x1000 4 :: [] ∧
    claimAccess 3 (two.port 3) (.fetch 0x1000 4) = some (.transferFetch 3 0x1000 4) ∧
    record.bus.flight = none ∧ (∀ q, (record.port q).cyc.list = []) ∧ (∀ q, (record.port q).xclaims = []) ∧
    record.setup = some setup0 ∧ record.bus.recordClaim = some .completion ∧ record.cpl.done ≠ [] ∧
    record.cpl.events ≠ [] ∧
    { State.reset with bus := { Bus.reset with setupClaim := some 32 } }.bus.setupClaim = some 32 ∧
    { running port0 with bus := { Bus.reset with fetchClaim := true } }.bus.fetchClaim = true := by
  unfold ServedNext
  decide +kernel

/-- With a credit of exactly 1, and with none. -/
theorem witness_TheOlderHeadIsClaimed :
    let enough := { fullRing with cpl := { fullRing.cpl with used := 14 } }
    enough.setup = some setup0 ∧ enough.runningOrPaused = true ∧ enough.bus.recordClaim = none ∧ enough.bus.flight = none ∧
    enough.cpl.used + enough.cpl.reserved + 1 ≤ setup0.cplSize ∧
    fullRing.setup = some setup0 ∧ setup0.cplSize < fullRing.cpl.used + fullRing.cpl.reserved + 1 := by decide +kernel

/-- The last slot of the ring, where the tail wraps. -/
theorem witness_AWrittenRecordIsCounted :
    let s := { fullRing with
      bus := { Bus.reset with flight := some { access := .recordWrite 0x200000F0 [] (some 0), live := true, wanted := true } } }
    s.setup = some setup0 ∧ s.bus.flight = some { access := .recordWrite 0x200000F0 [] (some 0), live := true, wanted := true } ∧
    (∃ e ∈ s.ort, e.id = 0) ∧ s.runningOrPaused = true ∧ { s with part := .halted }.part = .halted := by decide +kernel

theorem witness_TheHoldoffMeetsTheCondition :
    let s := { running port0 with time := 32, cpl := { CompletionWriter.reset with holdoff := some 32, unsignalled := 1 } }
    s.cpl.holdoff = some 32 ∧ s.Reaches 32 s ∧ 1 ≤ s.cpl.unsignalled :=
  ⟨rfl, reaches_passed _ _ (by decide), by decide⟩

/-- The window open and closed; the last place of the ring and the first value outside it. -/
theorem witness_ReqTailMovesTheTail :
    { running port0 with part := .resetting }.windowOpen = false ∧ (running port0).windowOpen = true ∧
    State.reset.runningOrPaused = false ∧ (running port0).runningOrPaused = true ∧ (running port0).setup = some setup0 ∧
    (7 : Word).toNat < setup0.reqSize ∧ setup0.reqSize ≤ (8 : Word).toNat := by decide +kernel

/-- Around the ring: from head 15 one slot on is 0; exactly the used count, and one more. -/
theorem witness_CplHeadReturnsSlots :
    let s := { running port0 with cpl := { CompletionWriter.reset with head := 15, used := 1 } }
    s.windowOpen = true ∧ s.runningOrPaused = true ∧ s.setup = some setup0 ∧ s.cpl.head < setup0.cplSize ∧
    setup0.cplSize ≤ (16 : Word).toNat ∧ 1 < setup0.cplSize ∧ (s.cpl.head + 1) % setup0.cplSize = (0 : Word).toNat ∧
    1 ≤ s.cpl.used ∧ 2 < setup0.cplSize ∧ (s.cpl.head + 2) % setup0.cplSize = (1 : Word).toNat ∧ s.cpl.used < 2 := by
  decide +kernel

theorem witness_CtrlStartsPausesAndResumes :
    (5 : Word).getLsbD 1 = false ∧ (0 : Word).getLsbD 1 = false ∧ State.reset.windowOpen = true ∧
    State.reset.ctrlEnable = false ∧ State.reset.part = .off ∧ State.reset.setupAddr = 0 ∧
    { State.reset with setupAddr := 32 }.setupAddr ≠ 0 ∧ { running port0 with ctrlEnable := false, part := .paused }.part = .paused ∧
    (running port0).ctrlEnable = true ∧ (running port0).part = .running ∧ (running port0).bus.fetchClaim = false ∧
    let s := { running port0 with ort := [entry0], bus := { Bus.reset with fetchClaim := true } }
    s.bus.fetchClaim = true ∧ (∃ x ∈ s.ort, x.st = .fetching) := by decide +kernel

theorem witness_SoftResetClearsEveryBlock :
    (2 : Word).getLsbD 1 = true ∧ (running port0).windowOpen = true ∧ (running port0).bus.flight = none ∧
    (fetching port0).windowOpen = true ∧ (fetching port0).bus.flight ≠ none ∧
    { State.reset with part := .resetting }.part = .resetting := by decide +kernel

theorem witness_RegisterWritesFollowTheWindow :
    { State.reset with resetAsserted := true }.windowOpen = false ∧ State.reset.windowOpen = true ∧
    AccessWidth.w16 ≠ .w32 ∧ ((0x3F : BitVec 6) ≠ 0x04 ∧ (0x3F : BitVec 6) ≠ 0x0C ∧ (0x3F : BitVec 6) ≠ 0x10 ∧
      (0x3F : BitVec 6) ≠ 0x18) ∧ (1 : Word).getLsbD 1 = false ∧ (2 : Word).getLsbD 1 = true := by decide +kernel

/-- A STARTING part whose setup read is in flight. -/
def starting : State :=
  { State.reset with
    part := .starting, ctrlEnable := true, setupAddr := 32
    bus := { Bus.reset with flight := some { access := .setupRead 32, live := true, wanted := true } } }

/-- Setup blocks: the least rings at the least addresses, and the greatest that end at FFFFFFFFh, written out from section
10.4; a block of zeros is none. -/
theorem witness_TheSetupBlockIsJudged :
    starting.bus.flight = some { access := .setupRead 32, live := true, wanted := true } ∧ starting.part = .starting ∧
    (setupOf 0x00_00_0000_01_04_00000010_000000_03_00000020#256).isSome = true ∧
    (setupOf 0x01_FF_FFFF_FF_0C_FFFF0000_000000_0C_FFFE0000#256).isSome = true ∧ setupOf 0 = none ∧
    setup0.reqSize ≤ (8 : Word).toNat ∧ ¬ setup0.reqSize ≤ (7 : Word).toNat ∧ (1 : Word) ≠ 0 := by decide +kernel

/-- The same level; the edge that is not selected; and a selected edge with a LINE group whose members take their first start
or move. -/
theorem witness_ASelectedEdgeFiresTheLineGroups :
    let line := fun (s : State) (g : GroupId) => s.withGroup g { s.group g with source := .line }
    (State.reset.syncInLevel = false ∧ State.reset.setup = none) ∧
    ∀ s ∈ [line beforeFire 1, line beforeRefire 2],
      s.syncInLevel ≠ true ∧ s.setup = some setup0 ∧ setup0.fallingEdge ≠ true ∧
      ∃ g, (s.group g).source = .line ∧ (s.group g).members ≠ [] := by decide +kernel

theorem witness_ABeatMovesTheGroupOn :
    let s := (running port0).withGroup 0 { Group.reset with
      beatNumber := 720719, running := some { epoch := 0, next := 0, fresh := true } }
    let t := { running port0 with syncOutEnd := some 0 }
    (s.group 0).running = some { epoch := 0, next := 0, fresh := true } ∧ s.Reaches (s.timeOf 0) s ∧
    t.syncOutEnd = some 0 ∧ t.Reaches 0 t :=
  ⟨rfl, reaches_passed _ _ (by decide +kernel), rfl, reaches_passed _ _ (by decide)⟩

/-- A port under a schedule, 100 µs after reset, its next start there. -/
def scheduled (delivered : Bool) (x : Port) : State :=
  { running { x with sched := some (grouped 0 1 0 1000 (some 100) delivered) } with time := 3200 }

/-- In ARMED, in CYCLIC, in CYCLIC with a stop waiting and in RECOVERY; with output image address 0 and not. -/
theorem witness_TheSamplingInstantBeginsASample :
    ∀ x : Port, let s := scheduled false x
      (s.port 0).sched = some (grouped 0 1 0 1000 (some 100) false) ∧ s.Reaches (s.timeOf 100 - 32 * 64) s := by
  intro x
  exact ⟨rfl, reaches_passed _ _ (by
    have h : (scheduled false x).timeOf 100 = (scheduled false port0).timeOf 100 := rfl
    rw [h]
    show (scheduled false port0).timeOf 100 - 32 * 64 ≤ (scheduled false port0).time
    decide +kernel)⟩

theorem witness_SamplingReadsFollowInOrder :
    let f : Access := .sampleRead 0 .gen2 0x1000 2
    let s := flying f { readyPort with cyc := { CycleEngine.reset with sample := .reading true 7 [1, 2, 3, 4] } }
    s.bus.flight = some { access := f, live := true, wanted := true } ∧
    (s.port 0).cyc.sample = .reading true 7 [1, 2, 3, 4] ∧ (7 : ReadData).setWidth 16 = (7 : Half) ∧
    (8 : ReadData).setWidth 16 ≠ (7 : Half) := by decide +kernel

/-- A port at a start instant: the state and slot it is in, its sample, its line. -/
def startingAt (state : PortState) (slot : Option (ControlKind × Nat)) (sample : Sample) (lf : Framer) : Port :=
  { readyPort with
    state := state, slot := slot, lf := lf
    cyc := { CycleEngine.reset with sample := sample, admitted := true, lastGen := some 7, lastData := some [9, 9, 9, 9] } }

/-- In ARMED with the slot occupied and empty, in CYCLIC with a CYCLE_STOP waiting and not, and in RECOVERY; every judgement of
a sample at the stale limit and at a count of 255; a free line, a guard that ends in this microsecond or after it, a busy
line. -/
theorem witness_TheStartInstantRunsOrSlips :
    let fresh : Sample := .complete (some 8) [1, 2, 3, 4] false
    let waiting := { entry0 with id := 5, st := .waiting }
    let free := readyPort.lf
    let guard := fun n : Nat => { Framer.reset with state := .guard, timer := some n }
    (∀ x, ((scheduled true x).port 0).sched = some (grouped 0 1 0 1000 (some 100) true) ∧
      (scheduled true x).Reaches ((scheduled true x).timeOf 100) (scheduled true x)) ∧
    (∀ state ∈ [PortState.armed, .cyclic, .recovery], ∀ slot ∈ [none, some (ControlKind.cycleStart, 5), some (.cycleStop, 5)],
      ∀ sample ∈ [fresh, .empty, .reading true 7 [], .complete (some 8) [] true, .complete (some 7) [] false,
        .complete none [] false], ∀ lf ∈ [free, guard 3231, guard 3232, { free with state := .waiting }],
      let s := { scheduled true (startingAt state slot sample lf) with ort := [waiting] }
      (s.port 0).link = some link3 ∧ (s.port 0).cyc.admitted = true ∧ (s.port 0).cyc.faultPending = false ∧
      (s.port 0).lf.held = none ∧ s.Open [waiting]) ∧
    (3231 < 32 * ((scheduled true port0).micros + 1) ∧ ¬ 3232 < 32 * ((scheduled true port0).micros + 1)) ∧
    ((scheduled true { startingAt .cyclic none .empty free with
      counters := { Counters.reset with stales := PortConfig.reset.staleLimit - 1 } }).port 0).counters.stales + 1 =
      PortConfig.reset.staleLimit := by
  have early : ∀ x, (scheduled true x).timeOf 100 = (scheduled true x).time := by
    intro x
    have h : (scheduled true x).timeOf 100 = (scheduled true port0).timeOf 100 := rfl
    rw [h]
    show (scheduled true port0).timeOf 100 = (scheduled true port0).time
    decide +kernel
  refine ⟨fun x => ⟨rfl, reaches_passed _ _ (Nat.le_of_eq (early x))⟩, ?_⟩
  unfold State.Open State.NotAwaited
  decide +kernel

theorem witness_ImageWritesEndOrFault :
    (∀ a x, (flying a x).bus.flight = some { access := a, live := true, wanted := true }) ∧
    (∃ header l, (Access.imageWrite 0 true 0x2028 [1]) = .imageWrite 0 header 0x2028 l) ∧
    (∃ stage len, (Access.sampleRead 0 .data 0x1008 32) = .sampleRead 0 stage 0x1008 len) ∧
    ∀ k ∈ [ControlKind.cycleStart, .cycleStop], ∀ st ∈ [PortState.armed, .cyclic],
      let s := withEntries [{ entry0 with id := 5, st := .waiting }]
        (flying (.imageWrite 0 true 0x2028 [1]) { readyPort with state := st, slot := some (k, 5) })
      (s.port 0).slot = some (k, 5) ∧ (s.port 0).cyc.underWay = none ∧ s.Open [{ entry0 with id := 5, st := .waiting }] := by
  unfold State.Open State.NotAwaited
  exact ⟨fun _ _ => rfl, ⟨_, _, rfl⟩, ⟨_, _, rfl⟩, by decide +kernel⟩

/-- The stop bit of the last character of an IDENTIFY at L3, at the end of its bit time. -/
theorem witness_AFrameIsTenBitTimesACharacter :
    let f := identifyFrame .l3
    let x := { idlePort with lf := { Framer.reset with state := .sending, txen := true, flight := some { frame := f, start := 0 } } }
    let s := { running x with time := 999 }
    (frameOctets f)[1]? = some (crc [1]) ∧ (s.port 0).lf.state = .sending ∧ (s.port 0).lf.txen = true ∧
    (s.port 0).lf.flight = some { frame := f, start := 0 } ∧ 0 + (10 * 1 + 9) * f.speed.tb ≤ s.time ∧
    s.time < 0 + (10 * 1 + 9 + 1) * f.speed.tb := by decide +kernel

/-- A reply whose start edge falls at the end of T_resp and whose gaps are all G. -/
theorem witness_AReplyEndsWithinTheWindow :
    let f := cyclicFrame { link1 with speed := .l3 } [0] false
    let covered : List Byte := [0x00, 0x05]
    let chars := (covered ++ [crc covered]).map fun b => ({ gap := 100, octet := b, stop := true } : RxChar)
    let edge := (10 * f.chars + 16) * f.speed.tb
    0 + 10 * f.chars * f.speed.tb ≤ edge ∧ edge ≤ 0 + (10 * f.chars + 16) * f.speed.tb ∧
    receive f (2 * f.speed.tb) chars { edge := some edge, count := 0, crc := crcPreset, octets := [], lastEnd := edge } =
      .ends (.ok [0x00, 0x05]) (edge + 1700) (edge + 1200) true (edge + 1700 - tailRecessive (crc covered) * 50) := by decide +kernel

/-- A frame and a pulse in WAITING, the line recessive for exactly 2 Tb. -/
theorem witness_TheIdleCheckStartsTheFrame :
    ∀ h ∈ [Handed.frame (identifyFrame .l1), .pulse .l1],
      let s := { running { idlePort with
        lf := { Framer.reset with state := .waiting, held := some h, recessiveSince := some 0 } } with time := 3200 }
      (s.port 0).lf.state = .waiting ∧ (s.port 0).lf.held = some h ∧ (s.port 0).lf.recessiveSince = some 0 ∧
      s.Reaches (max (s.port 0).lf.waitSince (0 + 2 * Speed.l1.tb)) s := by
  intro h _
  exact ⟨rfl, rfl, rfl, reaches_passed _ _ (Nat.le_refl _)⟩

/-- A port that sends an IDENTIFY at L3, at the sample of the frame's last bit and at the frame's end. -/
def sendingAt (n : Nat) : State :=
  { running { idlePort with
      lf := { Framer.reset with state := .sending, txen := true, flight := some { frame := identifyFrame .l3, start := 0 } } }
    with time := n }

theorem witness_ACollisionEndsTheExchange :
    let s := sendingAt 975
    (s.port 0).lf.state = .sending ∧ (s.port 0).lf.flight = some { frame := identifyFrame .l3, start := 0 } ∧
    19 < 10 * (identifyFrame .l3).chars ∧ s.reach (0 + 19 * Speed.l3.tb + Speed.l3.tb / 2) = some s := by
  exact ⟨rfl, rfl, by decide, rfl⟩

/-- A link that ends at the failure of a cycle: a control slot, an active transfer and one behind it, the active one sent or not,
its access in flight or not; both ways of auto-recovery; a stop that waits, and a schedule that resumes. -/
theorem witness_the_end_of_a_link :
    let w := fun i => ({ entry0 with id := i, st := .queued } : OrtEntry)
    let behind : Transfer := { queuedRead with ort := 4 }
    ∀ auto sent : Bool, ∀ flight ∈ [none, some (Access.transferFetch 0 0x1000 8)],
    ∀ slot ∈ [none, some (ControlKind.cycleStop, 5), some (.cycleStart, 5)],
      let te := { TransferEngine.reset with transfer := some queuedRead, phase := .fetching, sent := sent }
      let f := cyclicFrame link3 [] false
      let s := { running { readyPort with
          state := .cyclic, slot := slot, queue := [queuedRead, behind], te := te
          config := { PortConfig.reset with autoRecovery := auto }, counters := { Counters.reset with misses := 2 }
          lf := { Framer.reset with state := .awaiting, timer := some 1800, flight := some { frame := f, start := 0 } } } with
        time := 1800, ort := [w 3, w 4, w 5]
        bus := { Bus.reset with flight := flight.map fun a => { access := a, live := true, wanted := true } } }
      let x := s.port 0
      s.reach 1800 = some s ∧ (x.state.hasLink = true ∧ f.engine = .cycle) ∧ x.config.missLimit ≤ x.counters.misses + 1 ∧
      (if slot.isSome then [w 5] else []).map (·.id) = (x.slot.map (·.2)).toList ∧
      [w 3].map (·.id) = (x.te.transfer.map (·.ort)).toList ∧
      ((x.te.fate (s.flightOf Access.transferPort 0) false (!auto)).queue queuedRead x.queue).map (·.ort) ∈ [[3, 4], [4]] ∧
      s.Open [w 5, w 3, w 4] ∧ (x.queue.map (·.ort)).head? = some queuedRead.ort ∧
      (flight.isSome = true → sent = true → x.te.fate (s.flightOf Access.transferPort 0) false (!auto) = .waits ⟨.linkLost, 0, false⟩) ∧
      (sent = false → (flight.isNone = true ∨ auto = true) →
        x.te.fate (s.flightOf Access.transferPort 0) false (!auto) = .kept) := by
  unfold State.Open State.NotAwaited
  decide +kernel

theorem witness_TheFrameEndsAndTRespStarts :
    let s := sendingAt 1000
    (s.port 0).lf.state = .sending ∧ (s.port 0).lf.flight = some { frame := identifyFrame .l3, start := 0 } ∧
    s.Reaches (0 + 10 * (identifyFrame .l3).chars * (identifyFrame .l3).speed.tb) s :=
  ⟨rfl, rfl, reaches_passed _ _ (by decide +kernel)⟩

/-- The port awaits the reply to an IDENTIFY at L3, T_resp running to 1800, with this candidate edge and level. -/
def awaitingAt (now : Nat) (candidate : Option Nat) (rxd : Bool) : State :=
  { running { idlePort with
      rxd := rxd
      lf := { Framer.reset with
        state := .awaiting, timer := some 1800, flight := some { frame := identifyFrame .l3, start := 0 }
        candidate := candidate } } with
    time := now, tail := 0 }

/-- An edge at the very end of T_resp, told and untold; one a unit later; one with another edge awaiting its sample, in it and
after it; and one after a glitch. -/
theorem witness_AStartEdgeBeginsTheReply :
    let half := Speed.l3.tb / 2
    let opens := fun (s : State) (n : Nat) => (s.port 0).EdgeOpen (s.port 0).lf.halfTb s.time n
    let quiet := fun s : State =>
      s.withPort 0 { s.port 0 with lf := { (s.port 0).lf with timer := none, rx := none, candidate := none } }
    let told := awaitingAt 1825 (some 1800) false
    (∀ n c b, ((awaitingAt n c b).port 0).lf.halfTb = half ∧ ((awaitingAt n c b).port 0).lf.state = .awaiting ∧
      ((awaitingAt n c b).port 0).lf.flight = some { frame := identifyFrame .l3, start := 0 }) ∧
    (told.port 0).config.tResp * Speed.l3.tb < 801 ∧ 800 ≤ (told.port 0).config.tResp * Speed.l3.tb ∧
    (opens told 1800 ∧ (told.port 0).EdgeTold half told.time 1800 ∧ (quiet told).reach (1800 + half) = some (quiet told)) ∧
    (opens (awaitingAt 1800 none true) 1800 ∧ (quiet (awaitingAt 1800 none true)).reach (1800 + half) ≠ none ∧
      ¬ ((awaitingAt 1800 none true).port 0).EdgeTold half 1800 1800) ∧
    (¬ opens told 1799 ∧ ¬ opens (awaitingAt 1825 (some 1800) true) 1800) ∧
    (¬ opens (awaitingAt 1110 (some 1100) true) 1125 ∧ opens (awaitingAt 1110 (some 1100) true) 1126) := by
  simp only [← edgeAgrees_iff]
  unfold Port.EdgeTold
  exact ⟨fun _ _ _ => ⟨rfl, rfl, rfl⟩, by decide +kernel, by decide +kernel,
    ⟨by decide +kernel, by decide +kernel, if_pos (by decide +kernel)⟩, by decide +kernel⟩

/-- Both limits: with no candidate edge, with a glitch at the limit, whose sample is half a Tb after it, and with one long before
it, and with an edge that awaits its sample. -/
theorem witness_AnExpiredLimitFailsTheExchange :
    let e : Exchange := { frame := cyclicFrame link3 [] false, start := 0 }
    ∀ st ∈ [FramerState.awaiting, .receiving],
      ∀ k ∈ [(none, 1800, true), (some 1800, 1825, true), (some 1000, 1800, true), (some 1800, 1825, false)],
      let s := { running { readyPort with
        rxd := k.2.2, lf := { Framer.reset with state := st, timer := some 1800, flight := some e, candidate := k.1 } } with
        time := k.2.1 }
      (s.port 0).lf.state = st ∧ (s.port 0).lf.flight = some e ∧ (s.port 0).lf.timer = some 1800 ∧
      (s.port 0).lf.candidate = k.1 ∧ k.1.all (· ≤ 1800) = true ∧ (s.port 0).rxd = k.2.2 ∧
      s.reach (max s.time (1800 + (k.1.getD 0 + e.frame.speed.tb / 2 - 1800))) = some s ∧
      (k.2.2 = false → s.time ≤ 1800 + e.frame.speed.tb / 2) := by
  decide +kernel

/-- An IDENTIFY reply is received at L3, its first character since 1000; the BRING_UP is entry 0. -/
def identifyReply : State :=
  { running { receivingPort (identifyFrame .l3) 0 1000 with
      state := .bringup, slot := some (.bringUp, 0)
      seq := { Sequencer.reset with phase := .identify, ladder := [.l3], attempts := 1 } } with
    ort := [{ entry0 with st := .active }] }

/-- What a claim about a reply asks of the state at the instant at which its characters have come. -/
def ReplyAt (f : Frame) (start n : Nat) (r : Rx) (s : State) : Prop :=
  let x := s.port 0
  let t := { s with time := n }
  let quiet := t.withPort 0 { x with lf := { x.lf with timer := none, rx := none, candidate := none } }
  x.lf.state = .receiving ∧ x.lf.flight = some { frame := f, start := start } ∧ x.lf.rx = some r ∧
  r.count = r.octets.length ∧ r.crc = crc r.octets ∧ quiet.reach n = some quiet

/-- No reply character received yet, the first under way since `edge`. -/
def firstCharacter (edge : Nat) : Rx := { edge := some edge, count := 0, crc := crcPreset, octets := [], lastEnd := edge }

theorem clean (g : Nat) (l : List Byte) : CleanCharacters g (l.map char) := by
  refine ⟨fun c h => ?_, fun c h => ?_⟩
  · obtain ⟨_, _, rfl⟩ := List.mem_map.mp h
    rfl
  · obtain ⟨_, _, rfl⟩ := List.mem_map.mp (List.mem_of_mem_drop h)
    exact Nat.zero_le _

theorem begun_with_nothing (f : Frame) : f.begunWith [] := by
  refine ⟨fun n e => ?_, fun _ n e => nomatch e⟩
  cases hf : f.kind.service <;> simp [Frame.replyChars, hf] at e
  simp only [List.length_nil]
  omega

/-- Replies to a CYCLIC frame, to an IDENTIFY and to a segment, S = 8: clean, with a wrong CRC, and with the other TOGGLE. -/
theorem witness_ACyclicReplyFormsAnInputImage :
    let cyclic := cyclicFrame link3 [1, 2, 3, 4] false
    let read : Transfer := { ort := 0, tag := 0, write := false, index := 7, length := 20, buffer := 0x1000, ending := none }
    let segment := segmentFrame readyPort { readSegment read false with toggle := some false } false
    let descriptor : List Byte := [0, 1, 1, 5, 4, 4, 0, 9, 0]
    let whole := fun l : List Byte => l ++ [crc l]
    (∀ l ∈ [[0x10, 5, 6, 7, 8, crc [0x10, 5, 6, 7, 8]], [0, 5, 6, 7, 8, 0]], cyclic.replyChars l = some l.length) ∧
    ReplyAt cyclic (32 * 20100) (32 * 20200 + replySpan 50 (List.replicate 6 (char 0))) (firstCharacter (32 * 20200)) cycleUnderWay ∧
    cyclic.begunWith [] ∧ (identifyFrame .l3).begunWith [] ∧ segment.begunWith [] ∧
    (cycleUnderWay.port 0).cyc.underWay = some 20100 ∧ cyclic.kind.service = false ∧
    (identifyFrame .l3).replyChars (whole descriptor) = some 10 ∧ (whole descriptor).length = 10 ∧
    ReplyAt (identifyFrame .l3) 0 (1000 + replySpan 50 ((whole descriptor).map char)) (firstCharacter 1000) identifyReply ∧
    (identifyReply.port 0).seq.phase = .identify ∧
    (∀ l ∈ [whole [0x08, 0x03, 1, 2, 3], whole [0x01, 0], [0, 0, 0], whole [0x04, 0]],
      segment.replyChars l = some l.length ∧ (l.getD 1 0).toNat ≤ segment.seg ∧
      ReplyAt segment 0 (1000 + replySpan 50 (l.map char)) (firstCharacter 1000) thirdSegment) ∧
    (crc [0, 0] ≠ 0 ∧ (0x04 : Byte).getLsbD 2 ≠ segment.toggle ∧ (0x08 : Byte).getLsbD 2 = segment.toggle) ∧
    (thirdSegment.port 0).te.phase = .exchange ∧ (thirdSegment.port 0).te.transfer = some read ∧
    (thirdSegment.port 0).te.sent = true ∧ thirdSegment.Open [{ entry0 with st := .active }] := by
  unfold ReplyAt State.Open State.NotAwaited
  refine ⟨by decide +kernel, ⟨rfl, rfl, rfl, rfl, rfl, if_pos rfl⟩, begun_with_nothing _, begun_with_nothing _,
    begun_with_nothing _, rfl, rfl, by decide +kernel, rfl, ⟨rfl, rfl, rfl, rfl, rfl, if_pos rfl⟩, rfl,
    fun l h => ⟨?_, ?_, rfl, rfl, rfl, rfl, rfl, if_pos rfl⟩, by decide +kernel⟩ <;> revert l <;> decide +kernel

/-- Two reply characters received, LEN 3 among them. -/
def twoCharacters : Rx := { edge := none, count := 2, crc := crc [0, 3], octets := [0, 3], lastEnd := 2000 }

/-- The reply of `thirdSegment` between its second and third character, LEN 3, G running; with a candidate edge or none. -/
def betweenCharacters (candidate : Option Nat) : State :=
  let x := thirdSegment.port 0
  { thirdSegment.withPort 0 { x with
      rxd := candidate.isNone
      lf := { x.lf with
        timer := some 2100, candidate := candidate
        rx := some twoCharacters } } with
    time := 2000 }

/-- The first character of the reply of `thirdSegment` ends, and the edge of the second was told at that instant. -/
def endingCharacter : State :=
  let x := thirdSegment.port 0
  { thirdSegment.withPort 0 { x with
      rxd := false
      lf := { x.lf with recessiveSince := none, dominantSince := some 1500, candidate := some 1500 } } with
    time := 1500 }

/-- The dominant stop bit in the first and in the second character, a LEN of 9, and a reply that goes on. Between characters: a
gap of 0 and of G, its edge told and untold. -/
theorem witness_ACyclicReplyFormsAnInputImage_in_parts :
    let segment := ((thirdSegment.port 0).lf.flight.map (·.frame)).getD (identifyFrame .l1)
    let r := twoCharacters
    (segment.kind.service = true ∧ segment.seg = 8 ∧ segment.seg < (9 : Byte).toNat) ∧
    (∀ l ∈ [[], [0], [0, 3], [0, 3, 1, 2]], segment.begunWith l ∧ CleanCharacters 100 (l.map char)) ∧
    (thirdSegment.port 0).config.gapLimit * segment.speed.tb = 100 ∧
    (∀ n ∈ [1000 + 475, 1000 + 500 + 475, 1000 + replySpan 50 [char 0, char 3]],
      ReplyAt segment 0 n (firstCharacter 1000) thirdSegment) ∧
    (∀ n ∈ [2525, 2600], ∀ c ∈ [none, some 2000], ReplyAt segment 0 n r (betweenCharacters c)) ∧
    (∀ n ∈ [0, 100], BeginsAt ((betweenCharacters none).port 0) 50 2000 100 r [n] (2000 + n)) ∧
    BeginsAt ((betweenCharacters (some 2000)).port 0) 50 2000 100 r [0] 2000 ∧
    (∀ gaps, BeginsAt (thirdSegment.port 0) 50 thirdSegment.time 100 (firstCharacter 1000) gaps 1000) ∧
    (∀ gaps ∈ [[0], [0, 0], [7, 0, 9]], BeginsAt (endingCharacter.port 0) 50 1500 100 (firstCharacter 1000) gaps 1000) ∧
    ReplyAt segment 0 1500 (firstCharacter 1000) endingCharacter ∧ ReplyAt segment 0 1525 (firstCharacter 1000) endingCharacter ∧
    (endingCharacter.port 0).lf.candidate = some 1500 ∧
    ((betweenCharacters (some 2000)).port 0).EdgeTold 25 2000 2000 ∧
    ¬ ((betweenCharacters none).port 0).EdgeTold 25 2000 2000 := by
  refine ⟨by decide +kernel, fun l h => ⟨⟨fun n e => ?_, fun _ n e => ?_⟩, clean _ _⟩, by decide +kernel,
    fun n _ => ⟨rfl, rfl, rfl, rfl, rfl, if_pos rfl⟩, fun n _ c hc => ?_, fun n h => ?_, ?_, ?_, ?_, ?_,
    ?_, rfl, ?_, ?_⟩
  iterate 2
    · simp only [List.mem_cons, List.not_mem_nil, or_false] at h
      rcases h with rfl | rfl | rfl | rfl
      all_goals first
        | (obtain rfl := Option.some.inj e; decide +kernel)
        | exact nomatch e
  · exact ⟨rfl, rfl, rfl, rfl, by decide +kernel, if_pos rfl⟩
  · exact ⟨n, rfl, rfl, by revert n; decide, Nat.le_add_right _ _⟩
  · exact ⟨0, rfl, rfl, by decide, (edgeAgrees_iff (s := betweenCharacters (some 2000)) (p := 0)).mp (by decide +kernel)⟩
  · exact fun _ => ⟨rfl, fun _ h => nomatch h⟩
  · refine fun gaps h => ⟨rfl, fun n _ e => (edgeAgrees_iff (s := endingCharacter) (p := 0)).mp ?_⟩
    simp only [List.mem_cons, List.not_mem_nil, or_false] at h
    rcases h with rfl | rfl | rfl
    · exact nomatch e
    all_goals (obtain rfl := Option.some.inj e; decide +kernel)
  · exact ⟨rfl, rfl, rfl, rfl, by decide +kernel, if_pos rfl⟩
  · exact ⟨rfl, rfl, rfl, rfl, by decide +kernel, if_pos rfl⟩
  · exact ⟨rfl, by decide⟩
  · rintro ⟨h, _⟩
    exact nomatch h

/-- A port in GUARD whose guard ends now. -/
def guardPort : Port :=
  { readyPort with lf := { Framer.reset with state := .guard, timer := some 3200, flight := some { frame := identifyFrame .l3, start := 0 } } }

def guardEnding (x : Port) : State := { running x with time := 3200 }

/-- With a frame held, with nothing, with a sequence that is to stop; and with a start instant that waited: every judgement of its
sample, under every policy, below the stale limit, at it and at a count of 255, with a CYCLE_STOP waiting and none, with an
earlier exchange under way and none. -/
theorem witness_TheGuardEnds :
    let started := fun (sample : Sample) (policy : StalePolicy) (n : Nat) (slot : Option (ControlKind × Nat))
        (under : Option Word) => ({ guardPort with
      state := .cyclic, slot := slot, config := { PortConfig.reset with stalePolicy := policy, staleLimit := 3 }
      counters := { Counters.reset with stales := n }
      cyc := { CycleEngine.reset with
        startWait := some 100, sample := sample, underWay := under, lastGen := some 7, lastData := some [9, 9, 9, 9] } } : Port)
    let waiting := { entry0 with id := 5, st := .waiting }
    (∀ x : Port, (guardEnding x).Reaches 3200 (guardEnding x)) ∧
    (∀ x ∈ [guardPort, { guardPort with lf := { guardPort.lf with held := some (.pulse .l3) } },
        { guardPort with state := .bringup, seq := { Sequencer.reset with phase := .lineWait, stopRequested := true } }],
      ((guardEnding x).port 0).lf.state = .guard ∧ ((guardEnding x).port 0).lf.timer = some 3200) ∧
    guardPort.lf.held = none ∧ guardPort.cyc.startWait = none ∧ guardPort.seq.phase = .stopped ∧
    (∀ sample policy n slot under,
      let s := { guardEnding (started sample policy n slot under) with ort := [waiting] }
      let x := s.port 0
      x.lf.state = .guard ∧ x.lf.timer = some 3200 ∧ x.lf.held = none ∧ x.cyc.startWait = some 100 ∧
      x.seq.stopRequested = false ∧ x.state = .cyclic ∧ x.link = some link3 ∧ x.counters.stales = n ∧ x.slot = slot ∧
      x.config.staleLimit = 3 ∧ x.config.stalePolicy = policy ∧ x.cyc.underWay = under ∧ s.Open [waiting]) ∧
    (∀ j ∈ [(Sample.complete (some 8) [1, 2, 3, 4] false, none), (.complete none [] false, none), (.empty, some StaleCause.late),
        (.reading true 7 [], some .late), (.complete (some 8) [] true, some .torn), (.complete (some 7) [] false, some .unchanged)],
      (started j.1 .skip 0 none none).judged = j.2) ∧
    (started .empty .skip 0 (some (.cycleStop, 5)) none).endsAtStart := by
  refine ⟨fun x => reaches_passed _ _ (Nat.le_refl _), by decide +kernel, rfl, rfl, rfl,
    fun _ _ _ _ _ => ⟨rfl, rfl, rfl, rfl, rfl, rfl, rfl, rfl, rfl, rfl, rfl, rfl, fun e h => ?_⟩, by decide +kernel, rfl, rfl, rfl⟩
  obtain rfl := List.mem_singleton.mp h
  exact ⟨rfl, nofun, fun x hx => by obtain rfl := List.mem_singleton.mp hx; exact List.not_mem_nil⟩

/-- A wake pulse whose timer ends now: in its dominant level, in its quiet time, and with a sequence that is to stop. -/
theorem witness_TheWakePulseEnds :
    let x := fun (txen stop : Bool) => ({ idlePort with
      state := .bringup, lf := { Framer.reset with state := .waking, txen := txen, timer := some 3200 }
      seq := { Sequencer.reset with phase := .wake, ladder := [.l1], stopRequested := stop } } : Port)
    ∀ txen stop, ((guardEnding (x txen stop)).port 0).lf.state = .waking ∧
      ((guardEnding (x txen stop)).port 0).lf.timer = some 3200 ∧
      (guardEnding (x txen stop)).Reaches 3200 (guardEnding (x txen stop)) ∧
      ((guardEnding (x txen stop)).port 0).lf.txen = txen ∧ ((guardEnding (x txen stop)).port 0).seq.phase = .wake ∧
      ((guardEnding (x txen stop)).port 0).seq.stopRequested = stop :=
  fun _ _ => ⟨rfl, rfl, reaches_passed _ _ (Nat.le_refl _), rfl, rfl, rfl⟩

/-- A port that fails in the middle of its work: a control slot, the active transfer's fetch in flight, a transfer behind it, and
the report write of a query. -/
def failingPort : Port :=
  { readyPort with
    slot := some (.cycleStop, 5), queue := [queuedRead, { queuedRead with ort := 4 }]
    te := { TransferEngine.reset with transfer := some queuedRead, phase := .fetching }
    queries := [{ ort := 6, buffer := 0x3000, report := [], state := .ready }], xclaims := [.report 6] }

def failing (x : Port) (now : Nat) : State :=
  { withEntries ([5, 4, 6, 3].map fun i => { entry0 with id := i, st := .queued }) (flying (.transferFetch 0 0x1000 8) x) with
    time := now }

/-- The line dominant for 10,000 µs of WAITING, and the blank timer of a frame under way at the blank time of 1000 µs: the slot,
the transfer behind the active one and the claimed report are handed at once, the active transfer at its access's end. -/
theorem witness_AFaultTakesThePortOutOfService :
    let w := fun i => ({ entry0 with id := i, st := .queued } : OrtEntry)
    let stuck := failing { failingPort with
      lf := { Framer.reset with state := .waiting, held := some (.pulse .l1), dominantSince := some 0 } } (32 * 10000)
    let over_ := failing { failingPort with blank := some 0 } (32 * 1000)
    ((stuck.port 0).lf.state = .waiting ∧ (∃ d, (stuck.port 0).lf.dominantSince = some d ∧
        32 * 10000 = max (stuck.port 0).lf.waitSince d + 32 * 10000) ∧ stuck.Reaches (32 * 10000) stuck) ∧
    (∃ b, (over_.port 0).blank = some b ∧ 32 * 1000 = b + 32 * (over_.port 0).config.blankTime) ∧
    over_.Reaches (32 * 1000) over_ ∧
    ∀ s ∈ [stuck, over_],
      let x := s.port 0
      let waits := fun b : Transfer => match b.ending with
        | some d => !d.onExchange
        | none => s.flightOf Access.transferPort 0 && x.te.transfer.map (·.ort) == some b.ort
      (x.state ≠ .disabled ∧ x.state ≠ .fault ∧ x.disables = []) ∧
      (∀ b ∈ x.queue, ∀ d, b.ending = some d → d.status = .portFault → d.result = 0) ∧
      [w 5, w 4, w 6].map (·.id) =
        (x.slot.map (·.2)).toList ++ (x.queue.filter fun b => !waits b).map (·.ort) ++ x.reportClaims ∧
      [w 3].map (·.id) = (x.queue.filter waits).map (·.ort) ∧
      (([w 5, w 4, w 6] ++ [w 3]).map (·.id)).Nodup ∧ s.Open ([w 5, w 4, w 6] ++ [w 3]) := by
  unfold State.Open State.NotAwaited
  exact ⟨⟨rfl, ⟨0, rfl, rfl⟩, reaches_passed _ _ (Nat.le_refl _)⟩, ⟨0, rfl, rfl⟩, reaches_passed _ _ (Nat.le_refl _),
    by decide +kernel⟩

/-- Masks of one speed and of all, the kept speed of a recovery, and a backoff that expires. -/
theorem witness_AnAttemptHandsOverTheWakePulse :
    let starts := fun (mode : SeqMode) (m : BitVec 3) => ({ idlePort with
      link := some link3, config := { PortConfig.reset with speedMask := m }
      seq := { Sequencer.reset with phase := .lineWait, mode := mode } } : Port)
    let waits := { running { idlePort with seq := { Sequencer.reset with phase := .backoff, backoff := some 32 } } with time := 32 }
    (∀ mode m, let x := (running (starts mode m)).port 0
      x.seq.phase = .lineWait ∧ x.seq.stopRequested = false ∧ x.lf.state = .free ∧ x.link = some link3) ∧
    (waits.port 0).seq.phase = .backoff ∧ (waits.port 0).seq.backoff = some 32 ∧ waits.Reaches 32 waits :=
  ⟨fun _ _ => ⟨rfl, rfl, rfl, rfl⟩, rfl, rfl, reaches_passed _ _ (Nat.le_refl _)⟩

/-- With an access that the engine has given up in flight, and none; a head that may begin in READY, and one under a schedule of 637 µs where the fit test needs 638. -/
theorem witness_ActivationBeginsTheHeadTransfer :
    let ready := (running queueingPort).port 0
    let tight := (running { queueingPort with state := .cyclic, sched := some (grouped 0 1 0 637 (some 100) false) }).port 0
    (∀ a x, (flying a x).port 0 = (running x).port 0) ∧
    (ready.te.phase = .none ∧ ready.state.hasLink = true ∧ ready.queue = queuedRead :: [] ∧ queuedRead.ending = none ∧
      ready.link = some link3 ∧ ready.underSchedule = false) ∧
    tight.te.phase = .none ∧ tight.state.hasLink = true ∧ tight.queue = queuedRead :: [] ∧ tight.link = some link3 ∧
    tight.underSchedule = true ∧
    windowUs tight.config link3.speed (2 + segSize link3.desc) (3 + segSize link3.desc) + wCyc tight.config link3 = 638 ∧
    let s := { running queueingPort with ort := [matchedEntry] }
    s.ortFind queuedRead.ort = some matchedEntry ∧ matchedEntry.st ≠ .done ∧ s.NotAwaited queuedRead.ort := by
  unfold State.NotAwaited
  exact ⟨fun _ _ => rfl, by decide +kernel⟩

/-- The first segment of a read of at most 4096 octets, and a port that waits with it. -/
def firstSegment : Segment := readSegment queuedRead true

def sendingPort (abandon : Bool) : Port :=
  { readyPort with
    queue := [queuedRead]
    te := { TransferEngine.reset with
      phase := if abandon then .abandonWait else .sendWait, transfer := some queuedRead, sent := abandon, cause := if abandon then some .aborted else none
      segment := if abandon then none else some firstSegment } }

/-- In READY, and in ARMED before its group is fired, on a free line and in the guard; in CYCLIC, and in ARMED with a next start,
exactly as far off as the window needs and one microsecond nearer; and under a period of 637 µs where the fit test needs
638. -/
theorem witness_SegmentsGoOutWhenTheyFit :
    let w := windowUs PortConfig.reset link3.speed (firstSegment.payload.length + 2) (3 + segSize link3.desc)
    let v := windowUs PortConfig.reset link3.speed 2 (3 + segSize link3.desc)
    let port := fun (abandon : Bool) (state : PortState) (sched : Option Sched) (lf : FramerState) =>
      { sendingPort abandon with state := state, sched := sched, lf := { Framer.reset with state := lf } }
    let before := fun (n : Nat) (period : Nat) => some (grouped 0 1 0 period (some (BitVec.ofNat 32 n)) false)
    let inGap := fun (n m : Nat) => decide
      ((BitVec.ofNat 32 n - ((running port0).timebase + 1 + BitVec.ofNat 32 m)).toNat < 2 ^ 31)
    (∀ a, ∀ state ∈ [PortState.ready, .armed, .cyclic], ∀ sched ∈ [none, some (grouped 0 1 0 1000 none false),
        before (w + 1) 638, before w 638, before (v + 1) 638, before v 638, before 5000 637], ∀ lf ∈ [FramerState.free, .guard],
      let x := (running (port a state sched lf)).port 0
      x.link = some link3 ∧ x.lf.held = none ∧ x.te.transfer = some queuedRead ∧
      x.te.phase = (if a then .abandonWait else .sendWait) ∧ x.te.segment = (if a then none else some firstSegment) ∧
      x.te.cause = (if a then some .aborted else none)) ∧
    fitTest PortConfig.reset link3 638 = true ∧ fitTest PortConfig.reset link3 637 = false ∧ inGap (w + 1) w = true ∧
    inGap w w = false ∧ inGap (v + 1) v = true ∧ inGap v v = false ∧
    ({ running (port true .cyclic none .free) with ort := [matchedEntry] }).Open [matchedEntry] ∧
    matchedEntry.id = queuedRead.ort := by
  unfold State.Open State.NotAwaited
  decide +kernel

/-- R119: the store of an aborted read ends, its octets are not counted, and SVC_ABANDON is to follow. -/
theorem test_the_store_of_an_aborted_read :
    let x := activePort .storing true (some .aborted)
    let te := ((after (.transferStoreEnd true) { flying (.transferStore 0 0x1000 [1, 2]) { x with
      te := { x.te with octetsDone := 8, storing := some (2, true) } } with ort := [matchedEntry] }).port 0).te
    te.phase = .abandonWait ∧ te.octetsDone = 8 ∧ te.cause = some .aborted := by decide +kernel

/-- R129: a fetch that ends in HALTED is dropped, with its entry and its reservation. -/
theorem test_a_fetch_that_ends_in_halted :
    let t := after (.nop blankRecord) { fetching port0 with part := .halted }
    t.ort = [] ∧ t.cpl.reserved = 0 ∧ t.head = 0 ∧ t.cpl.done = [] := by decide +kernel

/-- A fetch of the first segment of a write, with a segment sent before it or not, and a store with LAST or not; each with no
abandon cause and with every one; and each of them given up, a later transfer's claim and a report's listed. -/
theorem witness_AnEndedAccessMovesTheTransferOn :
    let port := fun (sent last : Bool) (cause : Option AbandonCause) => ({ readyPort with
      queue := [queuedRead]
      te := { TransferEngine.reset with
        phase := .storing, transfer := some queuedRead, sent := sent, storing := some (8, last), cause := cause } } : Port)
    let former := fun (a : Access) => { flying a { queueingPort with xclaims := [.fetch 0x2000 4, .report 8] } with
      bus := { Bus.reset with flight := some { access := a, live := false, wanted := true } } }
    (∀ x ∈ [(Access.transferFetch 0 0x1000 4, Instr.transferFetchEnd none),
        (.transferStore 0 0x1000 [1, 2], .transferStoreEnd true)],
      (former x.1).bus.flight = some { access := x.1, live := false, wanted := true } ∧ x.1.transferPort = some 0 ∧
      EndsAccess x.1 x.2 ∧ ((former x.1).port 0).disables = [] ∧
      ∀ u ∈ ((former x.1).port 0).queue, ∀ e, u.ending = some e → e.onExchange = true) ∧
    ∀ a ∈ [Access.transferFetch 0 0x1000 4, .transferStore 0 0x1000 [1, 2, 3, 4, 5, 6, 7, 8]], ∀ sent last,
      ∀ cause ∈ [none, some AbandonCause.aborted, some .linkError, some .bufferFault, some .tooLong],
      let s := { flying a (port sent last cause) with ort := [matchedEntry] }
      s.bus.flight = some { access := a, live := true, wanted := true } ∧
      (s.port 0).te.transfer = some queuedRead ∧ (s.port 0).te.cause = cause ∧
      s.ortFind queuedRead.ort = some matchedEntry ∧ matchedEntry.st ≠ .done ∧ s.NotAwaited queuedRead.ort ∧
      (s.port 0).te.storing = some (8, last) ∧ (s.port 0).te.sent = sent := by
  unfold State.NotAwaited
  refine ⟨fun x h => ?_, by decide +kernel⟩
  simp only [List.mem_cons, List.not_mem_nil, or_false] at h
  rcases h with rfl | rfl
  · exact ⟨rfl, rfl, .inl ⟨_, _, _, _, rfl, rfl⟩, rfl, by decide +kernel⟩
  · exact ⟨rfl, rfl, .inr ⟨_, _, _, _, rfl, rfl⟩, rfl, by decide +kernel⟩

/-- A report write in flight, with no PORT_DISABLE waiting for it and with one. -/
theorem witness_AReportWriteEndsItsQuery :
    let q : Query := { ort := 3, buffer := 0x2000, report := [], state := .fault }
    let w : DisableWait := { ort := 4, count := 1 }
    ∀ l ∈ [[], [w]],
      let s := { flying (.reportWrite 0 3 0x2000 []) { port0 with queries := [q], disables := l } with
        ort := [matchedEntry, { entry0 with id := 4, st := .waiting }] }
      s.bus.flight = some { access := .reportWrite 0 3 0x2000 [], live := true, wanted := true } ∧
      ((s.port 0).queries.find? fun r => r.ort = q.ort) = some q ∧ (∀ u ∈ (s.port 0).queue, u.ending = none) ∧
      s.ortFind q.ort = some matchedEntry ∧ matchedEntry.st ≠ .done ∧ (∀ e ∈ s.ort, e.awaited = []) ∧
      (s.port 0).disables = l ∧ w.ort ≠ q.ort ∧ s.ortFind w.ort = some { entry0 with id := 4, st := .waiting } := by
  decide +kernel

end Sys2Proof.Tests
end

section
/-! PROOFS. A port out of service keeps its Line Framer OFF and empty through every step (R10, R17). The idea: no operation
but PORT_DISABLE, the entry to FAULT and the resets takes a port out of service, and those cut its line; every other one either
leaves the line of a port that is out of service as it was, or acts on a port in service. -/

namespace Sys2Proof.Machine

/- Each proof waits for the kernel; checked one after another, they need no more threads than the rest of the package. -/
set_option Elab.async false

variable {p : PortId} {s t u : State}

/-! ### The relation every other operation keeps -/

/-- The port is neither DISABLED nor in FAULT. -/
def Port.InService (x : Port) : Prop := x.state ≠ .disabled ∧ x.state ≠ .fault

/-- From `x` to `y` a port came to be, or stayed, in service, or was out of service and kept its Line Framer. -/
def Port.LineKept (x y : Port) : Prop := y.InService ∨ (¬ x.InService ∧ y.lf = x.lf)

theorem Port.LineKept.of_eq {x y : Port} (hl : y.lf = x.lf) (hs : y.state = x.state) : x.LineKept y := by
  by_cases h : x.InService
  · exact .inl (by simpa [Port.InService, hs] using h)
  · exact .inr ⟨h, hl⟩

theorem Port.LineKept.trans {x y z : Port} (h : x.LineKept y) (k : y.LineKept z) : x.LineKept z := by
  rcases k with hz | ⟨hy, hzy⟩
  · exact .inl hz
  · rcases h with h | ⟨hx, hyx⟩
    · exact absurd h hy
    · exact .inr ⟨hx, hzy.trans hyx⟩

/-- `Port.LineKept` for every port. -/
def LinesKept (s t : State) : Prop := ∀ q, (s.port q).LineKept (t.port q)

theorem LinesKept.refl (s : State) : LinesKept s s := fun _ => .of_eq rfl rfl

theorem LinesKept.trans (h : LinesKept s t) (k : LinesKept t u) : LinesKept s u := fun q => (h q).trans (k q)

theorem lineSafe_iff : s.LineSafe ↔ ∀ q, ¬ (s.port q).InService → (s.port q).lf = Framer.reset := by
  simp only [State.LineSafe, Port.InService, not_and_or, not_not]

theorem LinesKept.lineSafe (h : LinesKept s t) (hs : s.LineSafe) : t.LineSafe :=
  lineSafe_iff.mpr fun q hq => by
    rcases h q with ht | ⟨hx, hl⟩
    · exact absurd ht hq
    · exact hl.trans (lineSafe_iff.mp hs q hx)

theorem LinesKept.inService (h : LinesKept s t) (hs : (s.port p).InService) : (t.port p).InService := by
  rcases h p with ht | ⟨hx, -⟩
  · exact ht
  · exact absurd hs hx

/-- A port of a safe state whose Line Framer is not OFF is in service. -/
theorem State.LineSafe.inService (hs : s.LineSafe) (h : (s.port p).lf.state ≠ .off) : (s.port p).InService := by
  by_contra hn
  exact h (by rw [lineSafe_iff.mp hs p hn]; rfl)

theorem State.LineSafe.congr (hs : s.LineSafe) (h : t.ports = s.ports) : t.LineSafe := fun q => by
  rw [State.port_congr h q]; exact hs q

theorem ite_lineSafe {c : Prop} [Decidable c] (ht : t.LineSafe) (hu : u.LineSafe) : (if c then t else u).LineSafe := by
  split
  · exact ht
  · exact hu

/-- A step that touches one port and leaves its line cut. -/
theorem State.LineSafe.of_cut (hs : s.LineSafe) (h : At p s t) (hl : (t.port p).lf = Framer.reset) : t.LineSafe := by
  intro q
  by_cases hq : q = p
  · subst hq; exact fun _ => hl
  · rw [h.others q hq]; exact hs q

/-! ### Updates -/

theorem LinesKept.of_ports (h : LinesKept s t) (hp : u.ports = t.ports) : LinesKept s u := fun q => by
  rw [State.port_congr hp q]; exact h q

theorem modGroup_kept (h : LinesKept s t) (g : GroupId) (f : Group → Group) : LinesKept s (t.modGroup g f) := h.of_ports rfl

theorem modBus_kept (h : LinesKept s t) (f : Bus → Bus) : LinesKept s (t.modBus f) := h.of_ports rfl

theorem setOrt_kept (h : LinesKept s t) (id : Nat) (f : OrtEntry → OrtEntry) : LinesKept s (t.setOrt id f) :=
  h.of_ports rfl

theorem setOrtState_kept (h : LinesKept s t) (id : Nat) (st : OrtState) : LinesKept s (t.setOrtState id st) :=
  setOrt_kept h _ _

theorem disown_kept (h : LinesKept s t) (of : Access → Option PortId) (q : PortId) : LinesKept s (t.disown of q) :=
  modBus_kept h _

theorem unwantSample_kept (h : LinesKept s t) (q : PortId) : LinesKept s (t.unwantSample q) := modBus_kept h _

theorem modPort_kept (h : LinesKept s t) {f : Port → Port} (hf : (t.port p).LineKept (f (t.port p))) :
    LinesKept s (t.modPort p f) := by
  refine h.trans fun q => ?_
  by_cases hq : q = p
  · subst hq; simpa using hf
  · rw [State.port_modPort_ne t hq]; exact .of_eq rfl rfl

/-- An update that leaves the Line Framer and the port state. -/
theorem modPort_kept_of_eq (h : LinesKept s t) {f : Port → Port} (hl : ∀ x, (f x).lf = x.lf := by intro; rfl)
    (hs : ∀ x, (f x).state = x.state := by intro; rfl) : LinesKept s (t.modPort p f) := modPort_kept h (.of_eq (hl _) (hs _))

/-- An update that puts the port in service. -/
theorem modPort_kept_of_inService (h : LinesKept s t) {f : Port → Port} (hf : (f (t.port p)).InService) :
    LinesKept s (t.modPort p f) := modPort_kept h (.inl hf)

theorem modSeq_kept (h : LinesKept s t) (f : Sequencer → Sequencer) : LinesKept s (t.modSeq p f) :=
  modPort_kept_of_eq h

theorem modCyc_kept (h : LinesKept s t) (f : CycleEngine → CycleEngine) : LinesKept s (t.modCyc p f) :=
  modPort_kept_of_eq h

theorem modTe_kept (h : LinesKept s t) (f : TransferEngine → TransferEngine) : LinesKept s (t.modTe p f) :=
  modPort_kept_of_eq h

theorem modCounters_kept (h : LinesKept s t) (f : Counters → Counters) : LinesKept s (t.modCounters p f) :=
  modPort_kept_of_eq h

/-- The Line Framer of a port in service may do anything. -/
theorem modLf_kept (h : LinesKept s t) (hp : (t.port p).InService) (f : Framer → Framer) : LinesKept s (t.modLf p f) :=
  modPort_kept_of_inService h hp

theorem setPortState_kept (h : LinesKept s t) {st : PortState} (hd : st ≠ .disabled) (hf : st ≠ .fault) :
    LinesKept s (t.setPortState p st) := modPort_kept_of_inService h ⟨hd, hf⟩

theorem ite_kept {c : Prop} [Decidable c] {a b : State} (ha : LinesKept s a) (hb : LinesKept s b) :
    LinesKept s (if c then a else b) := by
  split
  · exact ha
  · exact hb

theorem foldl_kept {α : Type} (f : State → α → State) (hf : ∀ u a, LinesKept u (f u a)) (l : List α)
    (h : LinesKept s t) : LinesKept s (l.foldl f t) := by
  induction l generalizing t with
  | nil => exact h
  | cons a l ih => exact ih (h.trans (hf t a))

/-! ### Hand-overs and posts -/

theorem handOver_kept (h : LinesKept s t) (id : Nat) (st : Status) (r : Word) : LinesKept s (t.handOver id st r) :=
  h.of_ports (handOver_ports t id st r)

theorem handAll_kept (h : LinesKept s t) (ids : List Nat) (st : Status) : LinesKept s (t.handAll ids st) :=
  foldl_kept _ (fun u id => handOver_kept (.refl u) id st 0) ids h

theorem post_kept (h : LinesKept s t) (q : PortId) (k : EventKind) (d : Word) : LinesKept s (t.post q k d) :=
  h.of_ports (post_ports t q k d)

/-! ### The operations the engines of a port share -/

theorem leave_kept (h : LinesKept s t) : LinesKept s (t.leave p) :=
  modPort_kept_of_eq (h.of_ports (u := { t with groups := t.groups.map (Group.without p) }) rfl)

theorem discardSample_kept (h : LinesKept s t) : LinesKept s (t.discardSample p) :=
  unwantSample_kept (modCyc_kept h _) _

theorem toReady_kept (h : LinesKept s t) : LinesKept s (t.toReady p) :=
  modPort_kept_of_inService (discardSample_kept (leave_kept h)) (by simp [Port.InService])

theorem clearTransfer_kept (h : LinesKept s t) : LinesKept s (t.clearTransfer p) :=
  modPort_kept_of_eq h

theorem endActive_kept (h : LinesKept s t) (st : Status) (r : Word) : LinesKept s (t.endActive p st r) := by
  unfold State.endActive
  split
  · exact h
  · exact handOver_kept (modPort_kept_of_eq (clearTransfer_kept h)) _ _ _

theorem deferActive_kept (h : LinesKept s t) (e : Ending) : LinesKept s (t.deferActive p e) := by
  unfold State.deferActive
  split
  · exact h
  · exact disown_kept (modPort_kept_of_eq (clearTransfer_kept h)) _ _

theorem returnActive_kept (h : LinesKept s t) : LinesKept s (t.returnActive p) := by
  unfold State.returnActive
  split
  · exact h
  · exact disown_kept (setOrtState_kept (clearTransfer_kept h) _ _) _ _

theorem endTransfer_kept (h : LinesKept s t) (st : Status) (r : Word) : LinesKept s (t.endTransfer p st r) :=
  ite_kept (deferActive_kept h _) (endActive_kept h _ _)

theorem endAbandoned_kept (h : LinesKept s t) : LinesKept s (t.endAbandoned p) := by
  unfold State.endAbandoned
  split
  · exact h
  · exact endActive_kept h _ _

theorem stopActive_kept (h : LinesKept s t) (b i : Bool) : LinesKept s (t.stopActive p b i) := by
  unfold State.stopActive
  dsimp only
  split
  · exact ite_kept (ite_kept (deferActive_kept h _) (endAbandoned_kept (disown_kept h _ _))) (endTransfer_kept h _ _)
  · refine ite_kept (endTransfer_kept h _ _) (ite_kept (deferActive_kept ?_ _) (returnActive_kept h))
    cases (t.port p).te.transfer with
    | none => exact h
    | some a => exact setOrtState_kept h a.ort .queued

theorem handQueue_kept (h : LinesKept s t) (st : Status) : LinesKept s (t.handQueue p st) :=
  handAll_kept (modPort_kept_of_eq h) _ _

theorem handEnded_kept (h : LinesKept s t) (b : Bool) : LinesKept s (t.handEnded p b) := by
  refine foldl_kept _ (fun u e => ?_) _ (modPort_kept_of_eq h)
  split
  · exact handOver_kept (.refl u) _ _ _
  · exact .refl u

theorem accessEnded_kept (h : LinesKept s t) : LinesKept s (t.accessEnded p) :=
  foldl_kept _ (fun u _ => handOver_kept (.refl u) _ _ _) _
    (modPort_kept_of_eq (handEnded_kept h _))

theorem formerEnded_kept (h : LinesKept s t) : LinesKept s (t.formerEnded p) :=
  accessEnded_kept (modPort_kept_of_eq h)

theorem goodExchange_kept (h : LinesKept s t) : LinesKept s (t.goodExchange p) := ite_kept (modCounters_kept h _) h

theorem endSlot_kept (h : LinesKept s t) (of : ControlKind → Status) (r : Word) : LinesKept s (t.endSlot p of r) := by
  unfold State.endSlot
  split
  · exact h
  · exact handOver_kept (modPort_kept_of_eq h) _ _ _

theorem linkEnd_kept (h : LinesKept s t) (c : Cause) : LinesKept s (t.linkEnd p c) :=
  have h₁ : ∀ resume, LinesKept s (((t.modPort p fun x => { x with
      resume := resume, cyc := { x.cyc with faultPending := false } }).post p .linkLost (c.code.setWidth 32)).modCounters p
        fun k => { k with misses := 0 }) := fun _ => modCounters_kept (post_kept (modPort_kept_of_eq h) _ _ _) _
  have h₂ := discardSample_kept (p := p) (ite_kept
    (show LinesKept s (State.modPort p (fun x => { x with link := none }) _) from
      modPort_kept_of_eq (setPortState_kept (p := p) (st := .idle) (h₁ _) (by decide) (by decide)))
    (modSeq_kept (setPortState_kept (p := p) (st := .recovery) (h₁ _) (by decide) (by decide)) _))
  have h₃ := stopActive_kept (endSlot_kept (ite_kept h₂ (leave_kept h₂)) _ _) _ _
  ite_kept (handQueue_kept h₃ _) h₃

theorem miss_kept (h : LinesKept s t) (c : Cause) : LinesKept s (t.miss p c) :=
  ite_kept (ite_kept (linkEnd_kept h c) (modCounters_kept h _)) h

theorem attend_kept (h : LinesKept s t) (a : Bool) (d : Word) : LinesKept s (t.attend p a d) :=
  have h₁ := modCounters_kept h _
  ite_kept (post_kept h₁ _ _ _) h₁

/-! ### The Bring-up Sequencer -/

/-- Only a port in service is handed a frame or a pulse. -/
theorem handToLine_kept (h : LinesKept s t) (hp : (t.port p).InService) (x : Handed) : LinesKept s (t.handToLine p x) :=
  modLf_kept h hp _

theorem handIdentify_kept (h : LinesKept s t) (hp : (t.port p).InService) : LinesKept s (t.handIdentify p) :=
  modSeq_kept (handToLine_kept h hp _) _

theorem beginAttempt_kept (h : LinesKept s t) (hp : (t.port p).InService) : LinesKept s (t.beginAttempt p) :=
  handToLine_kept (modSeq_kept h _) ((modSeq_kept (.refl t) _).inService hp) _

theorem idleWithoutLink_kept (h : LinesKept s t) : LinesKept s (t.idleWithoutLink p) :=
  modSeq_kept (modPort_kept_of_inService h (by simp [Port.InService])) _

theorem abortSequence_kept (h : LinesKept s t) : LinesKept s (t.abortSequence p) :=
  handQueue_kept (endSlot_kept (idleWithoutLink_kept h) _ _) _

theorem failSequence_kept (h : LinesKept s t) (n : Nat) : LinesKept s (t.failSequence p n) := by
  unfold State.failSequence
  split
  · exact handQueue_kept (endSlot_kept (idleWithoutLink_kept h) _ _) _
  · exact handQueue_kept (idleWithoutLink_kept
      (modPort_kept_of_eq (leave_kept (post_kept h _ _ _)))) _

theorem linkMade_kept (h : LinesKept s t) (l : Link) {st : PortState} (hd : st ≠ .disabled) (hf : st ≠ .fault) :
    LinesKept s (t.linkMade p l st) :=
  modSeq_kept (modPort_kept_of_inService h ⟨hd, hf⟩) _

theorem succeedSequence_kept (h : LinesKept s t) (d : Descriptor) : LinesKept s (t.succeedSequence p d) := by
  unfold State.succeedSequence
  dsimp only
  have hr : LinesKept s (t.linkMade p { desc := d, speed := (t.port p).seq.rungSpeed } .ready) :=
    linkMade_kept h _ (by decide) (by decide)
  split
  · exact endSlot_kept hr _ _
  · refine ite_kept (modPort_kept_of_eq (post_kept (linkMade_kept h _ (by decide) (by decide)) _ _ _)) (ite_kept (modPort_kept_of_eq (leave_kept (post_kept hr _ _ _)))
        (post_kept hr _ _ _))

theorem identifyOutcome_kept (h : LinesKept s t) (hp : (t.port p).InService) (o : Outcome) :
    LinesKept s (t.identifyOutcome p o) := by
  refine ite_kept h (ite_kept (abortSequence_kept h) ?_)
  split
  · dsimp only
    split
    · exact failSequence_kept h _
    · exact succeedSequence_kept h _
  · exact ite_kept (handIdentify_kept (modSeq_kept h _) ((modSeq_kept (.refl t) _).inService hp))
      (ite_kept (modSeq_kept h _) (failSequence_kept h _))

theorem abortBringUp_kept (h : LinesKept s t) : LinesKept s (t.abortBringUp p) := by
  unfold State.abortBringUp
  dsimp only
  split
  · exact abortSequence_kept h
  · exact ite_kept (abortSequence_kept h) (modSeq_kept h _)
  · exact modSeq_kept h _
  · exact modSeq_kept h _
  · exact h

/-! ### The Cycle Engine -/

theorem beginSample_kept (h : LinesKept s t) : LinesKept s (t.beginSample p) := by
  unfold State.beginSample
  exact modCyc_kept (discardSample_kept h) _

theorem countJudgement_kept (h : LinesKept s t) (j : Option StaleCause) : LinesKept s (t.countJudgement p j) := by
  unfold State.countJudgement
  split
  · exact modCounters_kept h _
  · exact ite_kept (post_kept (modCounters_kept h _) _ _ _) (modCounters_kept h _)

theorem finishStop_kept (h : LinesKept s t) : LinesKept s (t.finishStop p) := by
  have h₁ : LinesKept s ((t.toReady p).modPort p fun x => { x with slot := none }) :=
    modPort_kept_of_eq (toReady_kept h)
  unfold State.finishStop
  dsimp only
  split
  · exact handOver_kept h₁ _ _ _
  · exact h₁

theorem cycleEnds_kept (h : LinesKept s t) : LinesKept s (t.cycleEnds p) := ite_kept (finishStop_kept h) h

theorem runCycle_kept (h : LinesKept s t) (hp : (t.port p).InService) (n : Word) : LinesKept s (t.runCycle p n) := by
  unfold State.runCycle
  dsimp only
  generalize hj : judgeSample (t.port p).cyc.lastGen (t.port p).cyc.sample = j
  have h₁ : LinesKept t ((if j.isNone then (t.countJudgement p j).modCyc p CycleEngine.accept
      else t.countJudgement p j).discardSample p) :=
    discardSample_kept (ite_kept (modCyc_kept (countJudgement_kept (.refl t) j) _) (countJudgement_kept (.refl t) j))
  split
  · exact modCyc_kept (handToLine_kept (h.trans h₁) (h₁.inService hp) _) _
  · exact cycleEnds_kept (h.trans h₁)

theorem slip_kept (h : LinesKept s t) : LinesKept s (t.slip p) :=
  cycleEnds_kept (post_kept (modCounters_kept (discardSample_kept h) _) _ _ _)

theorem cycleAtStart_kept (h : LinesKept s t) (hp : (t.port p).InService) (n : Word) : LinesKept s (t.cycleAtStart p n) :=
  ite_kept (runCycle_kept h hp n) (ite_kept (modCyc_kept h _) (slip_kept h))

theorem imageFaultReady_kept (h : LinesKept s t) : LinesKept s (t.imageFaultReady p) :=
  endSlot_kept (toReady_kept (modCyc_kept h _)) _ _

theorem imageFault_kept (h : LinesKept s t) (a : Word) : LinesKept s (t.imageFault p a) := by
  have h₁ : LinesKept s ((t.post p .imageFault a).emptyImageList p) :=
    unwantSample_kept (modCyc_kept (post_kept h _ _ _) _) _
  unfold State.imageFault
  dsimp only
  split
  · exact imageFaultReady_kept h₁
  · exact ite_kept (imageFaultReady_kept h₁) (modCyc_kept h₁ _)
  · exact modPort_kept_of_eq (leave_kept h₁)
  all_goals exact h₁

theorem afterCycle_kept (h : LinesKept s t) : LinesKept s (t.afterCycle p) :=
  ite_kept (imageFaultReady_kept h) (cycleEnds_kept h)

theorem cycleOutcome_kept (h : LinesKept s t) (f : Frame) (o : Outcome) : LinesKept s (t.cycleOutcome p f o) := by
  have h₁ : LinesKept s (t.modCyc p fun c => { c with underWay := none }) := modCyc_kept h _
  unfold State.cycleOutcome
  dsimp only
  split
  · have h₂ := attend_kept (p := p) h₁
    exact afterCycle_kept (goodExchange_kept (ite_kept (modCyc_kept (h₂ _ _) _) (h₂ _ _)))
  · exact ite_kept (miss_kept h₁ _) (afterCycle_kept (miss_kept h₁ _))

/-! ### The Transfer Engine -/

theorem claimFetch_kept (h : LinesKept s t) (x : Transfer) : LinesKept s (t.claimFetch p x) :=
  modPort_kept_of_eq h

theorem activate_kept (h : LinesKept s t) (x : Transfer) : LinesKept s (t.activate p x) := by
  have h₁ : LinesKept s ((t.modTe p fun te => { TransferEngine.reset with
      lastToggle := te.lastToggle, phase := .sendWait, transfer := some x }).setOrtState x.ort .active) :=
    setOrtState_kept (modTe_kept h _) _ _
  exact ite_kept (endActive_kept h₁ _ _) (ite_kept (claimFetch_kept h₁ _) (modTe_kept h₁ _))

theorem abandonNow_kept (h : LinesKept s t) : LinesKept s (t.abandonNow p) :=
  modPort_kept_of_eq h

theorem abandonFor_kept (h : LinesKept s t) (c : AbandonCause) : LinesKept s (t.abandonFor p c) :=
  ite_kept (abandonNow_kept (modTe_kept h _)) (endAbandoned_kept (modTe_kept h _))

theorem sendSegment_kept (h : LinesKept s t) (hp : (t.port p).InService) (g : Segment) :
    LinesKept s (t.sendSegment p g) := by
  unfold State.sendSegment
  exact modTe_kept (handToLine_kept h hp _) _

theorem busyReply_kept (h : LinesKept s t) (f : TransferEngine → TransferEngine) : LinesKept s (t.busyReply p f) :=
  ite_kept (endActive_kept (modTe_kept h _) _ _) (modTe_kept (modTe_kept h _) _)

theorem writeAccepted_kept (h : LinesKept s t) (x : Transfer) (g : Segment) : LinesKept s (t.writeAccepted p x g) :=
  ite_kept (endActive_kept (modTe_kept h _) _ _) (claimFetch_kept (modTe_kept h _) _)

theorem readAccepted_kept (h : LinesKept s t) (x : Transfer) (l : List Byte) (b : Bool) :
    LinesKept s (t.readAccepted p x l b) :=
  have h₁ := modTe_kept h _
  ite_kept (abandonFor_kept h₁ _) (ite_kept (ite_kept (endActive_kept h₁ _ _) (busyReply_kept h₁ _))
    (modPort_kept_of_eq h₁))

theorem segmentReply_kept (h : LinesKept s t) (x : Transfer) (g : Segment) (l : List Byte) :
    LinesKept s (t.segmentReply p x g l) := by
  unfold State.segmentReply
  dsimp only
  split
  · exact endActive_kept h _ _
  · exact busyReply_kept h _
  · exact ite_kept (writeAccepted_kept h _ _) (readAccepted_kept h _ _ _)

theorem segmentReplyAbandoned_kept (h : LinesKept s t) (g : Segment) (l : List Byte) :
    LinesKept s (t.segmentReplyAbandoned p g l) := ite_kept (endAbandoned_kept h) (abandonNow_kept h)

theorem segmentFailed_kept (h : LinesKept s t) : LinesKept s (t.segmentFailed p) :=
  ite_kept (abandonNow_kept h) (ite_kept (modTe_kept (modTe_kept h _) _) (abandonFor_kept (modTe_kept h _) _))

theorem segmentOutcome_kept (h : LinesKept s t) (o : Outcome) : LinesKept s (t.segmentOutcome p o) := by
  unfold State.segmentOutcome
  split
  · split
    · have h₁ := attend_kept (p := p) (goodExchange_kept (p := p) h)
      exact ite_kept (segmentReplyAbandoned_kept (h₁ _ _) _ _) (segmentReply_kept (h₁ _ _) _ _ _)
    · exact ite_kept (miss_kept h _) (segmentFailed_kept (miss_kept h _))
  · exact h

theorem abandonOutcome_kept (h : LinesKept s t) (o : Outcome) : LinesKept s (t.abandonOutcome p o) := by
  unfold State.abandonOutcome
  split
  · exact endAbandoned_kept (goodExchange_kept h)
  · exact ite_kept (miss_kept h _) (endAbandoned_kept (miss_kept h _))

theorem transferOutcome_kept (h : LinesKept s t) (f : Frame) (o : Outcome) : LinesKept s (t.transferOutcome p f o) := by
  unfold State.transferOutcome
  split
  · exact segmentOutcome_kept h o
  · exact abandonOutcome_kept h o
  · exact handEnded_kept h _
  · exact h

theorem fetchEnded_kept (h : LinesKept s t) (d : Option ReadData) : LinesKept s (t.fetchEnded p d) := by
  unfold State.fetchEnded
  dsimp only
  split
  · exact h
  · refine ite_kept (ite_kept (abandonNow_kept h) (endAbandoned_kept h)) ?_
    split
    · exact abandonFor_kept h _
    · exact modTe_kept h _

theorem storeEnded_kept (h : LinesKept s t) (ok : Bool) : LinesKept s (t.storeEnded p ok) := by
  unfold State.storeEnded
  dsimp only
  split
  · exact ite_kept (abandonNow_kept h) (ite_kept (abandonFor_kept h _)
      (ite_kept (endActive_kept (modTe_kept h _) _ _) (modTe_kept (modTe_kept h _) _)))
  · exact h

theorem abortActive_kept (h : LinesKept s t) : LinesKept s (t.abortActive p) :=
  have h₁ := modTe_kept h _
  ite_kept h (ite_kept h₁ (ite_kept (abandonNow_kept h₁) (endAbandoned_kept h₁)))

theorem abortTransfer_kept (h : LinesKept s t) (id : Nat) : LinesKept s (t.abortTransfer p id) :=
  ite_kept (abortActive_kept h)
    (ite_kept (handOver_kept (modPort_kept_of_eq h) _ _ _) h)

/-! ### The Line Framer of a port in service -/

theorem deliver_kept (h : LinesKept s t) (hp : (t.port p).InService) (f : Frame) (o : Outcome) :
    LinesKept s (t.deliver p f o) := by
  have h₁ : ∀ v, LinesKept v t → LinesKept v (match o with
      | .failed c => t.countFailure p c
      | .ok _ => t) := by
    intro v hv
    split
    · exact modCounters_kept hv _
    · exact hv
  unfold State.deliver
  dsimp only
  split
  · exact identifyOutcome_kept (h₁ s h) ((h₁ t (.refl t)).inService hp) o
  · exact cycleOutcome_kept (h₁ s h) f o
  · exact transferOutcome_kept (h₁ s h) f o

theorem endExchange_kept (h : LinesKept s t) (hp : (t.port p).InService) (f : Frame) (o : Outcome) (n : Nat) :
    LinesKept s (t.endExchange p f o n) :=
  deliver_kept (modLf_kept h hp _) ((modLf_kept (.refl t) hp _).inService hp) f o

/-- The steps of the line act on a port in service, and leave it so. -/
theorem modPort_kept_of_state (h : LinesKept s t) (hp : (t.port p).InService) {f : Port → Port}
    (hf : ∀ x, (f x).state = x.state := by intro; rfl) : LinesKept s (t.modPort p f) :=
  modPort_kept_of_inService h (by simpa only [Port.InService, hf] using hp)

theorem collide_kept (h : LinesKept s t) (hp : (t.port p).InService) (e : Exchange) (bit : Nat) :
    LinesKept s (t.collide p e bit) :=
  endExchange_kept (modPort_kept_of_state h hp)
    ((modPort_kept_of_state (.refl t) hp).inService hp) _ _ _

theorem startOnLine_kept (h : LinesKept s t) (hp : (t.port p).InService) : LinesKept s (t.startOnLine p) := by
  have h₁ : ∀ f : Framer → Framer, LinesKept s ((t.assertTxen p).modLf p f) := fun f =>
    modLf_kept (modPort_kept_of_state h hp) ((modPort_kept_of_state (.refl t) hp).inService hp) f
  unfold State.startOnLine
  split
  · exact h
  · exact ite_kept (modCounters_kept (h₁ _) _) (h₁ _)
  · exact h₁ _

theorem guardOver_kept (h : LinesKept s t) (hp : (t.port p).InService) : LinesKept s (t.guardOver p) := by
  have h₁ : ∀ v, LinesKept v t → LinesKept v (t.modLf p fun x => { x with
      state := if x.held.isSome then .waiting else .free, waitSince := t.time, timer := none, flight := none }) :=
    fun v hv => modLf_kept hv hp _
  unfold State.guardOver
  dsimp only
  refine ite_kept (h₁ s h) ?_
  split
  · have h₂ := fun n => runCycle_kept (modCyc_kept (p := p) (h₁ s h) fun c => { c with startWait := none })
      ((modCyc_kept (h₁ t (.refl t)) _).inService hp) n
    exact ite_kept (abortSequence_kept (h₂ _)) (h₂ _)
  · exact ite_kept (abortSequence_kept (h₁ s h)) (h₁ s h)

theorem pulseOver_kept (h : LinesKept s t) (hp : (t.port p).InService) : LinesKept s (t.pulseOver p) :=
  have h₁ := modLf_kept h hp _
  ite_kept (ite_kept (abortSequence_kept h₁) (handIdentify_kept h₁ ((modLf_kept (.refl t) hp _).inService hp))) h₁

theorem frameSent_kept (h : LinesKept s t) (hp : (t.port p).InService) : LinesKept s (t.frameSent p) := by
  unfold State.frameSent
  split
  · exact h
  · exact modPort_kept_of_state (modPort_kept_of_state h hp)
      ((modPort_kept_of_state (.refl t) hp).inService hp)

theorem lineIs_kept (h : LinesKept s t) (hp : (t.port p).InService) (told b : Bool) (n : Nat) :
    LinesKept s (t.lineIs p told b n) := ite_kept h (modPort_kept_of_state h hp)

theorem beginReply_kept (h : LinesKept s t) (hp : (t.port p).InService) (told : Bool) (n : Nat) :
    LinesKept s (t.beginReply p told n) :=
  modLf_kept (lineIs_kept h hp _ _ _) ((lineIs_kept (.refl t) hp _ _ _).inService hp) _

theorem received_kept (h : LinesKept s t) (hp : (t.port p).InService) (tb : Nat) (told : Bool) (c next : Option Nat)
    (rx : Rx) : LinesKept s (t.received p tb told c next rx) := by
  unfold State.received
  split
  · exact modLf_kept (lineIs_kept h hp _ _ _) ((lineIs_kept (.refl t) hp _ _ _).inService hp) _
  · exact modPort_kept_of_state (lineIs_kept h hp _ _ _) ((lineIs_kept (.refl t) hp _ _ _).inService hp)

theorem replyEnds_kept (h : LinesKept s t) (hp : (t.port p).InService) (f : Frame) (o : Outcome) (n : Nat) (b : Bool)
    (m : Nat) : LinesKept s (t.replyEnds p f o n b m) :=
  endExchange_kept (lineIs_kept h hp _ _ _) ((lineIs_kept (.refl t) hp _ _ _).inService hp) _ _ _

theorem pulseSent_kept (h : LinesKept s t) (hp : (t.port p).InService) : LinesKept s (t.pulseSent p) :=
  modLf_kept (modPort_kept_of_state h hp) ((modPort_kept_of_state (.refl t) hp).inService hp) _

/-! ### Entry to FAULT and PORT_DISABLE: the line is cut -/

theorem enterFault_lineSafe (hs : s.LineSafe) (p : PortId) (c : FaultCause) : (s.enterFault p c).LineSafe := by
  unfold State.enterFault
  split
  · exact hs
  · refine hs.of_cut (p := p) (modPort_at (stopSequence_at (endRequests_at (leave_at (post_at (At.refl p s) _ _ _)) _)) _) ?_
    exact congrArg Port.lf (State.port_modPort_self _ p _)

theorem disablePort_lineSafe (hs : s.LineSafe) (r : ReqRecord) (id : Nat) : (s.disablePort r id).LineSafe := by
  refine hs.of_cut (disablePort_at r id s) ?_
  unfold State.disablePort
  dsimp only
  have hd : ∀ v : State, ((v.modPort (targetPort r) Port.disabled).port (targetPort r)).lf = Framer.reset := fun v =>
    congrArg Port.lf (State.port_modPort_self v _ _)
  split
  · rw [handOver_port]
    exact hd _
  · rw [State.port_setOrtState, State.port_modPort_self]
    exact hd _

/-! ### Requests at their targets -/

theorem configurePort_kept (r : ReqRecord) (id : Nat) (s : State) : LinesKept s (s.configurePort r id) :=
  ite_kept (handOver_kept (modPort_kept_of_eq (.refl s)) _ _ _) (handOver_kept (.refl s) _ _ _)

theorem enablePort_kept (r : ReqRecord) (id : Nat) (s : State) : LinesKept s (s.enablePort r id) := by
  unfold State.enablePort
  dsimp only
  split
  · exact handOver_kept (modPort_kept_of_inService (.refl s) (by simp [Port.InService])) _ _ _
  all_goals exact handOver_kept (.refl s) _ _ _

theorem bringUpPort_kept (r : ReqRecord) (id : Nat) (s : State) : LinesKept s (s.bringUpPort r id) := by
  have h₁ : LinesKept s ((s.modPort (targetPort r) fun x => { x with
      slot := some (.bringUp, id), state := .bringup,
      counters := { x.counters with misses := 0 } }).setOrtState id .active) :=
    setOrtState_kept (modPort_kept_of_inService (.refl s) (by simp [Port.InService])) _ _
  exact ite_kept (ite_kept (handOver_kept (.refl s) _ _ _) (modSeq_kept (ite_kept (stopActive_kept h₁ _ _) h₁) _))
    (handOver_kept (.refl s) _ _ _)

theorem arm_kept (h : LinesKept s t) (id : Nat) (k : Sched) : LinesKept s (t.arm p id k) :=
  setOrtState_kept (modPort_kept_of_inService h (by simp [Port.InService])) _ _

theorem startCycling_kept (r : ReqRecord) (id : Nat) (s : State) : LinesKept s (s.startCycling r id) := by
  have h := LinesKept.refl s
  unfold State.startCycling
  dsimp only
  split
  · refine ite_kept (handOver_kept h _ _ _) ?_
    split
    · split
      · exact handOver_kept (modGroup_kept (modGroup_kept h _ _) _ _) _ _ _
      · exact arm_kept (modGroup_kept (modGroup_kept h _ _) _ _) _ _
    · split
      · exact handOver_kept h _ _ _
      · exact arm_kept h _ _
  · exact handOver_kept h _ _ _

theorem stopCycling_kept (r : ReqRecord) (id : Nat) (s : State) : LinesKept s (s.stopCycling r id) := by
  have h := LinesKept.refl s
  unfold State.stopCycling
  dsimp only
  split
  · exact handOver_kept h _ _ _
  · exact handOver_kept (modPort_kept_of_eq (leave_kept h)) _ _ _
  · exact handOver_kept (endSlot_kept (toReady_kept h) _ _) _ _ _
  · exact ite_kept (handOver_kept h _ _ _)
      (ite_kept (setOrtState_kept (modPort_kept_of_eq h) _ _) (handOver_kept (toReady_kept h) _ _ _))
  all_goals exact handOver_kept h _ _ _

theorem queueTransfer_kept (w : Bool) (r : ReqRecord) (id : Nat) (s : State) : LinesKept s (s.queueTransfer w r id) :=
  ite_kept (handOver_kept (.refl s) _ _ _)
    (ite_kept (handOver_kept (.refl s) _ _ _) (setOrtState_kept (modPort_kept_of_eq (.refl s)) _ _))

theorem queryPort_kept (r : ReqRecord) (id : Nat) (s : State) : LinesKept s (s.queryPort r id) :=
  setOrtState_kept (modPort_kept_of_eq (.refl s)) _ _

theorem configureGroup_kept (r : ReqRecord) (id : Nat) (s : State) : LinesKept s (s.configureGroup r id) :=
  ite_kept (handOver_kept (modGroup_kept (.refl s) _ _) _ _ _) (handOver_kept (.refl s) _ _ _)

theorem abortEntry_kept (e : OrtEntry) (s : State) : LinesKept s (s.abortEntry e) :=
  have h := LinesKept.refl s
  ite_kept h (ite_kept (abortTransfer_kept h _) (ite_kept (abortBringUp_kept h)
    (ite_kept (endSlot_kept (toReady_kept h) _ _) h)))

theorem abortArrives_kept (a id : Nat) (s : State) : LinesKept s (s.abortArrives a id) := by
  unfold State.abortArrives
  split
  · exact ite_kept (abortEntry_kept _ s) (.refl s)
  · exact .refl s

theorem setNext_kept (h : LinesKept s t) (n : Option Word) : LinesKept s (t.setNext p n) :=
  modPort_kept_of_eq h

theorem refire_kept (g : GroupId) (m : Member) (s : State) : LinesKept s (s.refire g m) := by
  have h := LinesKept.refl s
  unfold State.refire
  dsimp only
  split
  · rename_i n _ k _ _
    have h₁ : LinesKept s (s.setNext m.port (some n)) := setNext_kept h _
    refine ite_kept (post_kept (modCounters_kept ?_ _) _ _ _) ?_ <;>
      exact ite_kept h (ite_kept (cycleEnds_kept (discardSample_kept h₁)) h₁)
  · exact h

theorem fire_kept (g : GroupId) (s : State) : LinesKept s (s.fire g) := by
  unfold State.fire
  refine foldl_kept _ (fun u m => ?_) _ (modGroup_kept (.refl s) _ _)
  split
  · exact refire_kept g m u
  · exact ite_kept (setNext_kept (.refl u) _) (.refl u)

theorem syncFireGroups_kept (r : ReqRecord) (id : Nat) (s : State) : LinesKept s (s.syncFireGroups r id) :=
  ite_kept (handOver_kept (.refl s) _ _ _) (handOver_kept (foldl_kept _ (fun u g => fire_kept g u) _ (.refl s)) _ _ _)

/-- An operation that a safe state survives. -/
def KeepsLineSafe (act : State → State) : Prop := ∀ u : State, u.LineSafe → (act u).LineSafe

theorem KeepsLineSafe.of_kept {act : State → State} (h : ∀ u, LinesKept u (act u)) : KeepsLineSafe act :=
  fun u hu => (h u).lineSafe hu

theorem atPort_keepsLineSafe {act : State → State} (h : KeepsLineSafe act) (p : PortId) (late : Bool) (a : Arrival) :
    KeepsLineSafe (State.atPort p late a act) := by
  intro u hu
  unfold State.atPort
  split
  · exact LinesKept.lineSafe (modPort_kept_of_eq (.refl u)) hu
  · exact h u hu

theorem atUnit_keepsLineSafe {act : State → State} (h : KeepsLineSafe act) (late : Bool) (a : Arrival) :
    KeepsLineSafe (State.atUnit late a act) := by
  intro u hu
  unfold State.atUnit
  split
  · exact hu.congr rfl
  · exact h u hu

theorem runAbort_keepsLineSafe (r : ReqRecord) (late : Bool) (id : Nat) : KeepsLineSafe (State.runAbort r late id) := by
  have hf : ∀ (l : List OrtEntry) (u : State), u.LineSafe →
      (l.foldl (fun s e => s.atPort e.targetPort late (.abort id e.id) (State.abortArrives id e.id)) u).LineSafe := by
    intro l
    induction l with
    | nil => exact fun u hu => hu
    | cons e l ih => exact fun u hu => ih _ (atPort_keepsLineSafe (.of_kept (abortArrives_kept id e.id)) _ _ _ u hu)
  intro u hu
  unfold State.runAbort
  dsimp only
  split
  · exact (handOver_kept (.refl u) _ _ _).lineSafe hu
  · exact hf _ _ (hu.congr rfl)

theorem requestArrives_keepsLineSafe (k : Byte) (r : ReqRecord) (id : Nat) : KeepsLineSafe (State.requestArrives k r id) :=
  fun u hu =>
    ite_lineSafe ((configurePort_kept r id u).lineSafe hu) <|
    ite_lineSafe ((enablePort_kept r id u).lineSafe hu) <|
    ite_lineSafe (disablePort_lineSafe hu r id) <|
    ite_lineSafe ((bringUpPort_kept r id u).lineSafe hu) <|
    ite_lineSafe ((startCycling_kept r id u).lineSafe hu) <|
    ite_lineSafe ((stopCycling_kept r id u).lineSafe hu) <|
    ite_lineSafe ((configureGroup_kept r id u).lineSafe hu) <|
    ite_lineSafe ((syncFireGroups_kept r id u).lineSafe hu) <|
    ite_lineSafe ((queueTransfer_kept false r id u).lineSafe hu) <|
    ite_lineSafe ((queueTransfer_kept true r id u).lineSafe hu) <|
    ite_lineSafe ((queryPort_kept r id u).lineSafe hu) hu

theorem arrives_keepsLineSafe (a : Arrival) : KeepsLineSafe (State.arrives a) := by
  cases a with
  | request id k r => exact requestArrives_keepsLineSafe k r id
  | abort a id => exact .of_kept (abortArrives_kept a id)

theorem portArrival_keepsLineSafe (p : PortId) : KeepsLineSafe (State.portArrival p) := by
  intro u hu
  unfold State.portArrival
  split
  · exact arrives_keepsLineSafe _ _ (LinesKept.lineSafe (modPort_kept_of_eq (.refl u)) hu)
  · exact hu

theorem unitArrival_keepsLineSafe : KeepsLineSafe State.unitArrival := by
  intro u hu
  unfold State.unitArrival
  split
  · exact arrives_keepsLineSafe _ _ (hu.congr rfl)
  · exact hu

/-! ### The commands -/

/-- What a command answers from `s` is a safe state. -/
def AnswersLineSafe (r : Result) : Prop := ∀ t, r = .next t → t.LineSafe

theorem AnswersLineSafe.next (h : t.LineSafe) : AnswersLineSafe (.next t) := by
  rintro _ ⟨⟩; exact h

theorem onlyIf_lineSafe (hs : s.LineSafe) {c : Bool} {act : State → State} (h : c = true → (act s).LineSafe) :
    AnswersLineSafe (onlyIf c act s) := by
  refine .next ?_
  split
  · exact h ‹_›
  · exact hs

theorem onlyIf_lineSafe_of_ports (hs : s.LineSafe) {c : Bool} {act : State → State} (h : (act s).ports = s.ports) :
    AnswersLineSafe (onlyIf c act s) := onlyIf_lineSafe hs fun _ => hs.congr h

theorem exactlyAt_lineSafe (hs : s.LineSafe) {n : Nat} {act : State → State}
    (h : ∀ v : State, v.ports = s.ports → (act v).LineSafe) : AnswersLineSafe (exactlyAt n act s) := by
  unfold exactlyAt
  split
  · rename_i v hv
    exact .next (h v (by rw [(reach_eq hv).1]))
  · exact .next hs

theorem atInstant_lineSafe (hs : s.LineSafe) {due : Option Nat} {act : State → State}
    (h : due.isSome = true → ∀ v : State, v.ports = s.ports → (act v).LineSafe) : AnswersLineSafe (atInstant due act s) := by
  unfold atInstant
  split
  · exact exactlyAt_lineSafe hs (h rfl)
  · exact .next hs

/-- A step of the part whose act leaves the lines as `LinesKept` says, of any port. -/
theorem atInstant_lineSafe_of_kept (hs : s.LineSafe) {due : Option Nat} {act : State → State}
    (h : ∀ v : State, LinesKept v (act v)) : AnswersLineSafe (atInstant due act s) :=
  atInstant_lineSafe hs fun _ v hv => (h v).lineSafe (hs.congr hv)

/-- A step of a line that is not OFF. -/
theorem atInstant_lineSafe_of_line (hs : s.LineSafe) {due : Option Nat} {act : State → State}
    (hd : due.isSome = true → (s.port p).lf.state ≠ .off)
    (h : ∀ v : State, (v.port p).InService → LinesKept v (act v)) : AnswersLineSafe (atInstant due act s) :=
  atInstant_lineSafe hs fun hsome v hv =>
    (h v (by rw [State.port_congr hv p]; exact hs.inService (hd hsome))).lineSafe (hs.congr hv)

theorem take_lineSafe (hs : s.LineSafe) {k : Byte} {r : ReqRecord} {c : Option Status} {act : Nat → State → State}
    (h : ∀ id, KeepsLineSafe (act id)) : AnswersLineSafe (.next (s.take k r c act)) := by
  have ha : s.endFlight.advanceHead.LineSafe := hs.congr (by unfold State.advanceHead; split <;> rfl)
  refine .next ?_
  unfold State.take
  dsimp only
  split
  · split
    · split
      · exact hs.congr rfl
      · split
        · exact (handOver_kept (.refl _) _ _ _).lineSafe (ha.congr rfl)
        · exact h _ _ (ha.congr rfl)
    · refine hs.congr ?_
      unfold State.dropFetch State.freeEntry
      split <;> rfl
  · exact hs

theorem take_toPort_lineSafe (hs : s.LineSafe) {k : Byte} {q : Routed} {c : Option Status} {act : Nat → State → State}
    (h : ∀ id, KeepsLineSafe (act id)) : AnswersLineSafe (.next (s.take k q.record c (State.toPort k q act))) :=
  take_lineSafe hs fun id => atPort_keepsLineSafe (h id) _ _ _

theorem take_toUnit_lineSafe (hs : s.LineSafe) {k : Byte} {q : Routed} {c : Option Status} {act : Nat → State → State}
    (h : ∀ id, KeepsLineSafe (act id)) : AnswersLineSafe (.next (s.take k q.record c (State.toUnit k q act))) :=
  take_lineSafe hs fun id => atUnit_keepsLineSafe (h id) _ _

/-! ### Registers, halts and resets: ports are kept, or reset -/

theorem dropFetch_ports (s : State) : s.dropFetch.ports = s.ports := by
  unfold State.dropFetch State.freeEntry
  split <;> rfl

theorem withdrawFetch_ports (s : State) : s.withdrawFetch.ports = s.ports := by
  unfold State.withdrawFetch
  split
  · exact dropFetch_ports _
  · rfl

theorem halt_ports (s : State) (c : HaltCause) : (s.halt c).ports = s.ports :=
  withdrawFetch_ports { s with part := .halted, haltCause := some c }

theorem writeReqTail_ports (s : State) (v : Word) : (s.writeReqTail v).ports = s.ports := by
  unfold State.writeReqTail
  dsimp only
  split
  · split
    · exact halt_ports _ _
    · rfl
  · rfl

theorem returnSlots_ports (s : State) (n : Nat) (v : Word) : (s.returnSlots n v).ports = s.ports := by
  unfold State.returnSlots
  split
  · exact halt_ports _ _
  · split
    · exact halt_ports _ _
    · rfl

theorem writeCplHead_ports (s : State) (v : Word) : (s.writeCplHead v).ports = s.ports := by
  unfold State.writeCplHead
  dsimp only
  split
  · exact returnSlots_ports _ _ _
  · rfl

theorem enterStarting_ports (s : State) : s.enterStarting.ports = s.ports := by
  unfold State.enterStarting
  split
  · exact halt_ports _ _
  · rfl

theorem writeEnable_ports (s : State) (v : Bool) : (s.writeEnable v).ports = s.ports := by
  unfold State.writeEnable
  dsimp only
  split
  · rfl
  · split
    · split
      · exact enterStarting_ports _
      all_goals rfl
    · split
      · exact withdrawFetch_ports _
      all_goals rfl

/-- Every port of a part whose blocks were reset is at its reset value. -/
theorem cleared_lineSafe (s : State) (a : Word) : (s.cleared a).LineSafe := by
  intro q _
  simp [State.cleared, State.port, Port.resetWith]

theorem softReset_lineSafe (s : State) : s.softReset.LineSafe := by
  unfold State.softReset
  dsimp only
  split
  · exact (cleared_lineSafe s s.setupAddr).congr rfl
  · exact cleared_lineSafe s s.setupAddr

theorem writeCtrl_lineSafe (hs : s.LineSafe) (v : Word) : (s.writeCtrl v).LineSafe := by
  unfold State.writeCtrl
  split
  · exact softReset_lineSafe s
  · exact hs.congr (writeEnable_ports s _)

theorem writeRegister_lineSafe (hs : s.LineSafe) (o : Nat) (w : AccessWidth) (v : Word) :
    (s.writeRegister o w v).LineSafe :=
  ite_lineSafe hs <| ite_lineSafe (writeCtrl_lineSafe hs v) <| ite_lineSafe (hs.congr rfl) <|
    ite_lineSafe (hs.congr (writeReqTail_ports s v)) <| ite_lineSafe (hs.congr (writeCplHead_ports s v)) hs

theorem setupRead_ports (s : State) (d : Option ReadData) : (s.setupRead d).ports = s.ports := by
  unfold State.setupRead
  split
  · exact halt_ports _ _
  · split
    · exact halt_ports _ _
    · split
      · exact halt_ports _ _
      · split
        · exact halt_ports _ _
        · rfl

theorem grant_kept (s : State) : LinesKept s s.grant := by
  have h := LinesKept.refl s
  unfold State.grant
  split
  · unfold State.grantImage
    split
    · exact h
    · exact modBus_kept (modCyc_kept h _) _
  · unfold State.grantTransfer
    split
    · exact h
    · exact modBus_kept (modPort_kept_of_eq h) _
  · unfold State.grantRecord
    dsimp only
    split <;> exact h.of_ports rfl
  all_goals exact h.of_ports rfl

theorem recordWritten_ports (s : State) (u : Setup) (o : Option Nat) : (s.recordWritten u o).ports = s.ports := by
  unfold State.recordWritten State.freeEntry
  dsimp only
  cases o with
  | none => rfl
  | some id =>
    dsimp only
    split <;> rfl

theorem takeBeat_ports (s : State) (g : GroupId) : (s.takeBeat g).ports = s.ports := by
  unfold State.takeBeat
  split
  · rfl
  · dsimp only
    split <;> split <;> rfl

/-! ### Steps of a port -/

theorem sampleNow_kept (p : PortId) (s : State) : LinesKept s (s.sampleNow p) := by
  have h : LinesKept s (s.modPort p fun x => { x with sched := x.sched.map fun k => { k with delivered := true } }) :=
    modPort_kept_of_eq (.refl s)
  exact ite_kept (beginSample_kept h) h

theorem actOnStart_kept (p : PortId) (n : Word) (s : State) : LinesKept s (s.actOnStart p n) := by
  unfold State.actOnStart
  dsimp only
  split
  · exact cycleAtStart_kept (endSlot_kept (setPortState_kept (.refl s) (by decide) (by decide)) _ _)
      ((endSlot_kept (.refl (s.setPortState p .cyclic)) _ _).inService (by simp [Port.InService])) _
  · rename_i hc
    exact ite_kept (.refl s) (cycleAtStart_kept (.refl s) (by simp [Port.InService, hc]) _)
  all_goals exact .refl s

theorem startNow_kept (p : PortId) (s : State) : LinesKept s (s.startNow p) := by
  unfold State.startNow
  split
  · exact (setNext_kept (.refl s) _).trans (actOnStart_kept p _ _)
  · exact .refl s

theorem handOverTest_inService {m : Nat} (h : s.handOverTest p m = .goes) : (s.port p).InService := by
  by_contra hn
  have hstate : (s.port p).state = .disabled ∨ (s.port p).state = .fault := by
    simpa only [Port.InService, not_and_or, not_not] using hn
  rcases hstate with hst | hst <;> simp [State.handOverTest, Port.underSchedule, hst] at h

theorem handSegment_kept (p : PortId) (s : State) : LinesKept s (s.handSegment p) := by
  unfold State.handSegment
  split
  · exact .refl s
  · split
    · exact sendSegment_kept (.refl s) (handOverTest_inService ‹_›) _
    · exact endActive_kept (.refl s) _ _
    · exact .refl s

theorem handAbandon_kept (p : PortId) (s : State) : LinesKept s (s.handAbandon p) := by
  unfold State.handAbandon
  split
  · exact modTe_kept (handToLine_kept (.refl s) (handOverTest_inService ‹_›) _) _
  · exact endAbandoned_kept (.refl s)
  · exact .refl s

theorem activateHead_kept (p : PortId) (s : State) : LinesKept s (s.activateHead p) := by
  unfold State.activateHead
  split
  · exact activate_kept (.refl s) _
  · exact .refl s

theorem reportEnded_kept (h : LinesKept s t) (id : Nat) (ok : Bool) : LinesKept s (t.reportEnded p id ok) := by
  have h₁ : LinesKept s (t.modPort p fun x => { x with queries := x.queries.filter fun q => q.ort ≠ id }) :=
    modPort_kept_of_eq h
  unfold State.reportEnded
  split
  · exact h
  · exact accessEnded_kept (ite_kept (handOver_kept h₁ _ _ _) (handOver_kept h₁ _ _ _))

theorem lineLevel_kept (p : PortId) (b : Bool) (s : State) (hs : s.LineSafe) : LinesKept s (s.lineLevel p b) := by
  refine modPort_kept (.refl s) ?_
  by_cases h : (s.port p).InService
  · exact .inl h
  · exact .inr ⟨h, by simp [lineSafe_iff.mp hs p h, Framer.reset]⟩

/-! ### Steps of the line that RXD tells -/

theorem replyAt_lineSafe (hs : s.LineSafe) (hp : (s.port p).InService) {n : Nat} {act : State → State}
    (h : ∀ v : State, (v.port p).InService → LinesKept v (act v)) : AnswersLineSafe (s.replyAt p n act) := by
  have hk : LinesKept s (s.modLf p fun f => { f with timer := none, rx := none, candidate := none }) :=
    modLf_kept (.refl s) hp _
  unfold State.replyAt
  split
  · rename_i v hv
    have hv' : LinesKept s v := hk.of_ports (by rw [(reach_eq hv).1])
    exact .next ((h v (hv'.inService hp)).lineSafe (hv'.lineSafe hs))
  · exact .next hs

theorem expire_lineSafe (hs : s.LineSafe) (c : Cause) {due : Option Nat} (n : Nat)
    (hd : due.isSome = true → (s.port p).lf.state ≠ .off) : AnswersLineSafe (s.expire p c due n) := by
  unfold State.expire
  split
  · rename_i e k _ hdue
    split
    · exact exactlyAt_lineSafe hs fun v hv => (endExchange_kept (.refl v)
        (by rw [State.port_congr hv p]; exact hs.inService (hd rfl)) _ _ _).lineSafe (hs.congr hv)
    · exact .next hs
  · exact .next hs

theorem replyEffect_kept {f : Frame} {rx : Rx} {chars : List RxChar} {next : Option Nat} {n : Nat} {act : State → State}
    (h : s.replyEffect p f rx chars next = some (n, act)) (v : State) (hv : (v.port p).InService) : LinesKept v (act v) := by
  unfold State.replyEffect at h
  dsimp only at h
  split at h
  · cases h
  · split at h
    · split at h
      · cases h
      · cases h; exact received_kept (.refl v) hv _ _ _ _ _
    · cases h; exact replyEnds_kept (.refl v) hv _ _ _ _ _
    · cases h

/-! ### Every command -/

theorem execCollision_lineSafe (hs : s.LineSafe) (p : PortId) (bit : Nat) : AnswersLineSafe (execCollision p bit s) := by
  unfold execCollision
  split
  · rename_i hst _
    split
    · refine exactlyAt_lineSafe hs fun v hv => (collide_kept (.refl v) ?_ _ _).lineSafe (hs.congr hv)
      rw [State.port_congr hv p]; exact hs.inService (by simp [hst])
    · exact .next hs
  · exact .next hs

theorem execReplyStartEdge_lineSafe (hs : s.LineSafe) (p : PortId) (n : Nat) :
    AnswersLineSafe (execReplyStartEdge p n s) := by
  unfold execReplyStartEdge
  dsimp only
  split
  · rename_i hst _
    split
    · exact replyAt_lineSafe hs (hs.inService (by simp [hst])) fun v hv => beginReply_kept (.refl v) hv _ _
    · exact .next hs
  · exact .next hs

theorem execStationReply_lineSafe (hs : s.LineSafe) (p : PortId) (chars : List RxChar) (next : Option Nat) :
    AnswersLineSafe (execStationReply p chars next s) := by
  unfold execStationReply
  split
  · rename_i hst _ _
    split
    · exact replyAt_lineSafe hs (hs.inService (by simp [hst])) (replyEffect_kept ‹_›)
    · exact .next hs
  · exact .next hs

theorem execSamplingReadEnd_lineSafe (hs : s.LineSafe) (d : Option ReadData) : AnswersLineSafe (execSamplingReadEnd d s) := by
  have he : s.endFlight.LineSafe := hs.congr rfl
  unfold execSamplingReadEnd
  split
  · dsimp only
    split
    · split
      · exact .next ((imageFault_kept (.refl _) _).lineSafe he)
      · exact .next ((ite_kept (modCyc_kept (.refl _) _) (.refl _)).lineSafe he)
    · exact .next he
  · exact .next hs

theorem execInputImageWriteEnd_lineSafe (hs : s.LineSafe) (ok : Bool) : AnswersLineSafe (execInputImageWriteEnd ok s) := by
  have he : s.endFlight.LineSafe := hs.congr rfl
  unfold execInputImageWriteEnd
  split
  · dsimp only
    split
    · exact .next ((ite_kept (imageFault_kept (.refl _) _) (ite_kept (modCyc_kept (.refl _) _) (.refl _))).lineSafe he)
    · exact .next he
  · exact .next hs

theorem execTransferFetchEnd_lineSafe (hs : s.LineSafe) (d : Option ReadData) :
    AnswersLineSafe (execTransferFetchEnd d s) := by
  have he : s.endFlight.LineSafe := hs.congr rfl
  unfold execTransferFetchEnd
  split
  · exact .next ((ite_kept (fetchEnded_kept (.refl _) _) (formerEnded_kept (.refl _))).lineSafe he)
  · exact .next hs

theorem execTransferStoreEnd_lineSafe (hs : s.LineSafe) (ok : Bool) : AnswersLineSafe (execTransferStoreEnd ok s) := by
  have he : s.endFlight.LineSafe := hs.congr rfl
  unfold execTransferStoreEnd
  split
  · exact .next ((ite_kept (storeEnded_kept (.refl _) _) (formerEnded_kept (.refl _))).lineSafe he)
  · exact .next hs

theorem execPortReportWriteEnd_lineSafe (hs : s.LineSafe) (ok : Bool) : AnswersLineSafe (execPortReportWriteEnd ok s) := by
  unfold execPortReportWriteEnd
  split
  · exact .next ((reportEnded_kept (.refl _) _ _).lineSafe (hs.congr rfl))
  · exact .next hs

theorem execReqBusError_lineSafe (hs : s.LineSafe) : AnswersLineSafe (execReqBusError s) := by
  refine onlyIf_lineSafe hs fun _ => ?_
  dsimp only
  split
  · exact hs.congr (halt_ports _ _)
  · exact hs.congr (dropFetch_ports _)

theorem execRecordWriteEnd_lineSafe (hs : s.LineSafe) (ok : Bool) : AnswersLineSafe (execRecordWriteEnd ok s) := by
  unfold execRecordWriteEnd
  split
  · refine .next (hs.congr ?_)
    split
    · exact recordWritten_ports _ _ _
    · split
      · exact halt_ports _ _
      · rfl
  · exact .next hs

theorem execSetupReadEnd_lineSafe (hs : s.LineSafe) (d : Option ReadData) : AnswersLineSafe (execSetupReadEnd d s) := by
  unfold execSetupReadEnd
  split
  · refine .next (hs.congr ?_)
    split
    · exact setupRead_ports _ _
    · rfl
  · exact .next hs

theorem execSyncIn_lineSafe (hs : s.LineSafe) (high : Bool) : AnswersLineSafe (execSyncIn high s) := by
  have h : LinesKept s { s with syncInLevel := high } := (LinesKept.refl s).of_ports rfl
  refine onlyIf_lineSafe hs fun _ => LinesKept.lineSafe (s := s) ?_ hs
  exact ite_kept (foldl_kept _ (fun u g => fire_kept g u) _ h) h

/-- Every command answers a safe state from a safe one. -/
theorem exec_lineSafe (hs : s.LineSafe) (i : Instr) : AnswersLineSafe (exec i s) := by
  cases i with
  | nop r => exact take_lineSafe hs fun id => .of_kept fun u => handOver_kept (.refl u) _ _ _
  | portConfig q => exact take_toPort_lineSafe hs fun id => .of_kept (configurePort_kept _ id)
  | portEnable q => exact take_toPort_lineSafe hs fun id => .of_kept (enablePort_kept _ id)
  | portDisable q => exact take_toPort_lineSafe hs fun id u hu => disablePort_lineSafe hu _ id
  | bringUp q => exact take_toPort_lineSafe hs fun id => .of_kept (bringUpPort_kept _ id)
  | cycleStart q => exact take_toPort_lineSafe hs fun id => .of_kept (startCycling_kept _ id)
  | cycleStop q => exact take_toPort_lineSafe hs fun id => .of_kept (stopCycling_kept _ id)
  | groupConfig q => exact take_toUnit_lineSafe hs fun id => .of_kept (configureGroup_kept _ id)
  | syncFire q => exact take_toUnit_lineSafe hs fun id => .of_kept (syncFireGroups_kept _ id)
  | paramRead q => exact take_toPort_lineSafe hs fun id => .of_kept (queueTransfer_kept false _ id)
  | paramWrite q => exact take_toPort_lineSafe hs fun id => .of_kept (queueTransfer_kept true _ id)
  | abort q => exact take_lineSafe hs (runAbort_keepsLineSafe _ _)
  | portQuery q => exact take_toPort_lineSafe hs fun id => .of_kept (queryPort_kept _ id)
  | unknownRequestKind kind r =>
    exact onlyIf_lineSafe hs fun _ => take_lineSafe hs (act := fun _ u => u) (fun _ _ hu => hu) _ rfl
  | reqBusError => exact execReqBusError_lineSafe hs
  | fetch => unfold exec execFetch; exact onlyIf_lineSafe_of_ports hs rfl
  | bmuGrant => exact onlyIf_lineSafe hs fun _ => (grant_kept s).lineSafe hs
  | completionWriteClaim => unfold exec execCompletionWriteClaim; exact onlyIf_lineSafe_of_ports hs rfl
  | recordWriteEnd ok => exact execRecordWriteEnd_lineSafe hs ok
  | holdoffExpiry => exact atInstant_lineSafe hs fun _ v hv => hs.congr hv
  | reqTail v => exact onlyIf_lineSafe hs fun _ => hs.congr (writeReqTail_ports s v)
  | cplHead v => exact onlyIf_lineSafe hs fun _ => hs.congr (writeCplHead_ports s v)
  | enable v => exact onlyIf_lineSafe hs fun _ => writeCtrl_lineSafe hs v
  | softReset v => exact onlyIf_lineSafe hs fun _ => writeCtrl_lineSafe hs v
  | softResetEnd => unfold exec execSoftResetEnd; exact onlyIf_lineSafe_of_ports hs rfl
  | intEnable v => exact onlyIf_lineSafe hs fun _ => writeCtrl_lineSafe hs v
  | registerWrite o w v => exact onlyIf_lineSafe hs fun _ => writeRegister_lineSafe hs _ w v
  | powerOnReset => exact .next ((cleared_lineSafe s 0).congr rfl)
  | resetNDeasserted => exact .next (hs.congr rfl)
  | setupReadEnd d => exact execSetupReadEnd_lineSafe hs d
  | syncIn high => exact execSyncIn_lineSafe hs high
  | beat g => exact atInstant_lineSafe hs fun _ v hv => hs.congr ((takeBeat_ports v g).trans hv)
  | syncOutPulseEnd => exact atInstant_lineSafe hs fun _ v hv => hs.congr hv
  | samplingInstant p => exact atInstant_lineSafe_of_kept hs (sampleNow_kept p)
  | samplingReadEnd d => exact execSamplingReadEnd_lineSafe hs d
  | startInstant p => exact atInstant_lineSafe_of_kept hs (startNow_kept p)
  | inputImageWriteEnd ok => exact execInputImageWriteEnd_lineSafe hs ok
  | idleCheck p =>
    exact atInstant_lineSafe_of_line (p := p) hs (by unfold State.idleCheckDue; grind)
      fun v hv => startOnLine_kept (.refl v) hv
  | collision p bit => exact execCollision_lineSafe hs p bit
  | masterFrameEnd p =>
    exact atInstant_lineSafe_of_line (p := p) hs (by unfold State.masterFrameEndDue; grind)
      fun v hv => frameSent_kept (.refl v) hv
  | noReply p n => exact expire_lineSafe hs _ n (by unfold State.noReplyDue; grind)
  | gap p n => exact expire_lineSafe hs _ n (by unfold State.gapDue; grind)
  | stationReply p chars next => exact execStationReply_lineSafe hs p chars next
  | guardEnd p =>
    exact atInstant_lineSafe_of_line (p := p) hs (by unfold State.guardEndDue; grind)
      fun v hv => guardOver_kept (.refl v) hv
  | wakeDominantEnd p =>
    exact atInstant_lineSafe_of_line (p := p) hs (by unfold State.wakeDominantEndDue; grind)
      fun v hv => pulseSent_kept (.refl v) hv
  | quietTimeEnd p =>
    exact atInstant_lineSafe_of_line (p := p) hs (by unfold State.quietTimeEndDue; grind)
      fun v hv => pulseOver_kept (.refl v) hv
  | lineStuck p => exact atInstant_lineSafe hs fun _ v hv => enterFault_lineSafe (hs.congr hv) p _
  | fltNAsserted p => exact .next (LinesKept.lineSafe (modPort_kept_of_eq (.refl s)) hs)
  | fltNDeasserted p => exact .next (LinesKept.lineSafe (modPort_kept_of_eq (.refl s)) hs)
  | overcurrent p => exact atInstant_lineSafe hs fun _ v hv => enterFault_lineSafe (hs.congr hv) p _
  | attempt p =>
    exact atInstant_lineSafe_of_line (p := p) hs (by unfold State.attemptDue State.nowIf; grind)
      fun v hv => beginAttempt_kept (.refl v) hv
  | backoffExpiry p => exact atInstant_lineSafe_of_kept hs fun v => modSeq_kept (.refl v) _
  | activation p => exact atInstant_lineSafe_of_kept hs (activateHead_kept p)
  | segmentHandOver p => exact atInstant_lineSafe_of_kept hs (handSegment_kept p)
  | svcAbandon p => exact atInstant_lineSafe_of_kept hs (handAbandon_kept p)
  | transferFetchEnd d => exact execTransferFetchEnd_lineSafe hs d
  | transferStoreEnd ok => exact execTransferStoreEnd_lineSafe hs ok
  | portReportWriteEnd ok => exact execPortReportWriteEnd_lineSafe hs ok
  | replyStartEdge p n => exact execReplyStartEdge_lineSafe hs p n
  | rxdLevelChange p b => exact onlyIf_lineSafe hs fun _ => (lineLevel_kept p b s hs).lineSafe hs

theorem tick_ports (s : State) : s.tick.ports = s.ports := by
  unfold State.tick
  split
  · rfl
  · cases h : s.reach (s.time + 1) with
    | none => rfl
    | some v => rw [Option.getD_some, (reach_eq h).1]

/-- Settles O9: a step is a command, an arrival or a tick, and each answers a safe state from a safe one. -/
theorem everyStepKeepsDisabledLinesOff : Obligations.EveryStepKeepsDisabledLinesOff := by
  intro s t hs h
  unfold step idleStep at h
  split at h
  · rename_i c rest _
    exact exec_lineSafe (s := { s with pending := rest }) (hs.congr rfl) c t h
  · split at h
    · exact exec_lineSafe (s := s.chosen) (hs.congr rfl) _ t h
    · cases h; exact portArrival_keepsLineSafe _ _ (hs.congr rfl)
    · cases h; exact unitArrival_keepsLineSafe _ (hs.congr rfl)
    · cases h; exact hs.congr (tick_ports s)

end Sys2Proof.Machine
end

section
/-! PROOFS. The steps of one line whose whole next state the claims give: the start of a frame or a wake pulse, its end, the
start of a reply, the pins (R1, R3, R4, R11 to R13, R18, R35). Every update of a port is brought to one form, `withPort`. -/

namespace Sys2Proof.Machine

/- Each proof waits for the kernel; checked one after another, they need no more threads than the rest of the package. -/
set_option Elab.async false

variable {p : PortId} {s s' t : State} {n : Nat}

/-! ### One port replaced -/

theorem modPort_eq_withPort (s : State) (p : PortId) (f : Port → Port) : s.modPort p f = s.withPort p (f (s.port p)) := rfl

theorem modLf_eq_withPort (s : State) (p : PortId) (f : Framer → Framer) :
    s.modLf p f = s.withPort p { s.port p with lf := f (s.port p).lf } := rfl

@[simp] theorem port_withPort (s : State) (p : PortId) (y : Port) : (s.withPort p y).port p = y :=
  State.port_modPort_self s p fun _ => y

@[simp] theorem withPort_time (s : State) (p : PortId) (y : Port) : (s.withPort p y).time = s.time := rfl

@[simp] theorem modPort_withPort (s : State) (p : PortId) (y : Port) (f : Port → Port) :
    (s.withPort p y).modPort p f = s.withPort p (f y) := by
  rw [modPort_eq_withPort, port_withPort]
  simp [State.withPort]

@[simp] theorem modLf_withPort (s : State) (p : PortId) (y : Port) (f : Framer → Framer) :
    (s.withPort p y).modLf p f = s.withPort p { y with lf := f y.lf } := modPort_withPort s p y _

@[simp] theorem modSeq_withPort (s : State) (p : PortId) (y : Port) (f : Sequencer → Sequencer) :
    (s.withPort p y).modSeq p f = s.withPort p { y with seq := f y.seq } := modPort_withPort s p y _

@[simp] theorem modCounters_withPort (s : State) (p : PortId) (y : Port) (f : Counters → Counters) :
    (s.withPort p y).modCounters p f = s.withPort p { y with counters := f y.counters } := modPort_withPort s p y _

/-! ### Instants -/

theorem reach_port {n : Nat} (h : s.reach n = some s') (q : PortId) : s'.port q = s.port q := by
  rw [(reach_eq h).1]; rfl

theorem reaches_port (h : s.Reaches n s') (q : PortId) : s'.port q = s.port q := reach_port h q

theorem atInstant_completes {due : Option Nat} {act : State → State} {i : Instr} {post : State → Prop}
    (hi : exec i s = atInstant due act s) (hd : due = some n) (h : s.Reaches n s') (hp : post (act s')) :
    Completes i s post := ⟨act s', by rw [hi, hd, atInstant_next act h], hp⟩

/-! ### Sending (R3, R11, R12, R18) -/

/-- The first bit of a master frame is a start bit (R3). -/
theorem frameBits_zero (f : Frame) : (frameBits f)[0]? = some false := rfl

theorem assertTxen_eq (s : State) (p : PortId) : s.assertTxen p = s.withPort p { s.port p with
    lf := { (s.port p).lf with txen := true, recessiveSince := none, dominantSince := none }
    blank := if (s.port p).flt && (s.port p).blank.isNone then some s.time else (s.port p).blank } := rfl

theorem txdLevel_of_sending {e : Exchange} (hs : (s.port p).lf.state = .sending) (ht : (s.port p).lf.txen = true)
    (hf : (s.port p).lf.flight = some e) :
    s.txdLevel p = (frameBits e.frame).getD ((s.time - e.start) / e.frame.speed.tb) true := by
  simp [State.txdLevel, hs, ht, hf]

theorem txdLevel_of_waking (hs : (s.port p).lf.state = .waking) (ht : (s.port p).lf.txen = true) :
    s.txdLevel p = false := by
  simp [State.txdLevel, hs, ht]

theorem startOnLine_frame {f : Frame} (hh : (s.port p).lf.held = some (.frame f)) :
    s.startOnLine p = s.withPort p { s.port p with
      lf := { (s.port p).lf with
        state := .sending, held := none, flight := some { frame := f, start := s.time }, timer := none
        txen := true, recessiveSince := none, dominantSince := none }
      blank := if (s.port p).flt = true ∧ (s.port p).blank = none then some s.time else (s.port p).blank
      counters := if f.engine = .cycle then { (s.port p).counters with
        cyclesStarted := (s.port p).counters.cyclesStarted + 1 } else (s.port p).counters } := by
  unfold State.startOnLine
  rw [hh]
  dsimp only
  rw [assertTxen_eq, modLf_withPort, modCounters_withPort]
  simp only [Bool.and_eq_true, Option.isNone_iff_eq_none]
  split <;> rfl

theorem startOnLine_pulse {sp : Speed} (hh : (s.port p).lf.held = some (.pulse sp)) :
    s.startOnLine p = s.withPort p { s.port p with
      lf := { (s.port p).lf with
        state := .waking, held := none, timer := some (s.time + 32 * 120), txen := true
        recessiveSince := none, dominantSince := none }
      blank := if (s.port p).flt = true ∧ (s.port p).blank = none then some s.time else (s.port p).blank } := by
  unfold State.startOnLine
  rw [hh]
  dsimp only
  rw [assertTxen_eq, modLf_withPort]
  simp only [Bool.and_eq_true, Option.isNone_iff_eq_none]
  rfl

/-- Settles O46: the held frame starts with its start bit, the pulse with its dominant level. -/
theorem theIdleCheckStartsTheFrame : Obligations.TheIdleCheckStartsTheFrame := by
  intro p r h s s' hw hh hr x sp hreach blank driving
  have hx : s'.port p = x := reaches_port hreach p
  have hd : s.idleCheckDue p = some (max x.lf.waitSince (r + 2 * sp.tb)) := by
    simp only [State.idleCheckDue, hw, hh, hr, if_true]
    cases h <;> rfl
  refine atInstant_completes rfl hd hreach ?_
  cases h with
  | frame f =>
    have hs := startOnLine_frame (s := s') (p := p) (f := f) (by rw [hx]; exact hh)
    rw [hx] at hs
    refine ⟨?_, hs⟩
    rw [hs, txdLevel_of_sending (e := { frame := f, start := s'.time }) (by simp) (by simp) (by simp), withPort_time,
      Nat.sub_self, Nat.zero_div, List.getD_eq_getElem?_getD, frameBits_zero]
    rfl
  | pulse sp =>
    have hs := startOnLine_pulse (s := s') (p := p) (sp := sp) (by rw [hx]; exact hh)
    rw [hx] at hs
    exact ⟨by rw [hs, txdLevel_of_waking (by simp) (by simp)], hs⟩

theorem stretch_eq (f : Framer) (r : Bool) (a b : Nat) : f.stretch r (if r then a else b) = { f with
    recessiveSince := if r then some a else none, dominantSince := if r then none else some b } := by
  cases r <;> rfl

theorem releaseLine_eq (s : State) (p : PortId) (tail : Nat) : s.releaseLine p tail = s.withPort p { s.port p with
    lf := { (s.port p).lf with
      txen := false
      recessiveSince := if (s.port p).rxd then some (s.time - tail) else none
      dominantSince := if (s.port p).rxd then none else some s.time } } := by
  unfold State.releaseLine
  rw [modPort_eq_withPort, stretch_eq]

/-- Settles O48. -/
theorem theFrameEndsAndTRespStarts : Obligations.TheFrameEndsAndTRespStarts := by
  intro p e s s' hs hf hreach x tail
  have hx : s'.port p = x := reaches_port hreach p
  have hd : s.masterFrameEndDue p = some (e.start + 10 * e.frame.chars * e.frame.speed.tb) := by
    simp [State.masterFrameEndDue, hs, hf]
  change atInstant (s.masterFrameEndDue p) (State.frameSent p) s = _
  rw [hd, atInstant_next _ hreach]
  have hf' : (s'.port p).lf.flight = some e := hx ▸ hf
  unfold State.frameSent
  rw [hf']
  dsimp only
  rw [releaseLine_eq, modPort_withPort, hx]

theorem pulseSent_eq (s : State) (p : PortId) : s.pulseSent p = s.withPort p { s.port p with lf := { (s.port p).lf with
    txen := false, timer := some (s.time + 32 * 400)
    recessiveSince := if (s.port p).rxd then some s.time else none
    dominantSince := if (s.port p).rxd then none else some s.time } } := by
  unfold State.pulseSent
  rw [releaseLine_eq, modLf_withPort]
  rfl

/-! ### The pins (R1, R4, R11, R35) -/

/-- The receiver looks for a candidate edge, as the claims say it (R4, R13, R14). -/
theorem looks_iff (f : Framer) (now : Nat) : f.looks now = true ↔
    (f.state = .awaiting ∨ f.state = .receiving) ∧
    (f.timer.any (now ≤ ·) = true ∨
      (f.flight.bind fun e => (f.rx.bind (·.edge)).map (· + 10 * e.frame.speed.tb)) = some now) ∧
    f.candidate.all (· + f.halfTb < now) = true := by
  have hend : f.characterEnd = f.flight.bind fun e => (f.rx.bind (·.edge)).map (· + 10 * e.frame.speed.tb) := by
    unfold Framer.characterEnd
    rcases f.rx with _ | ⟨_ | c, _, _, _, _⟩ <;> rcases f.flight with _ | e <;> rfl
  have hpend : (f.pendingEdge now).isNone = f.candidate.all (· + f.halfTb < now) := by
    unfold Framer.pendingEdge
    cases f.candidate with
    | none => rfl
    | some c =>
      by_cases h : now ≤ c + f.halfTb
      · simp [Option.filter, h]
      · simp [Option.filter, h, Nat.lt_of_not_le h]
  unfold Framer.looks
  rw [hend, hpend]
  simp only [Bool.and_eq_true, Bool.or_eq_true, decide_eq_true_eq, beq_iff_eq, and_assoc]

theorem change_eq (f : Framer) (r : Bool) (now : Nat) : f.change r now = { f with
    recessiveSince := if r then some now else none, dominantSince := if r then none else some now
    candidate := if r = false ∧ f.looks now = true then some now else f.candidate } := by
  cases r <;> simp [Framer.change, Framer.stretch]

theorem lineLevel_eq (s : State) (p : PortId) (r : Bool) : s.lineLevel p r = s.withPort p { s.port p with
    rxd := r
    lf := if (s.port p).lf.state = .off ∨ (s.port p).lf.txen = true then (s.port p).lf
      else (s.port p).lf.change r s.time } := by
  unfold State.lineLevel
  rw [modPort_eq_withPort]
  simp only [Bool.or_eq_true, decide_eq_true_eq]

/-- Settles O55. -/
theorem pinsOfAPort : Obligations.PinsOfAPort := by
  intro p s x
  refine ⟨?_, rfl, ?_⟩
  · change execFltNAsserted p s = _
    simp only [execFltNAsserted, modPort_eq_withPort, Bool.and_eq_true, Option.isNone_iff_eq_none]
    rfl
  · intro r half characterEnds looks
    change onlyIf (x.rxd != r) (State.lineLevel p r) s = _
    by_cases hr : x.rxd = r
    · simp [onlyIf, hr]
    · have hl : (s.port p).lf.looks s.time = true ↔ looks := looks_iff x.lf s.time
      rw [if_neg hr]
      simp only [onlyIf, bne_iff_ne, ne_eq, hr, not_false_eq_true, if_true, lineLevel_eq]
      by_cases ho : x.lf.state = .off ∨ x.lf.txen = true
      · rw [if_pos ho, if_pos ho]
      · rw [if_neg ho, if_neg ho, change_eq]
        simp only [hl]
        rfl

/-! ### The start of a reply (R4, R13) -/

theorem halfTb_of_flight {e : Exchange} (h : (s.port p).lf.flight = some e) :
    (s.port p).lf.halfTb = e.frame.speed.tb / 2 := by
  simp [Framer.halfTb, h]

/-- What a reply is received on: the port with no limit running and no candidate edge. -/
def Port.quieted (x : Port) : Port := { x with lf := { x.lf with timer := none, rx := none, candidate := none } }

theorem replyAt_next {act : State → State} (h : (s.withPort p (s.port p).quieted).reach n = some s') :
    s.replyAt p n act = .next (act s') := by
  unfold State.replyAt
  rw [show s.modLf p (fun f => { f with timer := none, rx := none, candidate := none }) =
    s.withPort p (s.port p).quieted from rfl, h]

theorem quieted_reach_port (h : (s.withPort p (s.port p).quieted).reach n = some s') : s'.port p = (s.port p).quieted :=
  (reach_port h p).trans (port_withPort _ _ _)

theorem lineIs_told (b : Bool) (n : Nat) : s.lineIs p true b n = s := rfl

theorem lineIs_untold (s : State) (p : PortId) (b : Bool) (n : Nat) : s.lineIs p false b n = s.withPort p { s.port p with
    rxd := b, lf := (s.port p).lf.stretch b n } := rfl

/-- Settles O49. -/
theorem aStartEdgeBeginsTheReply : Obligations.AStartEdgeBeginsTheReply := by
  intro p edge e s hst hf x tb begun at_ quiet open_ receiving
  have hh : (s.port p).lf.halfTb = tb / 2 := halfTb_of_flight hf
  have ho : s.edgeAgrees p at_ = true ↔ open_ := by rw [edgeAgrees_iff, hh]
  have ht : s.edgeTold p at_ = true ↔ x.EdgeTold (tb / 2) s.time at_ := by rw [edgeTold_iff, hh]
  have hexec : exec (.replyStartEdge p edge) s =
      if edge ≤ x.config.tResp * tb && s.edgeAgrees p at_ then
        s.replyAt p (at_ + tb / 2) (State.beginReply p (s.edgeTold p at_) at_) else .next s := by
    change execReplyStartEdge p edge s = _
    unfold execReplyStartEdge
    dsimp only
    rw [hst, hf]
  have hc : (decide (edge ≤ x.config.tResp * tb) && s.edgeAgrees p at_) = true ↔ edge ≤ x.config.tResp * tb ∧ open_ := by
    rw [Bool.and_eq_true, decide_eq_true_eq, ho]
  refine ⟨?_, ?_, ?_⟩
  · intro h
    rw [hexec, if_neg]
    intro hn
    obtain ⟨h₁, h₂⟩ := hc.mp hn
    exact h.elim (fun h => absurd h₁ (by omega)) fun h => h h₂
  · intro s' h₁ h₂ hreach
    have hp : s'.port p = x.quieted := quieted_reach_port hreach
    rw [hexec, if_pos (hc.mpr ⟨h₁, h₂⟩), replyAt_next hreach]
    refine ⟨fun h => ?_, fun h => ?_⟩
    · rw [ht.mpr h, State.beginReply, lineIs_told, modLf_eq_withPort, hp]
      rfl
    · rw [Bool.eq_false_iff.mpr fun hn => h (ht.mp hn), State.beginReply, lineIs_untold, modLf_withPort, hp]
      rfl
  · intro n h hr hn hle
    have hc : s.edgeToConfirm p = some at_ := edgeToConfirm_eq_some.mpr ⟨hr, h.1, by rw [hh]; exact h.2, n, hn, hle⟩
    unfold State.confirmSteps
    simp only [hc, hst, hf, hh]
    have hsub : at_ - begun = edge := Nat.add_sub_cancel_left begun edge
    change dueAt _ 0 (.replyStartEdge p (at_ - begun)) = _
    rw [hsub]
    rfl

end Sys2Proof.Machine
end

section
/-! PROOFS. The Station Link character by character: the bits of a master frame (R3), and how a reply is received (R4, R7, R14,
R15), which bounds the end of its exchange by the window (R19). -/

namespace Sys2Proof.Machine

/- Each proof waits for the kernel; checked one after another, they need no more threads than the rest of the package. -/
set_option Elab.async false

/-! ### The bits of a frame (R3) -/

theorem charBits_length (o : Byte) : (charBits o).length = 10 := by
  simp [charBits]

/-- Start bit, data bits least significant first, stop bit. -/
theorem charBits_getElem? (o : Byte) {b : Nat} (hb : b < 10) :
    (charBits o)[b]? = some (if b = 0 then false else if b = 9 then true else o.getLsbD (b - 1)) := by
  rcases b with _ | b
  · rfl
  · rcases Nat.lt_or_ge b 8 with h | h
    · simp [charBits, h, List.getElem?_append, Nat.ne_of_lt h]
    · obtain rfl : b = 8 := by omega
      simp [charBits]

theorem flatMap_length_ten (l : List Byte) : (l.flatMap charBits).length = 10 * l.length := by
  induction l with
  | nil => rfl
  | cons a l ih => rw [List.flatMap_cons, List.length_append, charBits_length, ih, List.length_cons]; omega

/-- Bit `b` of character `i` stands at bit `10 * i + b` of the frame. -/
theorem flatMap_charBits_getElem? (l : List Byte) (i b : Nat) (o : Byte) (ho : l[i]? = some o) (hb : b < 10) :
    (l.flatMap charBits)[10 * i + b]? = (charBits o)[b]? := by
  induction l generalizing i with
  | nil => simp at ho
  | cons a l ih =>
    rw [List.flatMap_cons]
    rcases i with _ | i
    · simp only [List.getElem?_cons_zero, Option.some.injEq] at ho
      subst ho
      rw [List.getElem?_append_left (by rw [charBits_length]; omega), Nat.mul_zero, Nat.zero_add]
    · rw [List.getElem?_append_right (by rw [charBits_length]; omega), charBits_length,
        show 10 * (i + 1) + b - 10 = 10 * i + b by omega]
      exact ih i (by simpa using ho)

theorem frameBits_length (f : Frame) : (frameBits f).length = 10 * f.chars := by
  rw [frameBits, flatMap_length_ten]
  simp [frameOctets, Frame.chars]

theorem tb_pos (sp : Speed) : 0 < sp.tb := by
  cases sp <;> decide

/-- Settles O44. -/
theorem aFrameIsTenBitTimesACharacter : Obligations.AFrameIsTenBitTimesACharacter := by
  intro f i b o ho hb level
  have hbit : (frameBits f)[10 * i + b]? = some level := by
    rw [frameBits, flatMap_charBits_getElem? _ i b o ho hb, charBits_getElem? o hb]
  refine ⟨hbit, frameBits_length f, ?_⟩
  intro p start s hs ht hf hle hlt
  have hidx : (s.time - start) / f.speed.tb = 10 * i + b := by
    refine Nat.div_eq_of_lt_le ?_ ?_
    · omega
    · rw [show (10 * i + b + 1) * f.speed.tb = (10 * i + b) * f.speed.tb + f.speed.tb from Nat.succ_mul _ _] at *
      omega
  rw [txdLevel_of_sending hs ht hf]
  rw [hidx, List.getD_eq_getElem?_getD, hbit]
  rfl

/-! ### Reception (R4, R7, R14, R15) -/

/-- The characters of a reply, once known, as the claims say them (R7). -/
theorem replyTotal_eq (f : Frame) (got : List Byte) : replyTotal f got = f.replyChars got := by
  unfold replyTotal Frame.replyChars
  split
  · rcases got with _ | ⟨a, _ | ⟨b, l⟩⟩ <;> simp [Nat.add_comm]
  · rfl

/-- A reply that is not complete is shorter than the largest the port accepts (R7, R15). -/
theorem begunWith_length_lt {f : Frame} {got : List Byte} (h : f.begunWith got) : got.length < f.maxReply := by
  obtain ⟨hlen, hseg⟩ := h
  unfold Frame.maxReply
  cases hk : f.kind.service with
  | false => exact hlen _ (by simp [Frame.replyChars, hk])
  | true =>
    rcases got with _ | ⟨a, _ | ⟨b, l⟩⟩
    · simp
    · rw [if_pos rfl, List.length_singleton]
      omega
    · have h₁ := hlen (b.toNat + 3) (by simp [Frame.replyChars, hk])
      have h₂ := hseg hk b (by simp)
      simp only [if_true]
      omega

/-- What is received once the character `c`, begun at `start`, has been received whole and more is expected. -/
def Rx.after (f : Frame) (rx : Rx) (c : RxChar) (start : Nat) : Rx :=
  { edge := none, count := rx.count + 1, crc := crcOctet rx.crc c.octet, octets := rx.octets ++ [c.octet]
    lastEnd := start + 10 * f.speed.tb }

/-- The start edge of the next character. -/
def Rx.startOf (rx : Rx) (c : RxChar) : Nat := rx.edge.getD (rx.lastEnd + c.gap)

/-- What one character of a reply does (R4, R7, R14, R15). -/
theorem receive_cons (f : Frame) (g : Nat) (c : RxChar) (cs : List RxChar) (rx : Rx) :
    receive f g (c :: cs) rx =
      if rx.edge.isNone && g < c.gap then .tooLate
      else if !c.stop then
        .ends (.failed .framing) (rx.startOf c + 19 * f.speed.tb / 2) (rx.startOf c) false (rx.startOf c + 19 * f.speed.tb / 2)
      else if f.kind.service && rx.count = 1 && f.seg < c.octet.toNat then
        .ends (.failed .length) (rx.startOf c + 19 * f.speed.tb / 2) (rx.startOf c) true
          (rx.startOf c + 10 * f.speed.tb - tailRecessive c.octet * f.speed.tb)
      else if replyTotal f (rx.octets ++ [c.octet]) = some (rx.count + 1) then
        .ends (judgeReply f rx.crc (rx.octets ++ [c.octet])) (rx.startOf c + 10 * f.speed.tb) (rx.startOf c) true
          (rx.startOf c + 10 * f.speed.tb - tailRecessive c.octet * f.speed.tb)
      else receive f g cs (rx.after f c (rx.startOf c)) := rfl

/-- Where a further octet neither completes the reply nor is a LEN above S, more is expected (R7, R15). -/
theorem begunWith_append {f : Frame} {got : List Byte} {o : Byte} (h : f.begunWith got)
    (hl : ¬ (f.kind.service = true ∧ got.length = 1 ∧ f.seg < o.toNat))
    (ht : f.replyChars (got ++ [o]) ≠ some (got.length + 1)) : f.begunWith (got ++ [o]) := by
  obtain ⟨hlen, hseg⟩ := h
  cases hk : f.kind.service with
  | false =>
    simp only [Frame.begunWith, Frame.replyChars, hk, Bool.false_eq_true, if_false, Option.some.injEq, false_implies,
      and_true, forall_eq', ne_eq, List.length_append, List.length_singleton] at hlen ht ⊢
    have := hlen
    omega
  | true =>
    rcases got with _ | ⟨a, _ | ⟨b, l⟩⟩
    · simp [Frame.begunWith, Frame.replyChars, hk]
    · simp only [hk, List.length_singleton, true_and] at hl
      simp [Frame.begunWith, Frame.replyChars, hk]
      omega
    · simp [Frame.begunWith, Frame.replyChars, hk] at hlen hseg ht ⊢
      omega

/-- The end of a reply's exchange before its guard: `E` is the first start edge, `A` a character's time, `D` the limit G. -/
theorem receive_ends_le {f : Frame} {D E : Nat} (chars : List RxChar) (rx : Rx) {o : Outcome} {t begun since : Nat} {r : Bool}
    (hc : rx.count = rx.octets.length) (hb : f.begunWith rx.octets)
    (hs : ∀ c : RxChar, (rx.edge = none → c.gap ≤ D) → rx.startOf c ≤ E + rx.count * (10 * f.speed.tb + D))
    (h : receive f D chars rx = .ends o t begun r since) :
    t ≤ E + (f.maxReply - 1) * (10 * f.speed.tb + D) + 10 * f.speed.tb := by
  induction chars generalizing rx with
  | nil => simp [receive] at h
  | cons c cs ih =>
    have hlt := begunWith_length_lt hb
    have hmono : rx.count * (10 * f.speed.tb + D) ≤ (f.maxReply - 1) * (10 * f.speed.tb + D) :=
      Nat.mul_le_mul_right _ (by omega)
    rw [receive_cons] at h
    split at h
    · cases h
    · rename_i hgap
      have hstart := hs c fun he => by simpa [he] using hgap
      split at h
      · cases h; omega
      · split at h
        · cases h; omega
        · split at h
          · cases h; omega
          · rename_i hl ht
            rw [replyTotal_eq, hc] at ht
            refine ih (rx.after f c (rx.startOf c)) (by simp [Rx.after, hc])
              (begunWith_append hb (by simpa [hc] using hl) ht) ?_ h
            intro d hd
            have hd : d.gap ≤ D := hd rfl
            have hsucc : (rx.after f c (rx.startOf c)).count * (10 * f.speed.tb + D) =
              rx.count * (10 * f.speed.tb + D) + (10 * f.speed.tb + D) := Nat.succ_mul _ _
            simp only [Rx.startOf, Rx.after, Option.getD_none] at hstart hsucc ⊢
            omega

/-- Settles O45: the characters of the largest reply and the gaps between them fit the window. -/
theorem aReplyEndsWithinTheWindow : Obligations.AReplyEndsWithinTheWindow := by
  intro f tResp gapLimit start edge last chars o t begun since r _ hedge h
  have hb : f.begunWith [] := by
    refine ⟨fun n hn => ?_, fun _ n hn => by simp at hn⟩
    unfold Frame.replyChars at hn
    split at hn
    · simp at hn
    · cases hn; simp
  have ht := receive_ends_le (E := edge) chars _ rfl hb (fun c _ => by simp [Rx.startOf]) h
  have hpos : 1 ≤ f.maxReply := begunWith_length_lt hb
  obtain ⟨m, hm⟩ : ∃ m, f.maxReply = m + 1 := ⟨f.maxReply - 1, by omega⟩
  rw [hm, Nat.add_sub_cancel] at ht ⊢
  calc t + 8 * f.speed.tb
      ≤ edge + m * (10 * f.speed.tb + gapLimit * f.speed.tb) + 10 * f.speed.tb + 8 * f.speed.tb := by omega
    _ ≤ start + (10 * f.chars + tResp) * f.speed.tb + m * (10 * f.speed.tb + gapLimit * f.speed.tb) +
          10 * f.speed.tb + 8 * f.speed.tb := by omega
    _ = start + (10 * f.chars + tResp + 10 * (m + 1) + gapLimit * m + 8) * f.speed.tb := by ring

end Sys2Proof.Machine
end

section
/-! PROOFS. Hand-overs in order: what a chain of hand-overs does to the table, the list of completions and the count of
arrivals (R131, R139, R148). An entry that pends, in whatever state of the table but DONE and with no ABORT waiting for it, is
handed over by one record; `Hands` chains such steps. -/

namespace Sys2Proof.Machine

/- Each proof waits for the kernel; checked one after another, they need no more threads than the rest of the package. -/
set_option Elab.async false

variable {p : PortId} {s t u : State} {w : OrtEntry}

/-! ### The table -/

/-- `w` stands in the table, in any state but DONE, and no ABORT waits for it. -/
def State.Pends (s : State) (w : OrtEntry) : Prop :=
  (∃ st, st ≠ .done ∧ s.ortFind w.id = some { w with st := st }) ∧ s.NotAwaited w.id

theorem State.Open.pends {l : List OrtEntry} (h : s.Open l) (hw : w ∈ l) : s.Pends w :=
  have ⟨hf, hd, hn⟩ := h w hw
  ⟨⟨w.st, hd, hf⟩, hn⟩

/-- A change of entries that keeps their places changes what stands at each place. -/
theorem ortFind_map {g : OrtEntry → OrtEntry} (hg : ∀ e, (g e).id = e.id) (ht : t.ort = s.ort.map g) (id : Nat) :
    t.ortFind id = (s.ortFind id).map g := by
  simp only [State.ortFind, ht, List.find?_map, Function.comp_def, hg]

theorem entryState_congr (h : t.ort = s.ort) (id : Nat) : t.entryState id = s.entryState id := by
  simp only [State.entryState, State.ortFind, h]

theorem notAwaited_map {g : OrtEntry → OrtEntry} (hg : ∀ e, ∀ i ∈ (g e).awaited, i ∈ e.awaited)
    (ht : t.ort = s.ort.map g) {id : Nat} (h : s.NotAwaited id) : t.NotAwaited id := by
  intro e he hi
  rw [ht] at he
  obtain ⟨e', he', rfl⟩ := List.mem_map.mp he
  exact h e' he' (hg e' id hi)

theorem pends_congr (h : t.ort = s.ort) (hw : s.Pends w) : t.Pends w := by
  simpa only [State.Pends, State.ortFind, State.NotAwaited, h] using hw

/-- An entry that a change of the state at place `id` meets: one that is DONE, or stands elsewhere, stays as it is. -/
def OrtEntry.moved (id : Nat) (st : OrtState) (e : OrtEntry) : OrtEntry :=
  if e.id = id then (if e.st = .done then e else { e with st := st }) else e

theorem setOrtState_ort (s : State) (id : Nat) (st : OrtState) : (s.setOrtState id st).ort = s.ort.map (OrtEntry.moved id st) :=
  rfl

theorem moved_ne {id : Nat} {st : OrtState} {e : OrtEntry} (h : e.id ≠ id) : e.moved id st = e := if_neg h

theorem moved_done {id : Nat} {st : OrtState} {e : OrtEntry} (h : e.st = .done) : e.moved id st = e := by
  simp [OrtEntry.moved, h]

theorem moved_open {st : OrtState} {e : OrtEntry} (h : e.st ≠ .done) : e.moved e.id st = { e with st := st } := by
  rw [OrtEntry.moved, if_pos rfl, if_neg h]

theorem moved_id (id : Nat) (st : OrtState) (e : OrtEntry) : (e.moved id st).id = e.id := by
  by_cases h : e.id = id
  · by_cases hd : e.st = .done
    · rw [moved_done hd]
    · subst h; rw [moved_open hd]
  · rw [moved_ne h]

theorem moved_awaited (id : Nat) (st : OrtState) (e : OrtEntry) : (e.moved id st).awaited = e.awaited := by
  by_cases h : e.id = id
  · by_cases hd : e.st = .done
    · rw [moved_done hd]
    · subst h; rw [moved_open hd]
  · rw [moved_ne h]

theorem setOrtState_notAwaited {i : Nat} (id : Nat) (st : OrtState) (h : s.NotAwaited i) :
    (s.setOrtState id st).NotAwaited i :=
  notAwaited_map (fun e _ hi => by rwa [moved_awaited] at hi) (setOrtState_ort s id st) h

/-- Entries at other places are not touched. -/
theorem setOrtState_pends_ne {id : Nat} {st : OrtState} (h : id ≠ w.id) (hw : s.Pends w) : (s.setOrtState id st).Pends w := by
  obtain ⟨⟨x, hx, hf⟩, hn⟩ := hw
  refine ⟨⟨x, hx, ?_⟩, setOrtState_notAwaited id st hn⟩
  rw [ortFind_map (moved_id id st) (setOrtState_ort s id st), hf, Option.map_some,
    moved_ne (e := { w with st := x }) (Ne.symm h)]

/-- The entry at one place changes its state, but not to DONE. -/
theorem setOrtState_pends {id : Nat} {st : OrtState} (hst : st ≠ .done) (hw : s.Pends w) :
    (s.setOrtState id st).Pends w := by
  by_cases h : id = w.id
  · subst h
    obtain ⟨⟨x, hx, hf⟩, hn⟩ := hw
    refine ⟨⟨st, hst, ?_⟩, setOrtState_notAwaited w.id st hn⟩
    rw [ortFind_map (moved_id w.id st) (setOrtState_ort s w.id st), hf, Option.map_some]
    exact congrArg some (moved_open (e := { w with st := x }) hx)
  · exact setOrtState_pends_ne h hw

theorem setOrtState_entryState {st : OrtState} (hw : s.Pends w) : (s.setOrtState w.id st).entryState w.id = some st := by
  obtain ⟨⟨x, hx, hf⟩, -⟩ := hw
  rw [State.entryState, ortFind_map (moved_id w.id st) (setOrtState_ort s w.id st), hf, Option.map_some,
    moved_open (e := { w with st := x }) hx, Option.map_some]

/-! ### What is DONE stays DONE (R131) -/

/-- Entries that are DONE stay so. -/
def DoneKept (s t : State) : Prop := ∀ id, s.entryState id = some .done → t.entryState id = some .done

theorem DoneKept.refl (s : State) : DoneKept s s := fun _ h => h

theorem DoneKept.trans (h : DoneKept s t) (k : DoneKept t u) : DoneKept s u := fun id hd => k id (h id hd)

theorem DoneKept.of_ort (h : t.ort = s.ort) : DoneKept s t := fun id hd => (entryState_congr h id).trans hd

theorem DoneKept.of_map {g : OrtEntry → OrtEntry} (hg : ∀ e, (g e).id = e.id) (hd : ∀ e, e.st = .done → (g e).st = .done)
    (ht : t.ort = s.ort.map g) : DoneKept s t := by
  intro id h
  simp only [State.entryState, ortFind_map hg ht, Option.map_map] at h ⊢
  obtain ⟨e, he, hst⟩ := Option.map_eq_some_iff.mp h
  simp [he, hd e hst]

theorem setOrtState_doneKept (s : State) (id : Nat) (st : OrtState) : DoneKept s (s.setOrtState id st) :=
  .of_map (moved_id id st) (fun e he => by rw [moved_done he]; exact he) (setOrtState_ort s id st)

theorem complete_doneKept (s : State) (id : Nat) (st : Status) (r : Word) : DoneKept s (s.complete id st r) := by
  unfold State.complete
  split
  · exact .refl s
  · split
    · exact .refl s
    · exact (setOrtState_doneKept s id .done).trans (.of_ort rfl)

theorem foldl_doneKept {α : Type} {f : State → α → State} (hf : ∀ u a, DoneKept u (f u a)) (l : List α) (s : State) :
    DoneKept s (l.foldl f s) := by
  induction l generalizing s with
  | nil => exact .refl s
  | cons a l ih => exact (hf s a).trans (ih _)

/-- The state of a hand-over before the ABORTs that it settles are handed. -/
def State.counted (s : State) (id : Nat) : State :=
  { s with ort := s.ort.map fun e => { e with awaited := e.awaited.filter (· ≠ id) } }

/-- An ABORT that a hand-over settles is handed with the number it matched (R139). -/
def State.completeAbort (s : State) (e : OrtEntry) : State := s.complete e.id .ok (BitVec.ofNat 32 e.matched)

theorem handOver_eq_foldl (s : State) (id : Nat) (st : Status) (r : Word) : s.handOver id st r =
    (s.settledBy id).foldl State.completeAbort ((s.complete id st r).counted id) := rfl

theorem completeAbort_doneKept (s : State) (e : OrtEntry) : DoneKept s (s.completeAbort e) := complete_doneKept s _ _ _

theorem counted_doneKept (s : State) (id : Nat) : DoneKept s (s.counted id) :=
  .of_map (g := fun e => { e with awaited := e.awaited.filter (· ≠ id) }) (fun _ => rfl) (fun _ h => h) rfl

theorem handOver_doneKept (s : State) (id : Nat) (st : Status) (r : Word) : DoneKept s (s.handOver id st r) := by
  rw [handOver_eq_foldl]
  exact (complete_doneKept s id st r).trans ((counted_doneKept _ id).trans
    (foldl_doneKept completeAbort_doneKept _ _))

theorem handAll_doneKept (s : State) (ids : List Nat) (st : Status) : DoneKept s (s.handAll ids st) :=
  foldl_doneKept (fun u id => handOver_doneKept u id st 0) ids s

/-- A request handed over is DONE, where it stood in the table (R131). -/
theorem handOver_entryState {id : Nat} {e : OrtEntry} (he : s.ortFind id = some e) (st : Status) (r : Word) :
    (s.handOver id st r).entryState id = some .done := by
  have hc : (s.complete id st r).entryState id = some .done := by
    unfold State.complete
    rw [he]
    dsimp only
    split
    · simp [State.entryState, he, ‹e.st = .done›]
    · rename_i hd
      have hw : e.id = id := by simpa using List.find?_some he
      subst hw
      change (s.setOrtState e.id .done).entryState e.id = _
      rw [State.entryState, ortFind_map (moved_id e.id .done) (setOrtState_ort s e.id .done), he, Option.map_some,
        moved_open hd, Option.map_some]
  rw [handOver_eq_foldl]
  exact foldl_doneKept completeAbort_doneKept _ _ _ (counted_doneKept _ id _ hc)

/-! ### One hand-over of an entry that pends -/

theorem settledBy_eq_nil {id : Nat} (h : s.NotAwaited id) : s.settledBy id = [] := by
  refine List.filter_eq_nil_iff.mpr fun e he => ?_
  simp [h e he]

theorem counted_eq_self {id : Nat} (h : s.NotAwaited id) : s.counted id = s := by
  have hm : (s.ort.map fun e => { e with awaited := e.awaited.filter (· ≠ id) }) = s.ort := by
    refine (List.map_congr_left fun e he => ?_).trans (List.map_id _)
    have hf : e.awaited.filter (· ≠ id) = e.awaited :=
      List.filter_eq_self.mpr fun i hi => by
        have : i ≠ id := fun hn => h e he (hn ▸ hi)
        simpa using this
    rw [hf]
    rfl
  unfold State.counted
  rw [hm]

/-- The whole state after the hand-over of an entry that pends (R131, R148). -/
theorem handOver_of_pends (h : s.Pends w) (st : Status) (r : Word) :
    s.handOver w.id st r = { s.setOrtState w.id .done with
      cpl := { s.cpl with done := s.cpl.done ++ [w.completion st r s.arrivals] }
      arrivals := s.arrivals + 1 } := by
  obtain ⟨⟨x, hx, hf⟩, hn⟩ := h
  have hc : s.complete w.id st r = { s.setOrtState w.id .done with
      cpl := { s.cpl with done := s.cpl.done ++ [w.completion st r s.arrivals] }
      arrivals := s.arrivals + 1 } := by
    unfold State.complete
    rw [hf]
    dsimp only
    rw [if_neg hx]
    rfl
  have hn' : (s.complete w.id st r).NotAwaited w.id := by
    rw [hc]
    exact setOrtState_notAwaited w.id .done hn
  rw [handOver_eq_foldl, settledBy_eq_nil hn, List.foldl_nil, counted_eq_self hn', hc]

/-- An entry that is DONE, and for which no ABORT waits, is not handed over again (R131). -/
theorem handOver_of_done {id : Nat} (h : s.entryState id = some .done) (hn : s.NotAwaited id) (st : Status) (r : Word) :
    s.handOver id st r = s := by
  obtain ⟨e, he, hst⟩ := Option.map_eq_some_iff.mp h
  have hc : s.complete id st r = s := by simp [State.complete, he, hst]
  rw [handOver_eq_foldl, settledBy_eq_nil hn, List.foldl_nil, hc, counted_eq_self hn]

/-! ### Chains of hand-overs -/

/-- From `s` to `t` these entries, and no others, were handed over in this order, and what else pended still does. -/
structure Hands (s t : State) (l : List (OrtEntry × Status × Word)) : Prop where
  done : t.cpl.done = s.cpl.done ++ l.mapIdx fun i h => h.1.completion h.2.1 h.2.2 (s.arrivals + i)
  arrivals : t.arrivals = s.arrivals + l.length
  pends : ∀ w, s.Pends w → (∀ h ∈ l, h.1.id ≠ w.id) → t.Pends w
  notAwaited : ∀ id, s.NotAwaited id → t.NotAwaited id
  kept : DoneKept s t
  handed : ∀ h ∈ l, t.entryState h.1.id = some .done

theorem Hands.inOrder {l : List (OrtEntry × Status × Word)} (h : Hands s t l) : HandedInOrder s t l := ⟨_, h.done⟩

/-- What was handed over from a state on, which another with the same completions has come before. -/
theorem Hands.inOrder_of {l : List (OrtEntry × Status × Word)} (h : Hands t u l) (hd : t.cpl.done = s.cpl.done) :
    HandedInOrder s u l := ⟨_, by rw [← hd]; exact h.done⟩

/-- A step that leaves the table, the completions and the count of arrivals. -/
theorem Hands.of_eq (ho : t.ort = s.ort) (hd : t.cpl.done = s.cpl.done) (ha : t.arrivals = s.arrivals) : Hands s t [] where
  done := by simp [hd]
  arrivals := by simp [ha]
  pends _ hw _ := pends_congr ho hw
  notAwaited _ hn := by simpa only [State.NotAwaited, ho] using hn
  kept := .of_ort ho
  handed := by simp

theorem Hands.refl (s : State) : Hands s s [] := .of_eq rfl rfl rfl

theorem Hands.trans {l m : List (OrtEntry × Status × Word)} (h : Hands s t l) (k : Hands t u m) : Hands s u (l ++ m) where
  done := by
    rw [k.done, h.done, h.arrivals, List.append_assoc, List.mapIdx_append]
    simp only [Nat.add_assoc, Nat.add_comm l.length]
  arrivals := by rw [k.arrivals, h.arrivals, List.length_append, Nat.add_assoc]
  pends w hw hl := k.pends w (h.pends w hw fun x hx => hl x (List.mem_append_left _ hx))
    fun x hx => hl x (List.mem_append_right _ hx)
  notAwaited id hn := k.notAwaited id (h.notAwaited id hn)
  kept := h.kept.trans k.kept
  handed x hx := (List.mem_append.mp hx).elim (fun hx => k.kept _ (h.handed x hx)) (k.handed x)

theorem Hands.trans_nil {l : List (OrtEntry × Status × Word)} (h : Hands s t l) (k : Hands t u []) : Hands s u l := by
  simpa using h.trans k

theorem Hands.nil_trans {l : List (OrtEntry × Status × Word)} (h : Hands s t []) (k : Hands t u l) : Hands s u l := h.trans k

theorem setOrtState_hands {st : OrtState} (hst : st ≠ .done) (s : State) (id : Nat) : Hands s (s.setOrtState id st) [] where
  done := by simp [State.setOrtState, State.setOrt]
  arrivals := rfl
  pends _ hw _ := setOrtState_pends hst hw
  notAwaited _ hn := setOrtState_notAwaited id st hn
  kept := setOrtState_doneKept s id st
  handed := by simp

/-- The hand-over of an entry that pends is one record. -/
theorem handOver_hands (h : s.Pends w) (st : Status) (r : Word) : Hands s (s.handOver w.id st r) [(w, st, r)] where
  done := by rw [handOver_of_pends h]; simp
  arrivals := by rw [handOver_of_pends h]; rfl
  pends v hv hne := by
    rw [handOver_of_pends h]
    exact pends_congr rfl (setOrtState_pends_ne (st := .done) (hne _ (List.mem_singleton_self _)) hv)
  notAwaited id hn := by
    rw [handOver_of_pends h]
    exact setOrtState_notAwaited w.id .done hn
  kept := handOver_doneKept s w.id st r
  handed x hx := by
    obtain ⟨⟨_, _, hf⟩, _⟩ := h
    obtain rfl := List.mem_singleton.mp hx
    exact handOver_entryState hf st r

/-- Requests that pend, handed over one after another with one status (R148). -/
theorem handAll_hands {l : List OrtEntry} (hn : (l.map (·.id)).Nodup) (hp : ∀ w ∈ l, s.Pends w) (st : Status) :
    Hands s (s.handAll (l.map (·.id)) st) (l.map fun w => (w, st, 0)) := by
  induction l generalizing s with
  | nil => exact .refl s
  | cons w l ih =>
    rw [List.map_cons, List.nodup_cons] at hn
    have h := handOver_hands (hp w (List.mem_cons_self ..)) st 0
    refine h.trans (ih hn.2 fun v hv => h.pends v (hp v (List.mem_cons_of_mem _ hv)) fun x hx => ?_)
    obtain rfl := List.mem_singleton.mp hx
    exact fun he => hn.1 (List.mem_map.mpr ⟨v, hv, he.symm⟩)

theorem Hands.handOver (h : Hands s t []) (hw : s.Pends w) (st : Status) (r : Word) :
    Hands s (t.handOver w.id st r) [(w, st, r)] := h.nil_trans (handOver_hands (h.pends w hw (by simp)) st r)

theorem Hands.handAll {m : List OrtEntry} (h : Hands s t []) (hn : (m.map (·.id)).Nodup) (hm : ∀ w ∈ m, s.Pends w)
    (st : Status) : Hands s (t.handAll (m.map (·.id)) st) (m.map fun w => (w, st, 0)) :=
  h.nil_trans (handAll_hands hn (fun w hw => h.pends w (hm w hw) (by simp)) st)

/-- As `handAll_hands`, an entry already DONE, which no ABORT awaits, standing among the requests as often as it may. -/
theorem handAll_hands_of_done {a : Nat} {ids : List Nat} {l : List OrtEntry} (hl : l.map (·.id) = ids.filter (· ≠ a))
    (hn : (l.map (·.id)).Nodup) (hp : ∀ w ∈ l, s.Pends w) (hd : s.entryState a = some .done) (ha : s.NotAwaited a)
    (st : Status) : Hands s (s.handAll ids st) (l.map fun w => (w, st, 0)) := by
  induction ids generalizing s l with
  | nil =>
    obtain rfl := List.map_eq_nil_iff.mp hl
    exact .refl s
  | cons i ids ih =>
    change Hands s ((s.handOver i st 0).handAll ids st) _
    by_cases hi : i = a
    · subst hi
      rw [handOver_of_done hd ha]
      exact ih (by simpa using hl) hn hp hd ha
    · rw [List.filter_cons_of_pos (by simpa using hi)] at hl
      obtain ⟨w, m, rfl, rfl, hm⟩ := List.map_eq_cons_iff.mp hl
      rw [List.map_cons, List.nodup_cons] at hn
      have h := handOver_hands (hp w (List.mem_cons_self ..)) st 0
      refine h.trans (ih hm hn.2 (fun v hv => h.pends v (hp v (List.mem_cons_of_mem _ hv)) fun x hx => ?_)
        (h.kept _ hd) (h.notAwaited _ ha))
      obtain rfl := List.mem_singleton.mp hx
      exact fun he => hn.1 (List.mem_map.mpr ⟨v, hv, he.symm⟩)

end Sys2Proof.Machine
end

section
/-! PROOFS. What the operations the engines of a port share make of the port, which groups and events they leave, and what they
hand over: an equation or a rule per operation, said once. -/

namespace Sys2Proof.Machine

/- Each proof waits for the kernel; checked one after another, they need no more threads than the rest of the package. -/
set_option Elab.async false

variable {p : PortId} {s t u : State} {w : OrtEntry}

/-! ### Groups and events that stay -/

/-- The groups and the Event Pending List are as they were. -/
structure ListsKept (s t : State) : Prop where
  groups : t.groups = s.groups
  events : t.cpl.events = s.cpl.events

theorem ListsKept.refl (s : State) : ListsKept s s := ⟨rfl, rfl⟩

theorem ListsKept.trans (h : ListsKept s t) (k : ListsKept t u) : ListsKept s u :=
  ⟨k.groups.trans h.groups, k.events.trans h.events⟩

theorem ListsKept.groupsKept (h : ListsKept s t) : GroupsKept s t := fun g => State.group_congr h.groups g

theorem modPort_lists (h : ListsKept s t) (f : Port → Port) : ListsKept s (t.modPort p f) := ⟨h.groups, h.events⟩

theorem setOrtState_lists (h : ListsKept s t) (id : Nat) (st : OrtState) : ListsKept s (t.setOrtState id st) :=
  ⟨h.groups, h.events⟩

theorem disown_lists (h : ListsKept s t) (of : Access → Option PortId) (q : PortId) : ListsKept s (t.disown of q) :=
  ⟨h.groups, h.events⟩

theorem handOver_lists (h : ListsKept s t) (id : Nat) (st : Status) (r : Word) : ListsKept s (t.handOver id st r) :=
  h.trans ⟨handOver_groups t id st r, handOver_events t id st r⟩

theorem foldl_lists {α : Type} {f : State → α → State} (hf : ∀ u a, ListsKept u (f u a)) (l : List α)
    (h : ListsKept s t) : ListsKept s (l.foldl f t) := by
  induction l generalizing t with
  | nil => exact h
  | cons a l ih => exact ih (h.trans (hf t a))

theorem handAll_lists (h : ListsKept s t) (ids : List Nat) (st : Status) : ListsKept s (t.handAll ids st) :=
  foldl_lists (fun u id => handOver_lists (.refl u) id st 0) ids h

theorem ite_lists {c : Prop} [Decidable c] {a b : State} (ha : ListsKept s a) (hb : ListsKept s b) :
    ListsKept s (if c then a else b) := by
  split
  · exact ha
  · exact hb

theorem discardSample_lists (h : ListsKept s t) : ListsKept s (t.discardSample p) := ⟨h.groups, h.events⟩

theorem clearTransfer_lists (h : ListsKept s t) : ListsKept s (t.clearTransfer p) := ⟨h.groups, h.events⟩

theorem endActive_lists (h : ListsKept s t) (st : Status) (r : Word) : ListsKept s (t.endActive p st r) := by
  unfold State.endActive
  split
  · exact h
  · exact handOver_lists (modPort_lists (clearTransfer_lists h) _) _ _ _

theorem deferActive_lists (h : ListsKept s t) (e : Ending) : ListsKept s (t.deferActive p e) := by
  unfold State.deferActive
  split
  · exact h
  · exact disown_lists (modPort_lists (clearTransfer_lists h) _) _ _

theorem returnActive_lists (h : ListsKept s t) : ListsKept s (t.returnActive p) := by
  unfold State.returnActive
  split
  · exact h
  · exact disown_lists (setOrtState_lists (clearTransfer_lists h) _ _) _ _

theorem endTransfer_lists (h : ListsKept s t) (st : Status) (r : Word) : ListsKept s (t.endTransfer p st r) :=
  ite_lists (deferActive_lists h _) (endActive_lists h _ _)

theorem endAbandoned_lists (h : ListsKept s t) : ListsKept s (t.endAbandoned p) := by
  unfold State.endAbandoned
  split
  · exact h
  · exact endActive_lists h _ _

theorem stopActive_lists (h : ListsKept s t) (b i : Bool) : ListsKept s (t.stopActive p b i) := by
  unfold State.stopActive
  dsimp only
  split
  · exact ite_lists (ite_lists (deferActive_lists h _) (endAbandoned_lists (disown_lists h _ _))) (endTransfer_lists h _ _)
  · refine ite_lists (endTransfer_lists h _ _) (ite_lists (deferActive_lists ?_ _) (returnActive_lists h))
    cases (t.port p).te.transfer with
    | none => exact h
    | some a => exact setOrtState_lists h a.ort .queued

theorem handQueue_lists (h : ListsKept s t) (st : Status) : ListsKept s (t.handQueue p st) :=
  handAll_lists (modPort_lists h _) _ _

theorem handEnded_lists (h : ListsKept s t) (b : Bool) : ListsKept s (t.handEnded p b) := by
  refine foldl_lists (fun u e => ?_) _ (modPort_lists h _)
  split
  · exact handOver_lists (.refl u) _ _ _
  · exact .refl u

theorem endSlot_lists (h : ListsKept s t) (of : ControlKind → Status) (r : Word) : ListsKept s (t.endSlot p of r) := by
  unfold State.endSlot
  split
  · exact h
  · exact handOver_lists (modPort_lists h _) _ _ _

theorem stopSequence_lists (h : ListsKept s t) : ListsKept s (t.stopSequence p) := ⟨h.groups, h.events⟩

theorem idleWithoutLink_lists (h : ListsKept s t) : ListsKept s (t.idleWithoutLink p) := stopSequence_lists (modPort_lists h _)

/-! ### Leaving a group (R22) -/

theorem GroupsLeft.of_groups (h : GroupsLeft p s t) (hu : u.groups = t.groups) : GroupsLeft p s u := fun g =>
  (State.group_congr hu g).trans (h g)

theorem GroupsLeft.after (h : GroupsLeft p t u) (hs : t.groups = s.groups) : GroupsLeft p s u := fun g => by
  rw [h g, State.group_congr hs g]

theorem leave_groupsLeft (s : State) (p : PortId) : GroupsLeft p s (s.leave p) := fun g => by
  simp only [State.leave, State.group_modPort]
  simp [State.group, Group.without]

/-! ### Posts (R150) -/

theorem post_posted (s : State) (q : PortId) (k : EventKind) (d : Word) : Posted s (s.post q k d) q k d := by
  have hany : (s.cpl.events.any fun e => e.port = q ∧ e.kind = k) = true ↔ ∃ e ∈ s.cpl.events, e.port = q ∧ e.kind = k := by
    simp only [List.any_eq_true, decide_eq_true_eq]
  unfold Posted State.post
  by_cases h : ∃ e ∈ s.cpl.events, e.port = q ∧ e.kind = k
  · rw [if_pos h, if_pos (hany.mpr h)]
    refine List.map_congr_left fun e _ => ?_
    split
    · rename_i hk
      rw [Event.again, hk.2]
    · rfl
  · rw [if_neg h, if_neg fun hn => h (hany.mp hn)]

theorem Posted.of_events {q : PortId} {k : EventKind} {d : Word} (h : Posted s t q k d) (hu : u.cpl.events = t.cpl.events) :
    Posted s u q k d := hu.trans h

theorem Posted.after {q : PortId} {k : EventKind} {d : Word} (h : Posted t u q k d) (he : t.cpl.events = s.cpl.events)
    (ht : t.time = s.time) (ha : t.arrivals = s.arrivals) : Posted s u q k d := by
  simpa only [Posted, he, State.timebase, State.micros, ht, ha] using h

@[simp] theorem post_port (s : State) (q : PortId) (k : EventKind) (d : Word) (r : PortId) :
    (s.post q k d).port r = s.port r := State.port_congr (post_ports s q k d) r

@[simp] theorem post_groups (s : State) (q : PortId) (k : EventKind) (d : Word) : (s.post q k d).groups = s.groups := by
  unfold State.post
  split <;> rfl

@[simp] theorem post_bus (s : State) (q : PortId) (k : EventKind) (d : Word) : (s.post q k d).bus = s.bus := by
  unfold State.post
  split <;> rfl

@[simp] theorem post_ort (s : State) (q : PortId) (k : EventKind) (d : Word) : (s.post q k d).ort = s.ort := by
  unfold State.post
  split <;> rfl

@[simp] theorem post_done (s : State) (q : PortId) (k : EventKind) (d : Word) : (s.post q k d).cpl.done = s.cpl.done := by
  unfold State.post
  split <;> rfl

@[simp] theorem post_time (s : State) (q : PortId) (k : EventKind) (d : Word) : (s.post q k d).time = s.time :=
  congrArg Control.time (post_control s q k d)

/-! ### Ports after an operation -/

@[simp] theorem handAll_port (s : State) (ids : List Nat) (st : Status) (q : PortId) :
    (s.handAll ids st).port q = s.port q := by
  induction ids generalizing s with
  | nil => rfl
  | cons i ids ih => exact (ih _).trans (handOver_port s i st 0 q)

@[simp] theorem leave_port (s : State) (p : PortId) : (s.leave p).port p = { s.port p with sched := none } :=
  State.port_modPort_self _ p _

@[simp] theorem discardSample_port (s : State) (p : PortId) :
    (s.discardSample p).port p = { s.port p with cyc := (s.port p).cyc.discarded } := by
  unfold State.discardSample
  rw [State.port_unwantSample, State.port_modCyc_self]
  rfl

@[simp] theorem toReady_port (s : State) (p : PortId) : (s.toReady p).port p = { s.port p with
    state := .ready, sched := none, stopPending := false, cyc := (s.port p).cyc.discarded } := by
  unfold State.toReady
  rw [State.port_modPort_self, discardSample_port, leave_port]

/-- A sequencer in STOPPED (R42). -/
def Sequencer.ended (q : Sequencer) : Sequencer :=
  { q with phase := .stopped, ladder := [], attempts := 0, backoff := none, stopRequested := false }

@[simp] theorem stopSequence_port (s : State) (p : PortId) :
    (s.stopSequence p).port p = { s.port p with seq := (s.port p).seq.ended } := State.port_modSeq_self s p _

@[simp] theorem startSequence_port (s : State) (p : PortId) (m : SeqMode) :
    (s.startSequence p m).port p = { s.port p with
      seq := { (s.port p).seq with
        phase := .lineWait, mode := m, ladder := [], attempts := 0, backoff := none, stopRequested := false } } :=
  State.port_modSeq_self s p _

/-- The control slot handed over (R25). -/
def Port.slotEnded (x : Port) : Port :=
  { x with slot := none, stopPending := if x.slot.isSome then false else x.stopPending }

@[simp] theorem endSlot_port (s : State) (p : PortId) (of : ControlKind → Status) (r : Word) :
    (s.endSlot p of r).port p = (s.port p).slotEnded := by
  unfold State.endSlot
  split
  · rename_i h
    simp only [Port.slotEnded, h, Option.isSome_none, Bool.false_eq_true, if_false]
    rw [← h]
  · rename_i k id h
    rw [handOver_port, State.port_modPort_self]
    simp [Port.slotEnded, h]

/-- The Transfer Engine in NONE, and the queue as given (R101). -/
def Port.transferOver (x : Port) (queue : List Transfer) : Port :=
  { x with
    te := { TransferEngine.reset with lastToggle := x.te.lastToggle }, xclaims := x.xclaims.filter (·.isReport), queue := queue }

theorem clearTransfer_port (s : State) (p : PortId) :
    (s.clearTransfer p).port p = (s.port p).transferOver (s.port p).queue := State.port_modPort_self s p _

@[simp] theorem handQueue_port (s : State) (p : PortId) (st : Status) :
    (s.handQueue p st).port p = { s.port p with queue := (s.port p).queue.filter fun t => t.ending.isSome } := by
  unfold State.handQueue
  rw [handAll_port, State.port_modPort_self]

section transfer

variable {b : Transfer}

theorem endActive_port (h : (s.port p).te.transfer = some b) (st : Status) (r : Word) :
    (s.endActive p st r).port p = (s.port p).transferOver ((s.port p).queue.filter fun u => u.ort ≠ b.ort) := by
  simp only [State.endActive, h]
  rw [handOver_port, State.port_modPort_self, clearTransfer_port]
  rfl

theorem deferActive_port (h : (s.port p).te.transfer = some b) (e : Ending) :
    (s.deferActive p e).port p = (s.port p).transferOver
      ((s.port p).queue.map fun u => if u.ort = b.ort then { u with ending := some e } else u) := by
  simp only [State.deferActive, h]
  rw [State.port_disown, State.port_modPort_self, clearTransfer_port]
  rfl

theorem returnActive_port (h : (s.port p).te.transfer = some b) :
    (s.returnActive p).port p = (s.port p).transferOver (s.port p).queue := by
  simp only [State.returnActive, h]
  rw [State.port_disown, State.port_setOrtState, clearTransfer_port]

/-- The active transfer is handed over, where it pends. -/
theorem endActive_hands (h : (s.port p).te.transfer = some b) (hw : w.id = b.ort) (hp : s.Pends w) (st : Status) (r : Word) :
    Hands s (s.endActive p st r) [(w, st, r)] := by
  simp only [State.endActive, h, ← hw]
  refine Hands.handOver ?_ hp st r
  exact .of_eq rfl rfl rfl

theorem deferActive_hands (s : State) (p : PortId) (e : Ending) : Hands s (s.deferActive p e) [] := by
  unfold State.deferActive
  split
  · exact .refl s
  · exact .of_eq rfl rfl rfl

theorem returnActive_hands (s : State) (p : PortId) : Hands s (s.returnActive p) [] := by
  unfold State.returnActive
  split
  · exact .refl s
  · rename_i b _
    have h : Hands s (s.setOrtState b.ort .queued) [] := setOrtState_hands (by decide) s b.ort
    exact h.trans_nil (.of_eq rfl rfl rfl)

theorem endActive_of_none (h : (s.port p).te.transfer = none) (st : Status) (r : Word) : s.endActive p st r = s := by
  simp [State.endActive, h]

theorem deferActive_of_none (h : (s.port p).te.transfer = none) (e : Ending) : s.deferActive p e = s := by
  simp [State.deferActive, h]

theorem returnActive_of_none (h : (s.port p).te.transfer = none) : s.returnActive p = s := by
  simp [State.returnActive, h]

end transfer

/-- The occupant of the control slot is handed over, where it pends (R25). -/
theorem endSlot_hands {slot : List OrtEntry} (hs : slot.map (·.id) = ((s.port p).slot.map (·.2)).toList)
    (hp : ∀ w ∈ slot, s.Pends w) (of : ControlKind → Status) (r : Word) {st : Status}
    (hst : ∀ k id, (s.port p).slot = some (k, id) → of k = st) :
    Hands s (s.endSlot p of r) (slot.map fun n => (n, st, r)) := by
  unfold State.endSlot
  split
  · rename_i h
    rw [h] at hs
    obtain rfl := List.map_eq_nil_iff.mp hs
    exact .refl s
  · rename_i k id h
    rw [h] at hs
    obtain ⟨w, rfl, rfl⟩ := List.map_eq_singleton_iff.mp hs
    rw [hst k _ h]
    refine Hands.handOver ?_ (hp w (List.mem_singleton_self w)) st r
    exact .of_eq rfl rfl rfl

theorem handQueue_hands {behind : List OrtEntry} (hb : behind.map (·.id) = (s.port p).queuedIds)
    (hn : (behind.map (·.id)).Nodup) (hp : ∀ w ∈ behind, s.Pends w) (st : Status) :
    Hands s (s.handQueue p st) (behind.map fun n => (n, st, 0)) := by
  unfold State.handQueue
  unfold Port.queuedIds at hb
  dsimp only
  rw [← hb]
  refine Hands.handAll ?_ hn hp st
  exact .of_eq rfl rfl rfl

theorem flightOf_congr {q : PortId} {of : Access → Option PortId} (h : t.bus.flight = s.bus.flight) :
    t.flightOf of q = s.flightOf of q := by
  simp only [State.flightOf, h]

end Sys2Proof.Machine
end

section
/-! PROOFS. Bring-ups and recoveries that end without a link (R51, R52, R59), and the end of the wake pulse. -/

namespace Sys2Proof.Machine

/- Each proof waits for the kernel; checked one after another, they need no more threads than the rest of the package. -/
set_option Elab.async false

variable {p : PortId} {s s' t : State}

/-! ### What a claim says of a state, of which the line has moved on before it -/

/-- The port with its line, the level on RXD and its counters replaced: what an exchange changes before its outcome is known. -/
def Port.lined (x : Port) (l : Framer) (r : Bool) (k : Counters) : Port := { x with lf := l, rxd := r, counters := k }

section lined

variable {l : Framer} {r : Bool} {k : Counters}

theorem LinklessIdle.of_lined (h : LinklessIdle p (s.withPort p ((s.port p).lined l r k)) t) : LinklessIdle p s t := by
  unfold LinklessIdle at h ⊢
  rw [port_withPort] at h
  exact h

theorem BringUpEnds.of_lined {st : Status} {v : Word} (h : BringUpEnds p st v (s.withPort p ((s.port p).lined l r k)) t) :
    BringUpEnds p st v s t := by
  unfold BringUpEnds at h ⊢
  obtain ⟨hi, hk⟩ := h
  rw [port_withPort] at hk
  exact ⟨hi.of_lined, hk⟩

theorem SequenceFails.of_lined {v : Word} (h : SequenceFails p v (s.withPort p ((s.port p).lined l r k)) t) :
    SequenceFails p v s t := by
  unfold SequenceFails at h ⊢
  rw [port_withPort] at h
  change (match (s.port p).seq.mode with
    | .bringUp => BringUpEnds p .bringupFailed v _ t
    | .recovery => RecoveryFails p v _ t) at h
  cases hm : (s.port p).seq.mode with
  | bringUp => rw [hm] at h; exact h.of_lined
  | recovery =>
    rw [hm] at h
    unfold RecoveryFails at h ⊢
    obtain ⟨hi, hk⟩ := h
    rw [port_withPort] at hk
    exact ⟨hi.of_lined, hk⟩

end lined

/-! ### The port in IDLE without a link -/

@[simp] theorem idleWithoutLink_port (s : State) (p : PortId) : (s.idleWithoutLink p).port p = { s.port p with
    link := none, state := .idle, counters := { (s.port p).counters with misses := 0 }, seq := (s.port p).seq.ended } := by
  unfold State.idleWithoutLink
  rw [stopSequence_port, State.port_modPort_self]

theorem idleWithoutLink_hands (s : State) (p : PortId) : Hands s (s.idleWithoutLink p) [] := .of_eq rfl rfl rfl

theorem endSlot_doneKept (s : State) (p : PortId) (of : ControlKind → Status) (r : Word) : DoneKept s (s.endSlot p of r) := by
  unfold State.endSlot
  split
  · exact .refl s
  · refine DoneKept.trans ?_ (handOver_doneKept _ _ _ _)
    exact .of_ort rfl

theorem handQueue_doneKept (s : State) (p : PortId) (st : Status) : DoneKept s (s.handQueue p st) := by
  refine DoneKept.trans ?_ (handAll_doneKept _ _ _)
  exact .of_ort rfl

/-- The occupant of the control slot is DONE, where it stood in the table. -/
theorem endSlot_entryState {k : ControlKind} {id : Nat} {e : OrtEntry} (h : (s.port p).slot = some (k, id))
    (he : s.ortFind id = some e) (of : ControlKind → Status) (r : Word) :
    (s.endSlot p of r).entryState id = some .done := by
  unfold State.endSlot
  rw [h]
  exact handOver_entryState (s := s.modPort p fun x => { x with slot := none, stopPending := false }) he _ _

theorem modPort_pends {w : OrtEntry} (f : Port → Port) (h : s.Pends w) : (s.modPort p f).Pends w := pends_congr rfl h

/-- A bring-up ends without a link, its BRING_UP handed over with `st` and `r` (R51, R52). -/
theorem bringUpEnds_of_idleWithoutLink (s : State) (p : PortId) (st : Status) (r : Word) :
    BringUpEnds p st r s (((s.idleWithoutLink p).endSlot p (fun _ => st) r).handQueue p .noLink) := by
  have hl : ListsKept s (((s.idleWithoutLink p).endSlot p (fun _ => st) r).handQueue p .noLink) :=
    handQueue_lists (endSlot_lists (idleWithoutLink_lists (.refl s)) _ _) _
  unfold BringUpEnds LinklessIdle
  simp only [handQueue_port, endSlot_port, idleWithoutLink_port, Port.slotEnded, Sequencer.ended, true_and]
  refine ⟨hl.groupsKept, hl.events, fun k id hs e he => ?_, fun w queued hw hq hn ho => ?_⟩
  · exact handQueue_doneKept _ p _ id (endSlot_entryState (s := s.idleWithoutLink p) (k := k)
      (by rw [idleWithoutLink_port]; exact hs) he _ _)
  · have hslot : Hands s ((s.idleWithoutLink p).endSlot p (fun _ => st) r) [(w, st, r)] := by
      refine (idleWithoutLink_hands s p).nil_trans (endSlot_hands (slot := [w]) ?_ (fun v hv => ?_) _ r fun _ _ _ => rfl)
      · simp [hw]
      · obtain rfl := List.mem_singleton.mp hv
        exact pends_congr rfl (ho.pends (List.mem_cons_self ..))
    refine (hslot.trans (handQueue_hands ?_ ?_ (fun v hv => ?_) .noLink)).inOrder
    · rw [hq, endSlot_port, idleWithoutLink_port]
      rfl
    · rw [hq]
      exact (List.nodup_cons.mp hn).2
    · refine hslot.pends v (ho.pends (List.mem_cons_of_mem _ hv)) fun x hx => ?_
      obtain rfl := List.mem_singleton.mp hx
      exact fun he => (List.nodup_cons.mp hn).1 (hq ▸ List.mem_map.mpr ⟨v, hv, he.symm⟩)

theorem abortSequence_bringUpEnds (s : State) (p : PortId) : BringUpEnds p .aborted 0 s (s.abortSequence p) :=
  bringUpEnds_of_idleWithoutLink s p .aborted 0

@[simp] theorem abortSequence_lf (s : State) (p : PortId) : ((s.abortSequence p).port p).lf = (s.port p).lf := by
  unfold State.abortSequence
  simp only [handQueue_port, endSlot_port, idleWithoutLink_port, Port.slotEnded]

/-- The reasons of R48 as the part counts and as the claims write them. -/
theorem failSequence_fails (s : State) (p : PortId) (n : Nat) :
    SequenceFails p (BitVec.ofNat 32 n) s (s.failSequence p n) := by
  unfold SequenceFails State.failSequence
  cases (s.port p).seq.mode with
  | bringUp => exact bringUpEnds_of_idleWithoutLink s p .bringupFailed _
  | recovery =>
    dsimp only
    have hevents := post_posted s p .linkDown (BitVec.ofNat 32 n)
    have hort := post_ort s p .linkDown (BitVec.ofNat 32 n)
    have hdone := post_done s p .linkDown (BitVec.ofNat 32 n)
    have hport := post_port s p .linkDown (BitVec.ofNat 32 n) p
    have hgroups := post_groups s p .linkDown (BitVec.ofNat 32 n)
    generalize s.post p .linkDown (BitVec.ofNat 32 n) = v at hevents hort hdone hport hgroups
    generalize hu : (v.leave p).modPort p (fun x => { x with resume := false }) = u
    have hup : u.port p = { s.port p with sched := none, resume := false } := by
      rw [← hu, State.port_modPort_self, leave_port, hport]
    have hl : ListsKept u ((u.idleWithoutLink p).handQueue p .linkLost) :=
      handQueue_lists (idleWithoutLink_lists (.refl u)) _
    unfold RecoveryFails LinklessIdle
    simp only [handQueue_port, idleWithoutLink_port, hup, Sequencer.ended, true_and]
    refine ⟨?_, ?_, fun queued hq hn ho => ?_⟩
    · refine ((leave_groupsLeft v p).of_groups ?_).after hgroups
      rw [hl.groups, ← hu]
      rfl
    · refine hevents.of_events ?_
      rw [hl.events, ← hu]
      rfl
    · have hands : Hands u ((u.idleWithoutLink p).handQueue p .linkLost) (queued.map fun n => (n, .linkLost, 0)) := by
        refine (idleWithoutLink_hands u p).nil_trans (handQueue_hands ?_ ?_ (fun w hw => ?_) .linkLost)
        · rw [hq, idleWithoutLink_port, hup]
          rfl
        · rwa [hq]
        · refine pends_congr ?_ (ho.pends hw)
          rw [← hort, ← hu]
          rfl
      refine hands.inOrder_of ?_
      rw [← hdone, ← hu]
      rfl

/-! ### The wake pulse (R18, R45, R52) -/

/-- What a hand-over makes of the Line Framer at `now` (R10). -/
def Framer.taking (f : Framer) (h : Handed) (now : Nat) : Framer :=
  if f.state = .guard then { f with held := some h } else { f with state := .waiting, held := some h, waitSince := now }

theorem handToLine_withPort (s : State) (p : PortId) (y : Port) (h : Handed) :
    (s.withPort p y).handToLine p h = s.withPort p { y with lf := y.lf.taking h s.time } := modLf_withPort s p y _

theorem handIdentify_withPort (s : State) (p : PortId) (y : Port) : (s.withPort p y).handIdentify p = s.withPort p { y with
    lf := y.lf.taking (.frame (identifyFrame y.seq.rungSpeed)) s.time, seq := { y.seq with phase := .identify } } := by
  unfold State.handIdentify
  rw [port_withPort, handToLine_withPort, modSeq_withPort]

theorem wakeDominantEndDue_eq {n : Nat} (hs : (s.port p).lf.state = .waking) (hd : (s.port p).lf.txen = true)
    (ht : (s.port p).lf.timer = some n) : s.wakeDominantEndDue p = some n := by
  simp [State.wakeDominantEndDue, hs, hd, ht]

theorem quietTimeEndDue_eq {n : Nat} (hs : (s.port p).lf.state = .waking) (hd : (s.port p).lf.txen = false)
    (ht : (s.port p).lf.timer = some n) : s.quietTimeEndDue p = some n := by
  simp [State.quietTimeEndDue, hs, hd, ht]

/-- Settles O53. -/
theorem theWakePulseEnds : Obligations.TheWakePulseEnds := by
  intro p n s s' hs ht hreach x
  have hx : s'.port p = x := reaches_port hreach p
  refine ⟨fun hd => ?_, fun hd hw hn => ?_, fun hd hw hstop => ?_⟩
  · have hdue : s.wakeDominantEndDue p = some n := wakeDominantEndDue_eq hs hd ht
    change atInstant (s.wakeDominantEndDue p) (State.pulseSent p) s = _
    rw [hdue, atInstant_next _ hreach, pulseSent_eq, hx]
  · have hdue : s.quietTimeEndDue p = some n := quietTimeEndDue_eq hs hd ht
    change atInstant (s.quietTimeEndDue p) (State.pulseOver p) s = _
    rw [hdue, atInstant_next _ hreach]
    unfold State.pulseOver
    simp only [modLf_eq_withPort, port_withPort, hx, hw, hn, if_true, Bool.false_eq_true, if_false, handIdentify_withPort]
    rfl
  · have hdue : s.quietTimeEndDue p = some n := quietTimeEndDue_eq hs hd ht
    refine atInstant_completes rfl hdue hreach ?_
    have he : s'.pulseOver p = (s'.withPort p { x with lf := { x.lf with state := .free, timer := none } }).abortSequence p := by
      unfold State.pulseOver
      simp only [modLf_eq_withPort, port_withPort, hx, hw, hstop, if_true]
    refine ⟨⟨(pulseOver_at (.refl p s')).onlyPort, ?_⟩, ?_⟩
    · rw [he]
      refine BringUpEnds.of_lined (l := { x.lf with state := .free, timer := none }) (r := x.rxd) (k := x.counters) ?_
      rw [hx]
      exact abortSequence_bringUpEnds _ p
    · rw [he, abortSequence_lf, port_withPort]

end Sys2Proof.Machine
end

section
/-! PROOFS. The cycle of a start instant on a free line (R86 to R91, R99), and the end of the guard (R10, R16, R52, R89). -/

namespace Sys2Proof.Machine

/- Each proof waits for the kernel; checked one after another, they need no more threads than the rest of the package. -/
set_option Elab.async false

variable {p : PortId} {s s' t : State}

/-! ### The judgement (R86, R88, R91) -/

theorem judgeSample_eq (x : Port) : judgeSample x.cyc.lastGen x.cyc.sample = x.judged := by
  unfold Port.judged
  cases x.cyc.sample with
  | empty => rfl
  | reading => rfl
  | complete gen data torn =>
    cases torn with
    | true => rfl
    | false =>
      cases gen with
      | none => rfl
      | some g =>
        simp only [judgeSample, Bool.false_eq_true, if_false, Option.isSome_some, Bool.true_and, beq_iff_eq,
          eq_comm (a := some g)]

theorem cyclePayload_eq (x : Port) : cyclePayload x x.judged = x.sends := by
  unfold cyclePayload Port.sends
  cases x.judged with
  | none =>
    simp only [if_true]
    cases x.cyc.sample <;> rfl
  | some c => cases x.config.stalePolicy <;> cases x.cyc.lastData <;> rfl

theorem countJudgement_none (s : State) (p : PortId) :
    s.countJudgement p none = s.modCounters p fun k => { k with stales := 0 } := rfl

theorem accept_discarded (c : CycleEngine) : c.accept.discarded = match c.sample with
    | .complete (some g) data _ => { c.discarded with lastGen := some g, lastData := some data }
    | _ => c.discarded := by
  unfold CycleEngine.accept
  rcases c.sample with _ | _ | ⟨_ | g, data, b⟩ <;> rfl

/-- The judgement as the start instant makes it: the counts, the sample accepted, the sample discarded (R89). -/
def State.judge (p : PortId) (s : State) : State :=
  let j := (s.port p).judged
  let u := s.countJudgement p j
  (if j.isNone then u.modCyc p CycleEngine.accept else u).discardSample p

theorem countJudgement_port (s : State) (p : PortId) (j : Option StaleCause) :
    (s.countJudgement p j).port p = { s.port p with
      counters := if j = none then { (s.port p).counters with stales := 0 }
        else { (s.port p).counters with
          stales := min 255 ((s.port p).counters.stales + 1)
          staleCycles := satAdd (s.port p).counters.staleCycles 1 } } := by
  unfold State.countJudgement
  cases j with
  | none => exact State.port_modPort_self s p _
  | some c =>
    dsimp only
    split
    · rw [post_port]
      exact State.port_modPort_self s p _
    · exact State.port_modPort_self s p _

theorem judge_port (s : State) (p : PortId) : (s.judge p).port p = (s.port p).afterJudgement := by
  unfold State.judge Port.afterJudgement
  dsimp only
  rw [discardSample_port]
  cases h : (s.port p).judged with
  | none =>
    rw [Option.isNone_none, if_pos rfl, State.port_modCyc_self, countJudgement_port]
    dsimp only
    rw [accept_discarded]
    rcases (s.port p).cyc.sample with _ | _ | ⟨_ | g, data, b⟩ <;> rfl
  | some c =>
    rw [Option.isNone_some, if_neg (by decide), countJudgement_port]

theorem countJudgement_staleReported (s : State) (p : PortId) :
    StaleReported p (s.port p) s (s.countJudgement p (s.port p).judged) := by
  unfold StaleReported State.countJudgement
  cases h : (s.port p).judged with
  | none => rfl
  | some c =>
    dsimp only
    have hiff : (decide ((s.port p).counters.stales < min 255 ((s.port p).counters.stales + 1)) &&
        min 255 ((s.port p).counters.stales + 1) == (s.port p).config.staleLimit) = true ↔
        (s.port p).counters.stales < 255 ∧ (s.port p).counters.stales + 1 = (s.port p).config.staleLimit := by
      rw [Bool.and_eq_true, decide_eq_true_eq, beq_iff_eq]
      omega
    by_cases hr : (s.port p).counters.stales < 255 ∧ (s.port p).counters.stales + 1 = (s.port p).config.staleLimit
    · rw [if_pos hr, if_pos (hiff.mpr hr)]
      refine ⟨s.arrivals, ?_⟩
      exact post_posted _ p .outputStale _
    · rw [if_neg hr, if_neg (fun h => hr (hiff.mp h))]
      rfl

theorem StaleReported.of_events {x : Port} {u : State} (h : StaleReported p x s t) (hu : u.cpl.events = t.cpl.events) :
    StaleReported p x s u := by
  simpa only [StaleReported, PostedLater, Posted, hu] using h

theorem judge_events (s : State) (p : PortId) :
    (s.judge p).cpl.events = (s.countJudgement p (s.port p).judged).cpl.events := by
  unfold State.judge
  dsimp only
  split <;> rfl

theorem countJudgement_hands (s : State) (p : PortId) (j : Option StaleCause) :
    (s.countJudgement p j).ort = s.ort ∧ (s.countJudgement p j).cpl.done = s.cpl.done ∧
      (s.countJudgement p j).groups = s.groups := by
  unfold State.countJudgement
  cases j with
  | none => exact ⟨rfl, rfl, rfl⟩
  | some c =>
    dsimp only
    split
    · simp only [post_ort, post_done, post_groups]
      exact ⟨rfl, rfl, rfl⟩
    · exact ⟨rfl, rfl, rfl⟩

/-- The judgement hands nothing over, and leaves the groups. -/
theorem judge_hands (s : State) (p : PortId) :
    (s.judge p).ort = s.ort ∧ (s.judge p).cpl.done = s.cpl.done ∧ (s.judge p).groups = s.groups := by
  obtain ⟨ho, hd, hg⟩ := countJudgement_hands s p (s.port p).judged
  unfold State.judge
  dsimp only
  split <;> simp [State.discardSample, ho, hd, hg]

theorem judge_control (s : State) (p : PortId) : (s.judge p).control = s.control := by
  unfold State.judge
  dsimp only
  exact (discardSample_at (ite_at (modCyc_at (countJudgement_at (.refl p s) _) _) (countJudgement_at (.refl p s) _))).control

/-! ### A stop that waited (R98, R99) -/

theorem finishStop_port (s : State) (p : PortId) : (s.finishStop p).port p = (s.port p).stopped := by
  have h : ((s.toReady p).modPort p fun x => { x with slot := none }).port p = (s.port p).stopped := by
    rw [State.port_modPort_self, toReady_port]
    rfl
  unfold State.finishStop
  dsimp only
  split
  · rw [handOver_port, h]
  · exact h

theorem finishStop_lists (s : State) (p : PortId) :
    (s.finishStop p).groups = (s.leave p).groups ∧ (s.finishStop p).cpl.events = s.cpl.events := by
  unfold State.finishStop
  dsimp only
  split
  · rw [handOver_groups, handOver_events]
    exact ⟨rfl, rfl⟩
  · exact ⟨rfl, rfl⟩

theorem toReady_hands (s : State) (p : PortId) : Hands s (s.toReady p) [] :=
  .of_eq (by simp [State.toReady, State.discardSample]) (by simp [State.toReady, State.discardSample])
    (by simp [State.toReady, State.discardSample])

theorem finishStop_hands {k : ControlKind} {w : OrtEntry} (h : (s.port p).slot = some (k, w.id)) (hw : s.Pends w) :
    Hands s (s.finishStop p) [(w, .ok, 0)] := by
  unfold State.finishStop
  dsimp only
  rw [h]
  refine Hands.handOver ?_ hw .ok 0
  exact (toReady_hands s p).trans_nil (.of_eq rfl rfl rfl)

theorem cycleEnds_eq (s : State) (p : PortId) : s.cycleEnds p =
    if (s.port p).state = .cyclic ∧ (s.port p).stopWaits = true ∧ (s.port p).cyc.busy = false then s.finishStop p else s := by
  unfold State.cycleEnds
  simp only [Bool.and_eq_true, decide_eq_true_eq, Bool.not_eq_true', and_assoc]

/-! ### The cycle (R88, R89) -/

/-- The cycle of a start instant: the judgement, then the hand-over of a frame or the end of the cycle. -/
theorem runCycle_eq (s : State) (p : PortId) (n : Word) : s.runCycle p n = match (s.port p).sends, (s.port p).link with
    | some (payload, stale), some l => ((s.judge p).handToLine p (.frame (cyclicFrame l payload stale))).modCyc p fun c =>
        { c with underWay := some n }
    | _, _ => (s.judge p).cycleEnds p := by
  unfold State.runCycle
  dsimp only
  rw [judgeSample_eq, cyclePayload_eq]
  rfl

/-- The judgement leaves nothing of a sampling under way: the cycle ends, but for an exchange of an earlier one. -/
theorem afterJudgement_busy (x : Port) : x.afterJudgement.cyc.busy = x.cyc.underWay.isSome := by
  unfold Port.afterJudgement
  dsimp only
  split <;> simp [CycleEngine.busy, CycleEngine.discarded]

theorem runCycle_cycleRuns {l : Link} (hc : (s.port p).state = .cyclic) (hl : (s.port p).link = some l)
    (hf : (s.port p).lf.state = .free) (m : Word) :
    CycleRuns p l m (s.port p) s (s.runCycle p m) ∧
      ((s.port p).endsAtStart ∨ ((s.runCycle p m).cpl.done = s.cpl.done ∧ (s.runCycle p m).ort = s.ort)) := by
  have hat : OnlyPort p s (s.runCycle p m) := (runCycle_at (.refl p s) m).onlyPort
  have hj := judge_port s p
  obtain ⟨ho, hd, hg⟩ := judge_hands s p
  have ht : (s.judge p).time = s.time := congrArg Control.time (judge_control s p)
  have hstale := (countJudgement_staleReported s p).of_events (judge_events s p)
  rw [runCycle_eq, hl] at hat ⊢
  generalize s.judge p = u at hat hj ho hd hg ht hstale
  unfold CycleRuns
  cases hs : (s.port p).sends with
  | some f =>
    rw [hs] at hat
    refine ⟨⟨hat, hstale.of_events rfl, fun g => State.group_congr hg g, ?_⟩, .inr ⟨hd, ho⟩⟩
    dsimp only
    rw [State.port_modCyc_self]
    unfold State.handToLine
    rw [modLf_eq_withPort, port_withPort, hj]
    have hf' : (s.port p).afterJudgement.lf.state ≠ .guard := by
      change (s.port p).lf.state ≠ .guard
      rw [hf]
      decide
    rw [if_neg hf', ht]
    rfl
  | none =>
    rw [hs] at hat
    dsimp only
    have hb : u.cycleEnds p = if (s.port p).stopWaits = true ∧ (s.port p).cyc.underWay = none then
        u.finishStop p else u := by
      have hw : u.port p = (s.port p).afterJudgement ∧ (s.port p).afterJudgement.state = .cyclic ∧
          (s.port p).afterJudgement.stopWaits = (s.port p).stopWaits := ⟨hj, hc, rfl⟩
      obtain ⟨hp, hst, hsw⟩ := hw
      rw [cycleEnds_eq, hp, hst, hsw, afterJudgement_busy]
      simp only [true_and, Option.isSome_eq_false_iff, Option.isNone_iff_eq_none]
    dsimp only at hat
    by_cases hstop : (s.port p).stopWaits = true ∧ (s.port p).cyc.underWay = none
    · rw [if_pos hstop] at hb
      rw [hb] at hat ⊢
      obtain ⟨hgroups, hevents⟩ := finishStop_lists u p
      refine ⟨⟨hat, hstale.of_events hevents, ?_⟩, .inl ⟨hs, hstop⟩⟩
      rw [if_pos hstop]
      refine ⟨by rw [finishStop_port, hj], ((leave_groupsLeft _ p).of_groups hgroups).after hg, fun c w hw hopen => ?_⟩
      refine (finishStop_hands (k := c) ?_ (pends_congr ho (hopen.pends (List.mem_singleton_self w)))).inOrder_of hd
      rw [hj]
      exact hw
    · rw [if_neg hstop] at hb
      rw [hb] at hat ⊢
      refine ⟨⟨hat, hstale, ?_⟩, .inr ⟨hd, ho⟩⟩
      rw [if_neg hstop]
      exact ⟨hj, fun g => State.group_congr hg g⟩

/-- The cycle runs the same whether the port counted as waiting for its guard. -/
theorem CycleRuns.of_begun {l : Link} {m : Word} {x : Port}
    (h : CycleRuns p l m { x with cyc := { x.cyc with startWait := none } } (s.withPort p { x with cyc := { x.cyc with
      startWait := none } }) t) (ho : OnlyPort p s t) : CycleRuns p l m x s t := by
  unfold CycleRuns at h ⊢
  obtain ⟨-, hk⟩ := h
  exact ⟨ho, hk⟩

/-- The sequence a cycle runs beside is as it was. -/
theorem CycleRuns.seq_eq {l : Link} {m : Word} {x : Port} (h : CycleRuns p l m x s t) : (t.port p).seq = x.seq := by
  obtain ⟨-, -, h⟩ := h
  cases hs : x.sends with
  | some f =>
    rw [hs] at h
    rw [h.2]
    rfl
  | none =>
    rw [hs] at h
    dsimp only at h
    split at h
    · rw [h.1]
      rfl
    · rw [h.1]
      rfl

/-! ### The end of the guard (R10, R16, R52, R89) -/

/-- The port as its guard ends at `now`. -/
def Port.unguarded (x : Port) (now : Nat) : Port := { x with lf := { x.lf with
  state := if x.lf.held.isSome then .waiting else .free, waitSince := now, timer := none, flight := none } }

/-- A sequence that was to stop stops where its port waits for the line (R52). -/
def State.stopIfAsked (p : PortId) (s : State) : State :=
  if (s.port p).seq.phase = .lineWait && (s.port p).seq.stopRequested then s.abortSequence p else s

theorem stopIfAsked_eq (s : State) (p : PortId) : s.stopIfAsked p =
    if (s.port p).seq.phase = .lineWait ∧ (s.port p).seq.stopRequested = true then s.abortSequence p else s := by
  unfold State.stopIfAsked
  simp only [Bool.and_eq_true, decide_eq_true_eq]

theorem guardOver_eq (s : State) (p : PortId) : s.guardOver p =
    let u := s.withPort p ((s.port p).unguarded s.time)
    if (s.port p).lf.held.isSome then u
    else match (s.port p).cyc.startWait with
      | some n => ((u.modCyc p fun c => { c with startWait := none }).runCycle p n).stopIfAsked p
      | none => u.stopIfAsked p := by
  unfold State.guardOver
  dsimp only
  rw [show s.modLf p (fun x => { x with
    state := if x.held.isSome then .waiting else .free, waitSince := s.time, timer := none, flight := none }) =
      s.withPort p ((s.port p).unguarded s.time) from rfl, port_withPort]
  change (if _ then _ else (State.stopIfAsked p (match (s.port p).cyc.startWait with
    | some n => _
    | none => _))) = _
  cases (s.port p).cyc.startWait <;> rfl

/-- Settles O52. -/
theorem theGuardEnds : Obligations.TheGuardEnds := by
  intro p n s s' hs hn hreach x after stops
  have hx : s'.port p = x := reaches_port hreach p
  have hdue : s.guardEndDue p = some n := by simp only [State.guardEndDue, hs, hn, if_true]
  have hexec : exec (.guardEnd p) s = .next (s'.guardOver p) := by
    change atInstant (s.guardEndDue p) (State.guardOver p) s = _
    rw [hdue, atInstant_next _ hreach]
  have honly : OnlyPort p s' (s'.guardOver p) := (guardOver_at (.refl p s')).onlyPort
  have hover := guardOver_eq s' p
  rw [hx] at hover
  refine ⟨fun hh => ?_, fun hh hw hstop => ?_, fun hh hw hstop => ?_, fun m l hh hw hstop hc hl => ?_⟩
  · have hsome : x.lf.held.isSome = true := Option.isSome_iff_ne_none.mpr hh
    rw [hexec, hover]
    dsimp only
    rw [if_pos hsome, Port.unguarded, if_pos hsome]
  · have hu : x.unguarded s'.time = { x with lf := after .free } := by simp [Port.unguarded, hh, after]
    rw [hexec, hover, hu]
    dsimp only
    rw [hh, hw, Option.isSome_none, if_neg (by decide)]
    dsimp only
    rw [stopIfAsked_eq, port_withPort, if_neg hstop]
  · have hu : x.unguarded s'.time = { x with lf := after .free } := by simp [Port.unguarded, hh, after]
    have he : s'.guardOver p = (s'.withPort p { x with lf := after .free }).abortSequence p := by
      rw [hover, hu]
      dsimp only
      rw [hh, hw, Option.isSome_none, if_neg (by decide)]
      dsimp only
      rw [stopIfAsked_eq, port_withPort, if_pos hstop]
    refine ⟨_, hexec, ⟨honly, ?_⟩, ?_⟩
    · rw [he]
      refine BringUpEnds.of_lined (l := after .free) (r := x.rxd) (k := x.counters) ?_
      rw [hx]
      exact abortSequence_bringUpEnds _ p
    · rw [he, abortSequence_lf, port_withPort]
  · intro free
    have hu : x.unguarded s'.time = free := by simp [Port.unguarded, hh, after, free]
    generalize hv : s'.withPort p { free with cyc := { free.cyc with startWait := none } } = v
    have hvp : v.port p = { free with cyc := { free.cyc with startWait := none } } := by rw [← hv, port_withPort]
    have hrun := runCycle_cycleRuns (s := v) (p := p) (l := l) (by rw [hvp]; exact hc) (by rw [hvp]; exact hl)
      (by rw [hvp]) m
    have he : s'.guardOver p = v.runCycle p m := by
      rw [hover, hu]
      dsimp only
      rw [hh, hw, Option.isSome_none, if_neg (by decide)]
      dsimp only
      rw [show (s'.withPort p free).modCyc p (fun c => { c with startWait := none }) = v from
        (modPort_withPort s' p free _).trans hv, stopIfAsked_eq, hrun.1.seq_eq, hvp]
      exact if_neg hstop
    refine ⟨_, hexec, ?_⟩
    rw [he] at honly ⊢
    rw [hvp] at hrun
    have hkept : v.cpl.done = s.cpl.done ∧ v.ort = s.ort := by
      rw [← hv, (reach_eq hreach).1]
      exact ⟨rfl, rfl⟩
    obtain ⟨hruns, hends⟩ := hrun
    refine ⟨.of_begun (x := free) (hv ▸ hruns) honly, hends.imp id fun h => ?_⟩
    exact ⟨h.1.trans hkept.1, h.2.trans hkept.2⟩

end Sys2Proof.Machine
end

section
/-! PROOFS. Transfers that wait for the end of an access or an exchange (R30, R34, R43), and entry to FAULT (R35 to R37). -/

namespace Sys2Proof.Machine

/- Each proof waits for the kernel; checked one after another, they need no more threads than the rest of the package. -/
set_option Elab.async false

variable {p : PortId} {s s' t : State} {w : OrtEntry}

/-! ### What waits for an end -/

/-- The transfer has ended, and waits for an exchange, or for an access, as `onExchange` tells. -/
def Transfer.due (onExchange : Bool) (b : Transfer) : Bool :=
  match b.ending with
  | some e => e.onExchange == onExchange
  | none => false

/-- A transfer that has ended is handed over. -/
def State.handOne (s : State) (b : Transfer) : State :=
  match b.ending with
  | some e => s.handOver b.ort e.status e.result
  | none => s

theorem handEnded_eq (s : State) (p : PortId) (x : Bool) : s.handEnded p x =
    ((s.port p).queue.filter (Transfer.due x)).foldl State.handOne
      (s.modPort p fun y => { y with queue := y.queue.filter fun b => !b.due x }) := by
  unfold State.handEnded
  dsimp only
  rfl

@[simp] theorem handEnded_port (s : State) (p : PortId) (x : Bool) : (s.handEnded p x).port p = { s.port p with
    queue := (s.port p).queue.filter fun b => !b.due x } := by
  rw [handEnded_eq]
  have h : ∀ (l : List Transfer) (u : State), (l.foldl State.handOne u).port p = u.port p := by
    intro l
    induction l with
    | nil => exact fun _ => rfl
    | cons b l ih =>
      intro u
      rw [List.foldl_cons, ih]
      unfold State.handOne
      split
      · exact handOver_port u _ _ _ p
      · rfl
  rw [h, State.port_modPort_self]

/-- The one transfer that waits is handed over. -/
theorem handEnded_hands {x : Bool} {b : Transfer} {e : Ending} (hq : (s.port p).queue.filter (Transfer.due x) = [b])
    (he : b.ending = some e) (hw : w.id = b.ort) (hp : s.Pends w) :
    Hands s (s.handEnded p x) [(w, e.status, e.result)] := by
  rw [handEnded_eq, hq, List.foldl_cons, List.foldl_nil, State.handOne, he, ← hw]
  refine Hands.handOver ?_ hp _ _
  exact .of_eq rfl rfl rfl

/-- Nothing waits: nothing is handed over. -/
theorem handEnded_of_nil {x : Bool} (hq : (s.port p).queue.filter (Transfer.due x) = []) :
    s.handEnded p x = s.modPort p fun y => { y with queue := y.queue.filter fun b => !b.due x } := by
  rw [handEnded_eq, hq, List.foldl_nil]

/-- The claim of a later transfer is made behind the reports claimed before (R101). -/
def Port.reclaimed (x : Port) : Port := { x with
  xclaims := x.xclaims.filter (·.isReport) ++ x.xclaims.filter (!·.isReport) }

/-- With no PORT_DISABLE waiting, the end of an access given up hands over what waits for it. -/
theorem formerEnded_eq (h : (s.port p).disables = []) :
    s.formerEnded p = ((s.withPort p (s.port p).reclaimed).handEnded p false).modPort p fun x => { x with disables := [] } := by
  have hd : (((s.withPort p (s.port p).reclaimed).handEnded p false).port p).disables = [] := by
    rw [handEnded_port, port_withPort]
    exact h
  unfold State.formerEnded
  change State.accessEnded p (s.withPort p (s.port p).reclaimed) = _
  unfold State.accessEnded
  dsimp only
  rw [hd, List.foldl_nil]

/-- The end of an access that has been given up. -/
theorem exec_of_dropped {f : BusFlight} {i : Instr} (hf : s.bus.flight = some { f with live := false })
    (hp : f.access.transferPort = some p) (hi : EndsAccess f.access i) : exec i s = .next (s.endFlight.formerEnded p) := by
  obtain ⟨q, a, n, d, ha, rfl⟩ | ⟨q, a, l, ok, ha, rfl⟩ := hi
  · rw [ha] at hf hp
    obtain rfl : q = p := Option.some.inj hp
    change execTransferFetchEnd d s = _
    simp only [execTransferFetchEnd, hf, Bool.false_eq_true, if_false]
  · rw [ha] at hf hp
    obtain rfl : q = p := Option.some.inj hp
    change execTransferStoreEnd ok s = _
    simp only [execTransferStoreEnd, hf, Bool.false_eq_true, if_false]

/-- A transfer that pends is handed over when the access given up ends, where its place in the queue tells how it ended. -/
theorem handedAtAccessEnd_of {e : Ending} (he : e.onExchange = false)
    (hb : ∀ f, s.bus.flight = some f → f.access.transferPort = some p → t.bus.flight = some { f with live := false })
    (hq : ∀ u ∈ (t.port p).queue, u.ort = w.id → u.ending = some e) (hp : t.Pends w) : HandedAtAccessEnd p w e s t := by
  intro f hf ha hd hone
  have hflight := hb f hf ha
  refine ⟨hflight, fun i hi => ⟨_, exec_of_dropped hflight ha hi, ?_⟩⟩
  have hdue : (fun u : Transfer => u.ending.any fun d => !d.onExchange) = Transfer.due false := by
    funext u
    unfold Transfer.due
    cases u.ending <;> simp
  rw [hdue] at hone
  obtain ⟨b, hfilter, hbw⟩ := List.map_eq_singleton_iff.mp hone
  have hmem : b ∈ (t.port p).queue := List.mem_of_mem_filter (hfilter ▸ List.mem_singleton_self b)
  generalize hu : t.endFlight.withPort p (t.endFlight.port p).reclaimed = u
  have hup : u.port p = (t.port p).reclaimed := by rw [← hu, port_withPort]; rfl
  have hands : Hands u (u.handEnded p false) [(w, e.status, e.result)] := by
    refine handEnded_hands (b := b) (by rw [hup]; exact hfilter) (hq b hmem hbw) hbw.symm (pends_congr ?_ hp)
    rw [← hu]
    rfl
  rw [formerEnded_eq (s := t.endFlight) hd, hu]
  refine ⟨(hands.trans_nil (.of_eq rfl rfl rfl)).inOrder_of (by rw [← hu]; rfl), ?_⟩
  rw [State.port_modPort_self, handEnded_port, hup]
  refine List.filter_congr fun c hc => ?_
  have hiff : c.due false = true ↔ c.ort = w.id := by
    refine ⟨fun h => ?_, fun h => ?_⟩
    · have : c ∈ [b] := hfilter ▸ List.mem_filter.mpr ⟨hc, h⟩
      rw [List.mem_singleton.mp this, hbw]
    · simp [Transfer.due, hq c hc h, he]
  by_cases h : c.due false = true
  · simp [h, hiff.mp h]
  · simp [h, mt hiff.mpr h]

/-! ### The end of a port's requests (R30, R37) -/

/-- A transfer that stays for the end of its access, `st` being what ends the port's requests (R30, R37). -/
def Transfer.endedWith (st : Status) (b : Transfer) : Transfer := { b with
  ending := match b.ending with
    | some e => if e.status = .portFault then some e else some { status := st, result := 0, onExchange := false }
    | none => some { status := st, result := 0, onExchange := false } }

/-- The port whose requests have ended: what awaits an access stays, and so do the queries granted. -/
def Port.requestsEnded (x : Port) (awaits : Transfer → Bool) (st : Status) : Port := { x with
  slot := none, stopPending := false, queue := (x.queue.filter awaits).map (Transfer.endedWith st), xclaims := []
  queries := x.queries.filter fun q => !x.reportClaims.contains q.ort }

/-- The table entries of the requests that end with a port, in the order of their hand-over (R30). -/
def Port.endedIds (x : Port) (awaits : Transfer → Bool) : List Nat :=
  (x.slot.map (·.2)).toList ++ (x.queue.filter fun b => !awaits b).map (·.ort) ++ x.reportClaims

theorem endRequests_eq (s : State) (p : PortId) (st : Status) : s.endRequests p st =
    (((s.withPort p ((s.port p).requestsEnded (s.awaitsAccess p) st)).disown Access.transferPort p).disown
      Access.imagePort p).handAll ((s.port p).endedIds (s.awaitsAccess p)) st := by
  unfold State.endRequests
  dsimp only
  rfl

@[simp] theorem endRequests_port (s : State) (p : PortId) (st : Status) :
    (s.endRequests p st).port p = (s.port p).requestsEnded (s.awaitsAccess p) st := by
  rw [endRequests_eq, handAll_port, State.port_disown, State.port_disown, port_withPort]

theorem endRequests_lists (s : State) (p : PortId) (st : Status) : ListsKept s (s.endRequests p st) := by
  rw [endRequests_eq]
  refine handAll_lists ?_ _ _
  exact ⟨rfl, rfl⟩

theorem endRequests_hands {ended : List OrtEntry} (he : ended.map (·.id) = (s.port p).endedIds (s.awaitsAccess p))
    (hn : (ended.map (·.id)).Nodup) (hp : ∀ w ∈ ended, s.Pends w) (st : Status) :
    Hands s (s.endRequests p st) (ended.map fun w => (w, st, 0)) := by
  rw [endRequests_eq, ← he]
  refine Hands.handAll ?_ hn hp st
  exact .of_eq rfl rfl rfl

theorem handAll_bus (s : State) (ids : List Nat) (st : Status) : (s.handAll ids st).bus = s.bus := by
  induction ids generalizing s with
  | nil => rfl
  | cons i ids ih => exact (ih _).trans (handOver_bus s i st 0)

/-- The access of an engine of the port in flight has been given up. -/
theorem endRequests_flight {f : BusFlight} (hf : s.bus.flight = some f) (ha : f.access.transferPort = some p) (st : Status) :
    (s.endRequests p st).bus.flight = some { f with live := false } := by
  have himage : f.access.imagePort ≠ some p := by
    intro h
    rcases f with ⟨a, l, w⟩
    cases a <;> simp [Access.transferPort, Access.imagePort] at ha h
  rw [endRequests_eq, handAll_bus]
  simp [State.disown, State.modBus, State.withPort, hf, ha, himage]

/-- One that a fault finds waiting, or that awaits an access, is handed over PORT_FAULT with result 0. -/
theorem endedWith_portFault {b : Transfer} (hw : b.ending.all (!·.onExchange) = true)
    (hr : ∀ d, b.ending = some d → d.status = .portFault → d.result = 0) :
    b.endedWith .portFault = { b with ending := some { status := .portFault, result := 0, onExchange := false } } := by
  unfold Transfer.endedWith
  cases h : b.ending with
  | none => rfl
  | some d =>
    dsimp only
    rcases d with ⟨st, r, x⟩
    split
    · rename_i hst
      obtain rfl : st = .portFault := hst
      obtain rfl : r = 0 := hr _ h rfl
      obtain rfl : x = false := by simpa [h] using hw
      rfl
    · rfl

/-! ### Entry to FAULT (R35 to R37) -/

/-- The port in FAULT (R37). -/
def Port.faulted (x : Port) (c : FaultCause) : Port := { x with
  state := .fault, faultCause := some c, lf := x.lf.cut, blank := none, resume := false
  counters := { x.counters with misses := 0 }
  cyc := { x.cyc with
    sample := .empty, list := [], writing := 0, underWay := none, faultPending := false, admitted := false, startWait := none }
  te := { TransferEngine.reset with lastToggle := x.te.lastToggle } }

theorem awaitsAccess_congr (hb : t.bus.flight = s.bus.flight) (ht : (t.port p).te = (s.port p).te) :
    t.awaitsAccess p = s.awaitsAccess p := by
  funext b
  unfold State.awaitsAccess
  rw [flightOf_congr hb, ht]

/-- The state in which the requests of a port that goes to FAULT end. -/
def State.faultBegun (p : PortId) (c : FaultCause) (s : State) : State := (s.post p .portFault (c.code.setWidth 32)).leave p

section faultBegun

variable (s : State) (p : PortId) (c : FaultCause)

@[simp] theorem faultBegun_port : (s.faultBegun p c).port p = { s.port p with sched := none } := by
  rw [State.faultBegun, leave_port, post_port]

theorem faultBegun_bus : (s.faultBegun p c).bus = s.bus := post_bus s p _ _

theorem faultBegun_ort : (s.faultBegun p c).ort = s.ort := post_ort s p _ _

theorem faultBegun_done : (s.faultBegun p c).cpl.done = s.cpl.done := post_done s p _ _

theorem faultBegun_awaitsAccess : (s.faultBegun p c).awaitsAccess p = s.awaitsAccess p :=
  awaitsAccess_congr (congrArg Bus.flight (faultBegun_bus s p c)) (by rw [faultBegun_port])

end faultBegun

theorem enterFault_eq {c : FaultCause} (hd : (s.port p).state ≠ .disabled) (hf : (s.port p).state ≠ .fault) :
    s.enterFault p c = (((s.faultBegun p c).endRequests p .portFault).stopSequence p).modPort p fun x => x.faulted c := by
  unfold State.enterFault
  rw [if_neg (by simp [hd, hf])]
  rfl

section enterFault

variable {c : FaultCause} (hd : (s.port p).state ≠ .disabled) (hf : (s.port p).state ≠ .fault)
include hd hf

theorem enterFault_port : (s.enterFault p c).port p = Port.faulted { (Port.requestsEnded { s.port p with sched := none }
    (s.awaitsAccess p) .portFault) with seq := (s.port p).seq.ended } c := by
  have h := endRequests_port (s.faultBegun p c) p .portFault
  rw [faultBegun_awaitsAccess, faultBegun_port] at h
  rw [enterFault_eq hd hf, State.port_modPort_self, stopSequence_port, h]
  rfl

theorem enterFault_groupsLeft : GroupsLeft p s (s.enterFault p c) := by
  rw [enterFault_eq hd hf]
  have hg : GroupsLeft p s (s.faultBegun p c) := (leave_groupsLeft _ p).after (post_groups s p _ _)
  have hv := hg.of_groups (endRequests_lists (s.faultBegun p c) p .portFault).groups
  generalize (s.faultBegun p c).endRequests p .portFault = v at hv ⊢
  exact hv.of_groups rfl

theorem enterFault_posted : Posted s (s.enterFault p c) p .portFault (c.code.setWidth 32) := by
  rw [enterFault_eq hd hf]
  have hp : Posted s (s.faultBegun p c) p .portFault (c.code.setWidth 32) := post_posted s p _ _
  have hv := hp.of_events (endRequests_lists (s.faultBegun p c) p .portFault).events
  generalize (s.faultBegun p c).endRequests p .portFault = v at hv ⊢
  exact hv.of_events rfl

/-- Entry to FAULT ends the requests of the port, from the state in which the fault is posted and the group left on. -/
theorem enterFault_hands {ended : List OrtEntry} (he : ended.map (·.id) = (s.port p).endedIds (s.awaitsAccess p))
    (hn : (ended.map (·.id)).Nodup) (hp : ∀ w ∈ ended, s.Pends w) :
    Hands (s.faultBegun p c) (s.enterFault p c) (ended.map fun w => (w, .portFault, 0)) := by
  rw [enterFault_eq hd hf]
  have h : Hands (s.faultBegun p c) ((s.faultBegun p c).endRequests p .portFault) (ended.map fun w => (w, .portFault, 0)) := by
    refine endRequests_hands ?_ hn (fun w hw => pends_congr (faultBegun_ort s p c) (hp w hw)) .portFault
    rw [he, faultBegun_awaitsAccess, faultBegun_port]
    rfl
  generalize (s.faultBegun p c).endRequests p .portFault = v at h ⊢
  exact h.trans_nil (.of_eq rfl rfl rfl)

theorem enterFault_flight {f : BusFlight} (h : s.bus.flight = some f) (ha : f.access.transferPort = some p) :
    (s.enterFault p c).bus.flight = some { f with live := false } := by
  rw [enterFault_eq hd hf]
  refine endRequests_flight (s := s.faultBegun p c) ?_ ha .portFault
  rw [faultBegun_bus, h]

end enterFault

/-- Settles O54. -/
theorem aFaultTakesThePortOutOfService : Obligations.AFaultTakesThePortOutOfService := by
  intro p c i n s s' x hcase hdis hfault hreach
  have hx : s'.port p = x := reaches_port hreach p
  have hexec : exec i s = .next (s'.enterFault p c) := by
    obtain ⟨rfl, rfl, hst, d, hdom, rfl⟩ | ⟨rfl, rfl, b, hb, rfl⟩ := hcase
    · have hdue : s.lineStuckDue p = some (max x.lf.waitSince d + 32 * 10000) := by
        unfold State.lineStuckDue
        simp only [show (s.port p).lf.state = .waiting from hst, show (s.port p).lf.dominantSince = some d from hdom, if_true]
        rfl
      change atInstant (s.lineStuckDue p) _ s = _
      rw [hdue, atInstant_next _ hreach]
    · have hdue : s.overcurrentDue p = some (b + 32 * x.config.blankTime) := by
        unfold State.overcurrentDue
        rw [show (s.port p).blank = some b from hb]
        exact congrArg some (by simp [usUnits, Config.unitsPerUs, Nat.mul_comm, x])
      change atInstant (s.overcurrentDue p) _ s = _
      rw [hdue, atInstant_next _ hreach]
  have hbus : s'.bus = s.bus := by rw [(reach_eq hreach).1]
  have hort : s'.ort = s.ort := by rw [(reach_eq hreach).1]
  have hd : (s'.port p).state ≠ .disabled := by rwa [hx]
  have hf : (s'.port p).state ≠ .fault := by rwa [hx]
  refine ⟨_, hexec, ?_⟩
  beta_reduce
  intro y fault waits
  have hwaits : s'.awaitsAccess p = waits := by
    rw [awaitsAccess_congr (s := s) (congrArg Bus.flight hbus) (congrArg Port.te hx)]
    funext b
    unfold State.awaitsAccess
    rfl
  have hy := enterFault_port (c := c) hd hf
  have hgl : GroupsLeft p s' _ := enterFault_groupsLeft (c := c) hd hf
  have hqueue : (∀ b ∈ x.queue, ∀ d, b.ending = some d → d.status = .portFault → d.result = 0) →
      y.queue = (x.queue.filter waits).map fun b => { b with ending := some fault } := by
    intro hr
    rw [show y = _ from hy, hwaits, hx]
    refine List.map_congr_left fun b hb => endedWith_portFault ?_ (hr b (List.mem_of_mem_filter hb))
    have hw : waits b = true := (List.mem_filter.mp hb).2
    cases he : b.ending with
    | none => rfl
    | some d =>
      simp only [waits, he] at hw
      exact hw
  have hgroups : s'.groups = s.groups := by rw [(reach_eq hreach).1]
  have hfields := hy
  rw [hx] at hfields
  refine ⟨(enterFault_at (.refl p s') c).onlyPort, hgl.after hgroups, enterFault_posted hd hf, ?_⟩
  have hstays := hqueue
  simp only [show y = _ from hfields, Port.faulted, Port.requestsEnded, Sequencer.ended, Framer.cut, true_and] at hqueue ⊢
  refine ⟨rfl, hqueue, fun ended held he hh hn ho => ?_⟩
  have hne : ((ended.map (·.id)).Nodup) := (List.nodup_append.mp (List.map_append ▸ hn)).1
  have hp : ∀ w ∈ ended ++ held, s'.Pends w := fun w hw => pends_congr hort (ho.pends hw)
  have hands := enterFault_hands (c := c) hd hf (ended := ended) (by rw [hwaits, hx]; exact he) hne
    fun w hw => hp w (List.mem_append_left _ hw)
  refine ⟨hands.inOrder_of ?_, fun w hw => hands.handed (w, .portFault, 0) (List.mem_map_of_mem hw), fun w hheld hr => ?_⟩
  · rw [faultBegun_done, (reach_eq hreach).1]
  · subst hheld
    have hmem : ∀ x ∈ ended.map fun w => (w, Status.portFault, (0 : Word)), x.1.id ≠ w.id := fun x hx he => by
      obtain ⟨v, hv, rfl⟩ := List.mem_map.mp hx
      rw [List.map_append] at hn
      exact List.disjoint_of_nodup_append hn (List.mem_map_of_mem hv) (by simp [← he])
    refine handedAtAccessEnd_of rfl (fun f hf' ha => enterFault_flight hd hf (by rw [hbus, hf']) ha) (fun u hu _ => ?_)
      (hands.pends w ?_ hmem)
    · rw [show ((s'.enterFault p c).port p).queue = y.queue from rfl, hstays hr] at hu
      obtain ⟨b, -, rfl⟩ := List.mem_map.mp hu
      rfl
    · exact pends_congr (faultBegun_ort s' p c) (hp w (List.mem_append_right _ (List.mem_singleton_self w)))

end Sys2Proof.Machine
end

section
/-! PROOFS. The fate of the active transfer, and the end of a link (R32 to R34, R117, R120). -/

namespace Sys2Proof.Machine

/- Each proof waits for the kernel; checked one after another, they need no more threads than the rest of the package. -/
set_option Elab.async false

variable {p : PortId} {s t u : State} {w : OrtEntry} {b : Transfer}

/-! ### The active transfer at the end of a link -/

/-- Its fate at the end of a link, as the state has it. -/
def State.fateOf (s : State) (p : PortId) (toIdle : Bool) : Fate :=
  (s.port p).te.fate (s.flightOf Access.transferPort p) false toIdle

/-- What the end of a link does to the active transfer is what its fate says; one whose fetch keeps it from being handed with
the queue counts as queued until then. -/
theorem stopActive_of_fate (h : (s.port p).te.transfer = some b) (toIdle : Bool) :
    match s.fateOf p toIdle with
    | .kept => s.stopActive p false toIdle = s.returnActive p
    | .handed st r => s.stopActive p false toIdle = s.endActive p st r
    | .waits e => e.onExchange = false ∧
        (s.stopActive p false toIdle = s.deferActive p e ∨
          s.stopActive p false toIdle = (s.setOrtState b.ort .queued).deferActive p e) := by
  unfold State.fateOf TransferEngine.fate State.stopActive State.endTransfer TransferEngine.abandonedAs abandonResult
  dsimp only
  cases hc : (s.port p).te.cause with
  | some c =>
    cases hf : s.flightOf Access.transferPort p
    · simp
    · simp
  | none =>
    cases hs : (s.port p).te.sent <;> cases hf : s.flightOf Access.transferPort p <;> cases toIdle <;> simp [h]

theorem stopActive_of_none (h : (s.port p).te.transfer = none) (toIdle : Bool) : s.stopActive p false toIdle = s := by
  have hd : ∀ e, s.deferActive p e = s := deferActive_of_none h
  have he : ∀ st r, s.endActive p st r = s := endActive_of_none h
  unfold State.stopActive State.endTransfer
  simp only [h, hd, he, returnActive_of_none h, Option.map_none, Option.getD_none, ite_self, Bool.false_eq_true, if_false]
  split <;> rfl

theorem stopActive_port (h : (s.port p).te.transfer = some b) (toIdle : Bool) :
    (s.stopActive p false toIdle).port p =
      (s.port p).transferOver ((s.fateOf p toIdle).queue b (s.port p).queue) := by
  have hs := stopActive_of_fate h toIdle
  cases hf : s.fateOf p toIdle with
  | kept =>
    rw [hf] at hs
    rw [hs, returnActive_port h]
    rfl
  | handed st r =>
    rw [hf] at hs
    rw [hs, endActive_port h]
    rfl
  | waits e =>
    rw [hf] at hs
    obtain ⟨-, hs | hs⟩ := hs
    · rw [hs, deferActive_port h]
      rfl
    · rw [hs, deferActive_port (by rwa [State.port_setOrtState]), State.port_setOrtState]
      rfl

theorem stopActive_hands (h : (s.port p).te.transfer = some b) (hw : w.id = b.ort) (hp : s.Pends w) (toIdle : Bool) :
    Hands s (s.stopActive p false toIdle) ((s.fateOf p toIdle).handedNow w) := by
  have hs := stopActive_of_fate h toIdle
  cases hf : s.fateOf p toIdle with
  | kept =>
    rw [hf] at hs
    rw [hs]
    exact returnActive_hands s p
  | handed st r =>
    rw [hf] at hs
    rw [hs]
    exact endActive_hands h hw hp st r
  | waits e =>
    rw [hf] at hs
    obtain ⟨-, hs | hs⟩ := hs
    · rw [hs]
      exact deferActive_hands s p e
    · rw [hs]
      exact (setOrtState_hands (by decide) s b.ort).trans_nil (deferActive_hands _ p e)

/-- A transfer that is kept is queued again (R120, R131). -/
theorem stopActive_queued {toIdle : Bool} (h : (s.port p).te.transfer = some b) (hw : w.id = b.ort) (hp : s.Pends w)
    (hk : s.fateOf p toIdle = .kept) : (s.stopActive p false toIdle).entryState w.id = some .queued := by
  have hs := stopActive_of_fate h toIdle
  rw [hk] at hs
  rw [hs, State.returnActive, h]
  dsimp only
  rw [← hw]
  exact setOrtState_entryState (s := s.clearTransfer p) (pends_congr rfl hp)

theorem deferActive_flight {f : BusFlight} (h : (s.port p).te.transfer = some b) (hf : s.bus.flight = some f)
    (ha : f.access.transferPort = some p) (e : Ending) :
    (s.deferActive p e).bus.flight = some { f with live := false } := by
  simp [State.deferActive, h, State.clearTransfer, State.disown, State.modBus, hf, ha]

/-- The access that an ended transfer waits for has been given up (R34). -/
theorem stopActive_flight {toIdle : Bool} {e : Ending} {f : BusFlight} (h : (s.port p).te.transfer = some b)
    (hw : s.fateOf p toIdle = .waits e) (hf : s.bus.flight = some f) (ha : f.access.transferPort = some p) :
    (s.stopActive p false toIdle).bus.flight = some { f with live := false } := by
  have hs := stopActive_of_fate h toIdle
  rw [hw] at hs
  obtain ⟨-, hs | hs⟩ := hs
  · rw [hs, deferActive_flight h hf ha]
  · rw [hs, deferActive_flight (by rwa [State.port_setOrtState]) (by rwa [State.setOrtState_bus]) ha]

/-! ### The end of a link (R33, R34) -/

/-- The schedule of the port is to be taken up again after a recovery (R33). -/
def Port.resumes (x : Port) : Bool := x.state = .cyclic && !x.stopWaits && !x.cyc.faultPending

/-- The port that loses its link goes to IDLE, or recovers (R33). -/
def Port.linkGone (x : Port) (toIdle : Bool) : Port :=
  if toIdle then { x with state := .idle, link := none }
  else { x with
    state := .recovery
    seq := { x.seq with
      phase := .lineWait, mode := .recovery, ladder := [], attempts := 0, backoff := none, stopRequested := false } }

/-- The port as its link ends, before its requests are handed over (R33, R34). -/
def Port.unlinked (x : Port) (toIdle : Bool) : Port :=
  Port.linkGone { x with
    resume := x.resumes, cyc := { x.cyc.discarded with faultPending := false }, counters := { x.counters with misses := 0 }
    sched := if x.resumes && !toIdle then x.sched else none } toIdle

/-- The state of a port that loses its link, before its sample and its schedule go. -/
def State.linkGone (p : PortId) (toIdle : Bool) (s : State) : State :=
  if toIdle then (s.setPortState p .idle).modPort p fun x => { x with link := none }
  else (s.setPortState p .recovery).startSequence p .recovery

/-- The end of a link is noted: the resume flag, LINK_LOST, the miss count, the port state, the sample (R33). -/
def State.linkNoted (p : PortId) (c : Cause) (s : State) : State :=
  let u := s.modPort p fun x => { x with resume := (s.port p).resumes, cyc := { x.cyc with faultPending := false } }
  let u := u.post p .linkLost (c.code.setWidth 32)
  ((u.modCounters p fun k => { k with misses := 0 }).linkGone p (!(s.port p).config.autoRecovery)).discardSample p

/-- The state in which the requests of a port whose link ends are handed over. -/
def State.unlinked (p : PortId) (c : Cause) (s : State) : State :=
  if (s.port p).resumes && !!(s.port p).config.autoRecovery then s.linkNoted p c else (s.linkNoted p c).leave p

/-- The status of the occupant of the control slot at the end of a link (R33). -/
def lostSlot (k : ControlKind) : Status := if k = .cycleStop then .ok else .linkLost

/-- The state in which the active transfer of a port whose link ends meets its fate. -/
def State.unslotted (p : PortId) (c : Cause) (s : State) : State := (s.unlinked p c).endSlot p lostSlot 0

theorem linkEnd_eq (s : State) (p : PortId) (c : Cause) : s.linkEnd p c =
    let toIdle := !(s.port p).config.autoRecovery
    let u := (s.unslotted p c).stopActive p false toIdle
    if toIdle then u.handQueue p .linkLost else u := rfl

theorem linkGone_port (s : State) (p : PortId) (toIdle : Bool) : (s.linkGone p toIdle).port p = (s.port p).linkGone toIdle := by
  unfold State.linkGone Port.linkGone
  cases toIdle with
  | true => rw [if_pos rfl, if_pos rfl, State.port_modPort_self, State.setPortState, State.port_modPort_self]
  | false =>
    rw [if_neg (by decide), if_neg (by decide), startSequence_port, State.setPortState, State.port_modPort_self]

theorem linkNoted_port (s : State) (p : PortId) (c : Cause) : (s.linkNoted p c).port p = Port.linkGone { s.port p with
    resume := (s.port p).resumes, cyc := { (s.port p).cyc.discarded with faultPending := false }
    counters := { (s.port p).counters with misses := 0 } } (!(s.port p).config.autoRecovery) := by
  unfold State.linkNoted
  dsimp only
  rw [discardSample_port, linkGone_port, State.modCounters, State.port_modPort_self, post_port, State.port_modPort_self]
  unfold Port.linkGone
  cases (s.port p).config.autoRecovery <;> rfl

theorem unlinked_port (s : State) (p : PortId) (c : Cause) :
    (s.unlinked p c).port p = (s.port p).unlinked (!(s.port p).config.autoRecovery) := by
  unfold State.unlinked Port.unlinked
  by_cases h : ((s.port p).resumes && !!(s.port p).config.autoRecovery) = true
  · rw [if_pos h, if_pos h, linkNoted_port]
  · rw [if_neg h, if_neg h, leave_port, linkNoted_port]
    unfold Port.linkGone
    cases (s.port p).config.autoRecovery <;> rfl

section unlinked

variable (s : State) (p : PortId) (c : Cause)

theorem linkGone_others (toIdle : Bool) : (s.linkGone p toIdle).ort = s.ort ∧ (s.linkGone p toIdle).cpl = s.cpl ∧
    (s.linkGone p toIdle).groups = s.groups ∧ (s.linkGone p toIdle).bus = s.bus := by
  unfold State.linkGone
  cases toIdle <;> exact ⟨rfl, rfl, rfl, rfl⟩

theorem linkNoted_ort : (s.linkNoted p c).ort = s.ort := by
  unfold State.linkNoted
  dsimp only
  rw [State.discardSample, State.unwantSample_ort, State.modCyc_ort, (linkGone_others _ p _).1, State.modCounters_ort,
    post_ort, State.modPort_ort]

theorem linkNoted_done : (s.linkNoted p c).cpl.done = s.cpl.done := by
  unfold State.linkNoted
  dsimp only
  rw [State.discardSample, State.unwantSample_cpl, State.modCyc_cpl, (linkGone_others _ p _).2.1, State.modCounters_cpl,
    post_done, State.modPort_cpl]

theorem linkNoted_posted : Posted s (s.linkNoted p c) p .linkLost (c.code.setWidth 32) := by
  have h := post_posted (s.modPort p fun x => { x with
    resume := (s.port p).resumes, cyc := { x.cyc with faultPending := false } }) p .linkLost (c.code.setWidth 32)
  unfold State.linkNoted
  dsimp only
  refine (h.after rfl rfl rfl).of_events ?_
  rw [State.discardSample, State.unwantSample_cpl, State.modCyc_cpl, (linkGone_others _ p _).2.1, State.modCounters_cpl]

theorem linkNoted_groups : (s.linkNoted p c).groups = s.groups := by
  unfold State.linkNoted
  dsimp only
  rw [State.discardSample, State.unwantSample_groups, State.modCyc_groups, (linkGone_others _ p _).2.2.1,
    State.modCounters_groups, post_groups, State.modPort_groups]

/-- An access of the Transfer Engine in flight stays as it is. -/
theorem discardSample_flight {f : BusFlight} (hf : s.bus.flight = some f) (ha : f.access.transferPort = some p) :
    (s.discardSample p).bus.flight = some f := by
  have h : (s.discardSample p).bus.flight = s.bus.flight.map fun f => match f.access with
    | .sampleRead q _ _ _ => if q = p then { f with wanted := false } else f
    | _ => f := rfl
  rw [h, hf, Option.map_some]
  rcases f with ⟨a, l, w⟩
  cases a <;> simp [Access.transferPort] at ha ⊢

theorem discardSample_flightOf : (s.discardSample p).flightOf Access.transferPort p = s.flightOf Access.transferPort p := by
  have h : (s.discardSample p).bus.flight = s.bus.flight.map fun f => match f.access with
    | .sampleRead q _ _ _ => if q = p then { f with wanted := false } else f
    | _ => f := rfl
  unfold State.flightOf
  rw [h]
  rcases s.bus.flight with _ | ⟨a, l, w⟩
  · rfl
  · cases a with
    | sampleRead q _ _ _ =>
      simp only [Option.map_some]
      split <;> rfl
    | _ => rfl

theorem linkNoted_flightOf : (s.linkNoted p c).flightOf Access.transferPort p = s.flightOf Access.transferPort p := by
  unfold State.linkNoted
  dsimp only
  rw [discardSample_flightOf]
  refine flightOf_congr ?_
  rw [(linkGone_others _ p _).2.2.2, State.modCounters_bus, post_bus, State.modPort_bus]

theorem linkNoted_flight {f : BusFlight} (hf : s.bus.flight = some f) (ha : f.access.transferPort = some p) :
    (s.linkNoted p c).bus.flight = some f := by
  unfold State.linkNoted
  dsimp only
  refine discardSample_flight _ p ?_ ha
  rw [(linkGone_others _ p _).2.2.2, State.modCounters_bus, post_bus, State.modPort_bus, hf]

theorem unlinked_ort : (s.unlinked p c).ort = s.ort := by
  unfold State.unlinked
  split <;> simp only [State.leave_ort, linkNoted_ort]

theorem unlinked_done : (s.unlinked p c).cpl.done = s.cpl.done := by
  unfold State.unlinked
  split <;> simp only [State.leave_cpl, linkNoted_done]

theorem unlinked_posted : Posted s (s.unlinked p c) p .linkLost (c.code.setWidth 32) := by
  refine (linkNoted_posted s p c).of_events ?_
  unfold State.unlinked
  split
  · rfl
  · rw [State.leave_cpl]

theorem unlinked_flightOf : (s.unlinked p c).flightOf Access.transferPort p = s.flightOf Access.transferPort p := by
  refine (flightOf_congr ?_).trans (linkNoted_flightOf s p c)
  unfold State.unlinked
  split
  · rfl
  · rw [State.leave_bus]

theorem unlinked_flight {f : BusFlight} (hf : s.bus.flight = some f) (ha : f.access.transferPort = some p) :
    (s.unlinked p c).bus.flight = some f := by
  have h : (s.unlinked p c).bus = (s.linkNoted p c).bus := by
    unfold State.unlinked
    split
    · rfl
    · rw [State.leave_bus]
  rw [h, linkNoted_flight s p c hf ha]

theorem unlinked_groupsKept (h : (s.port p).resumes = true) (ha : (s.port p).config.autoRecovery = true) :
    GroupsKept s (s.unlinked p c) := fun g => by
  rw [State.unlinked, if_pos (by simp [h, ha])]
  exact State.group_congr (linkNoted_groups s p c) g

theorem unlinked_groupsLeft (h : ¬ ((s.port p).resumes = true ∧ (s.port p).config.autoRecovery = true)) :
    GroupsLeft p s (s.unlinked p c) := by
  rw [State.unlinked, if_neg (by simpa using h)]
  exact (leave_groupsLeft _ p).after (linkNoted_groups s p c)

end unlinked

/-! ### The requests of a port whose link ends -/

/-- The port once its active transfer has met its fate. -/
def Port.served (x : Port) (fate : Fate) : Port :=
  match x.te.transfer with
  | some b => x.transferOver (fate.queue b x.queue)
  | none => x

theorem stopActive_served (s : State) (p : PortId) (toIdle : Bool) :
    (s.stopActive p false toIdle).port p = (s.port p).served (s.fateOf p toIdle) := by
  unfold Port.served
  cases h : (s.port p).te.transfer with
  | none => rw [stopActive_of_none h]
  | some b => exact stopActive_port h toIdle

@[simp] theorem slotEnded_te (x : Port) : x.slotEnded.te = x.te := rfl

@[simp] theorem unlinked_te (x : Port) (toIdle : Bool) : (x.unlinked toIdle).te = x.te := by
  cases toIdle <;> rfl

theorem endSlot_bus (s : State) (p : PortId) (of : ControlKind → Status) (r : Word) : (s.endSlot p of r).bus = s.bus := by
  unfold State.endSlot
  split
  · rfl
  · rw [handOver_bus, State.modPort_bus]

theorem unslotted_port (s : State) (p : PortId) (c : Cause) :
    (s.unslotted p c).port p = ((s.port p).unlinked (!(s.port p).config.autoRecovery)).slotEnded := by
  rw [State.unslotted, endSlot_port, unlinked_port]

theorem unslotted_fateOf (s : State) (p : PortId) (c : Cause) (toIdle : Bool) :
    (s.unslotted p c).fateOf p toIdle = s.fateOf p toIdle := by
  have hf : (s.unslotted p c).flightOf Access.transferPort p = s.flightOf Access.transferPort p :=
    (flightOf_congr (congrArg Bus.flight (endSlot_bus _ p _ _))).trans (unlinked_flightOf s p c)
  rw [State.fateOf, State.fateOf, unslotted_port, hf, slotEnded_te, unlinked_te]

theorem linkEnd_port (s : State) (p : PortId) (c : Cause) : (s.linkEnd p c).port p =
    let toIdle := !(s.port p).config.autoRecovery
    let y := ((s.port p).unlinked toIdle).slotEnded.served (s.fateOf p toIdle)
    if toIdle then { y with queue := y.queue.filter fun u => u.ending.isSome } else y := by
  rw [linkEnd_eq]
  dsimp only
  have h := stopActive_served (s.unslotted p c) p (!(s.port p).config.autoRecovery)
  rw [unslotted_fateOf, unslotted_port] at h
  split
  · rw [handQueue_port, h]
  · exact h

theorem linkEnd_lists (s : State) (p : PortId) (c : Cause) : ListsKept (s.unlinked p c) (s.linkEnd p c) := by
  rw [linkEnd_eq]
  exact ite_lists (handQueue_lists (stopActive_lists (endSlot_lists (.refl _) _ _) _ _) _)
    (stopActive_lists (endSlot_lists (.refl _) _ _) _ _)

/-! ### What the end of a link hands over (R33, R34, R120, R148) -/

theorem lostSlot_eq {x : Port} {k : ControlKind} {id : Nat} (h : x.slot = some (k, id)) :
    lostSlot k = if x.stopWaits then .ok else .linkLost := by
  unfold Port.stopWaits lostSlot
  rw [h]
  cases k <;> rfl

@[simp] theorem unlinked_slot (x : Port) (toIdle : Bool) : (x.unlinked toIdle).slot = x.slot := by
  cases toIdle <;> rfl

@[simp] theorem unlinked_queue (x : Port) (toIdle : Bool) : (x.unlinked toIdle).queue = x.queue := by
  cases toIdle <;> rfl

theorem unslotted_hands {slot : List OrtEntry} (hs : slot.map (·.id) = ((s.port p).slot.map (·.2)).toList)
    (hp : ∀ w ∈ slot, s.Pends w) (c : Cause) : Hands (s.unlinked p c) (s.unslotted p c)
      (slot.map fun n => (n, if (s.port p).stopWaits then .ok else .linkLost, 0)) := by
  refine endSlot_hands ?_ (fun w hw => pends_congr (unlinked_ort s p c) (hp w hw)) _ 0 fun k id h => ?_
  · rw [hs, unlinked_port, unlinked_slot]
  · rw [unlinked_port, unlinked_slot] at h
    exact lostSlot_eq h

/-- The place of the active transfer is the head's, and no transfer at that place has ended (R26, R108). -/
def Port.HeadActive (x : Port) (b : Transfer) : Prop :=
  (x.queue.map (·.ort)).head? = some b.ort ∧ ∀ u ∈ x.queue, u.ort = b.ort → u.ending = none

theorem queuedIds_of_headActive {x : Port} (h : x.HeadActive b) : ∃ rest, x.queuedIds = b.ort :: rest := by
  obtain ⟨hh, hn⟩ := h
  cases hq : x.queue with
  | nil => simp [hq] at hh
  | cons a l =>
    have ha : a.ort = b.ort := by simpa [hq] using hh
    have he : a.ending = none := hn a (by simp [hq]) ha
    exact ⟨(l.filter fun u => u.ending.isNone).map (·.ort), by simp [Port.queuedIds, hq, he, ha]⟩

/-- The queue once its active transfer has met its fate; of what is then queued and not ended, only what is kept stands at the
place of that transfer. -/
theorem queue_ne {fate : Fate} (h : fate ≠ .kept) (l : List Transfer) :
    ∀ u ∈ fate.queue b l, u.ending = none → u.ort ≠ b.ort := by
  intro u hu he hb
  cases fate with
  | kept => exact h rfl
  | handed st r =>
    have := (List.mem_filter.mp hu).2
    simp [hb] at this
  | waits e =>
    obtain ⟨a, -, rfl⟩ := List.mem_map.mp hu
    by_cases ha : a.ort = b.ort
    · rw [if_pos ha] at he
      cases he
    · rw [if_neg ha] at hb
      exact ha hb

/-- The queue is handed over with the transfer that has returned to its head (R34, R120). -/
theorem handQueue_hands_kept {behind : List OrtEntry} (hh : (s.port p).HeadActive b) (hw : w.id = b.ort)
    (hb : behind.map (·.id) = (s.port p).queuedIds.filter (· ≠ b.ort)) (hn : ((w :: behind).map (·.id)).Nodup)
    (hp : ∀ v ∈ w :: behind, s.Pends v) (st : Status) :
    Hands s (s.handQueue p st) ((w :: behind).map fun n => (n, st, 0)) := by
  obtain ⟨rest, hrest⟩ := queuedIds_of_headActive hh
  generalize hv : s.modPort p (fun x => { x with queue := x.queue.filter fun u => u.ending.isSome }) = v
  have hsv : Hands s v [] := by
    rw [← hv]
    exact .of_eq rfl rfl rfl
  have hq : s.handQueue p st = (v.handOver w.id st 0).handAll rest st := by
    rw [hw, ← hv]
    change (s.modPort p _).handAll (s.port p).queuedIds st = _
    rw [hrest]
    rfl
  rw [List.map_cons, List.nodup_cons] at hn
  have hfirst : Hands s (v.handOver w.id st 0) [(w, st, 0)] := hsv.handOver (hp w (List.mem_cons_self ..)) st 0
  rw [hq]
  refine hfirst.trans (handAll_hands_of_done (a := w.id) ?_ hn.2 (fun x hx => ?_)
    (hfirst.handed _ (List.mem_singleton_self _)) (hfirst.notAwaited _ (hp w (List.mem_cons_self ..)).2) st)
  · rw [hb, hrest, hw]
    simp
  · refine hfirst.pends x (hp x (List.mem_cons_of_mem _ hx)) fun y hy => ?_
    obtain rfl := List.mem_singleton.mp hy
    exact fun he => hn.1 (List.mem_map.mpr ⟨x, hx, he.symm⟩)

theorem id_ne_of_nodup {l m : List OrtEntry} (h : ((l ++ m).map (·.id)).Nodup) {v w : OrtEntry} (hv : v ∈ l) (hw : w ∈ m) :
    v.id ≠ w.id := fun he => by
  rw [List.map_append] at h
  exact List.disjoint_of_nodup_append h (List.mem_map_of_mem hv) (he ▸ List.mem_map_of_mem hw)

theorem handedNow_entry {fate : Fate} {x : OrtEntry × Status × Word} (h : x ∈ fate.handedNow w) : x.1 = w := by
  cases fate with
  | handed st r => rw [List.mem_singleton.mp h]
  | kept => cases h
  | waits e => cases h

/-- The table entries of the requests that the end of a link meets, as the claims name them: the occupant of the control slot,
the active transfer, and the transfers queued besides it. -/
structure LinkRequests (x : Port) (slot active : List OrtEntry) : Prop where
  slot : slot.map (·.id) = (x.slot.map (·.2)).toList
  active : active.map (·.id) = (x.te.transfer.map (·.ort)).toList

section linkRequests

variable {slot active behind : List OrtEntry}

theorem LinkRequests.active_nil (h : LinkRequests (s.port p) slot active) (ht : (s.port p).te.transfer = none) :
    active = [] := by
  have := h.active
  rw [ht] at this
  exact List.map_eq_nil_iff.mp this

theorem LinkRequests.active_singleton (h : LinkRequests (s.port p) slot active) (ht : (s.port p).te.transfer = some b) :
    ∃ w, active = [w] ∧ w.id = b.ort := by
  have := h.active
  rw [ht] at this
  exact List.map_eq_singleton_iff.mp this

/-- The active transfer of a port whose link ends. -/
theorem unslotted_transfer (s : State) (p : PortId) (c : Cause) :
    ((s.unslotted p c).port p).te.transfer = (s.port p).te.transfer := by
  rw [unslotted_port, slotEnded_te, unlinked_te]

variable (h : LinkRequests (s.port p) slot active) (hn : ((slot ++ active ++ behind).map (·.id)).Nodup)
  (hp : ∀ w ∈ slot ++ active ++ behind, s.Pends w) (c : Cause) (toIdle : Bool)
include h hn hp

/-- What pended besides the slot still does once that is handed over. -/
theorem unslotted_pends {v : OrtEntry} (hv : v ∈ active ++ behind) : (s.unslotted p c).Pends v := by
  have hslot := unslotted_hands h.slot (fun w hw => hp w (by simp [hw])) c
  rw [List.append_assoc] at hn hp
  refine hslot.pends v (pends_congr (unlinked_ort s p c) (hp v (List.mem_append_right _ hv))) fun x hx => ?_
  obtain ⟨y, hy, rfl⟩ := List.mem_map.mp hx
  exact id_ne_of_nodup hn hy hv

/-- The slot and the active transfer are handed over as they end. -/
theorem stopActive_hands_unlinked : Hands (s.unlinked p c) ((s.unslotted p c).stopActive p false toIdle)
    (slot.map (fun n => (n, if (s.port p).stopWaits then .ok else .linkLost, 0)) ++
      active.flatMap (s.fateOf p toIdle).handedNow) := by
  have hslot := unslotted_hands h.slot (fun w hw => hp w (by simp [hw])) c
  cases ht : (s.port p).te.transfer with
  | none =>
    rw [stopActive_of_none ((unslotted_transfer s p c).trans ht), h.active_nil ht]
    simpa using hslot
  | some b =>
    obtain ⟨w, rfl, hw⟩ := h.active_singleton ht
    have hpw : (s.unslotted p c).Pends w := unslotted_pends h hn hp c (by simp)
    have hact := stopActive_hands ((unslotted_transfer s p c).trans ht) hw hpw toIdle
    rw [unslotted_fateOf] at hact
    simpa using hslot.trans hact

/-- What pended besides the slot still does once the active transfer has met its fate, unless it was handed over. -/
theorem stopActive_pends_unlinked {v : OrtEntry} (hv : v ∈ behind ∨ (v ∈ active ∧ ∀ st r, s.fateOf p toIdle ≠ .handed st r)) :
    ((s.unslotted p c).stopActive p false toIdle).Pends v := by
  have hmem : v ∈ active ++ behind := hv.elim (fun h => by simp [h]) fun h => by simp [h.1]
  refine (stopActive_hands_unlinked h hn hp c toIdle).pends v
    (pends_congr (unlinked_ort s p c) (hp v (by rw [List.append_assoc]; exact List.mem_append_right _ hmem))) fun x hx => ?_
  obtain hx | hx := List.mem_append.mp hx
  · obtain ⟨y, hy, rfl⟩ := List.mem_map.mp hx
    rw [List.append_assoc] at hn
    exact id_ne_of_nodup hn hy hmem
  · obtain ⟨y, hy, hx⟩ := List.mem_flatMap.mp hx
    obtain hv | ⟨-, hf⟩ := hv
    · rw [handedNow_entry hx]
      exact id_ne_of_nodup hn (List.mem_append_right _ hy) hv
    · cases hfate : s.fateOf p toIdle with
      | handed st r => exact absurd hfate (hf st r)
      | kept => rw [hfate] at hx; cases hx
      | waits e => rw [hfate] at hx; cases hx

end linkRequests

/-- The queue once the active transfer has met its fate. -/
def Port.leftBy (x : Port) (fate : Fate) : List Transfer :=
  match x.te.transfer with
  | some b => fate.queue b x.queue
  | none => x.queue

theorem served_queue (x : Port) (fate : Fate) : (x.served fate).queue = x.leftBy fate := by
  unfold Port.served Port.leftBy
  cases x.te.transfer <;> rfl

theorem served_unlinked_queue (x : Port) (toIdle : Bool) (fate : Fate) :
    ((x.unlinked toIdle).slotEnded.served fate).queue = x.leftBy fate := by
  rw [served_queue]
  unfold Port.leftBy
  rw [slotEnded_te, unlinked_te]
  cases toIdle <;> rfl

theorem stopActive_queue_unlinked (s : State) (p : PortId) (c : Cause) (toIdle : Bool) :
    (((s.unslotted p c).stopActive p false toIdle).port p).queue = (s.port p).leftBy (s.fateOf p toIdle) := by
  rw [stopActive_served, unslotted_fateOf, unslotted_port, served_unlinked_queue]

/-- The table entries of the transfers queued and not ended besides the active one. -/
def Port.behindIds (x : Port) (fate : Fate) : List Nat :=
  (((x.leftBy fate).filter fun u => u.ending.isNone).map (·.ort)).filter fun i => some i ≠ x.te.transfer.map (·.ort)

/-- Only a transfer that is kept stands in the queue at its place, not ended. -/
theorem behindIds_eq {x : Port} {fate : Fate} (h : x.te.transfer = none ∨ fate ≠ .kept) :
    x.behindIds fate = ((x.leftBy fate).filter fun u => u.ending.isNone).map (·.ort) := by
  refine List.filter_eq_self.mpr fun i hi => ?_
  obtain ⟨u, hu, rfl⟩ := List.mem_map.mp hi
  obtain ⟨hu, he⟩ := List.mem_filter.mp hu
  cases ht : x.te.transfer with
  | none => simp
  | some b =>
    have hk := h.resolve_left (by simp [ht])
    rw [Port.leftBy, ht] at hu
    simpa using queue_ne hk _ u hu (by simpa using he)

/-- What the end of a link hands over with the queue, in IDLE (R34). -/
def lostWith (fate : Fate) (toIdle : Bool) (active behind : List OrtEntry) : List OrtEntry :=
  if toIdle then (if fate = .kept then active ++ behind else behind) else []

section linkEnd

variable {slot active behind : List OrtEntry} (h : LinkRequests (s.port p) slot active)
  (hb : behind.map (·.id) = (s.port p).behindIds (s.fateOf p (!(s.port p).config.autoRecovery)))
  (hn : ((slot ++ active ++ behind).map (·.id)).Nodup) (hp : ∀ w ∈ slot ++ active ++ behind, s.Pends w)
  (hh : ∀ b, (s.port p).te.transfer = some b → (s.port p).HeadActive b) (c : Cause)
include h hb hn hp hh

theorem handQueue_hands_unlinked (hi : (s.port p).config.autoRecovery = false) :
    Hands ((s.unslotted p c).stopActive p false true)
      (((s.unslotted p c).stopActive p false true).handQueue p .linkLost)
      ((lostWith (s.fateOf p true) true active behind).map fun n => (n, .linkLost, 0)) := by
  have hq := stopActive_queue_unlinked s p c true
  have hpend := fun {v} => stopActive_pends_unlinked (v := v) h hn hp c true
  rw [hi, Bool.not_false] at hb
  have hnb : (behind.map (·.id)).Nodup := by
    rw [List.map_append] at hn
    exact (List.nodup_append.mp hn).2.1
  unfold lostWith
  rw [if_pos rfl]
  by_cases hk : (s.port p).te.transfer = none ∨ s.fateOf p true ≠ .kept
  · have hlost : (if s.fateOf p true = .kept then active ++ behind else behind) = behind := by
      obtain ht | hk := hk
      · simp [h.active_nil ht]
      · rw [if_neg hk]
    rw [hlost]
    rw [behindIds_eq hk, ← hq] at hb
    exact handQueue_hands hb hnb (fun v hv => hpend (.inl hv)) .linkLost
  · obtain ⟨ht, hkept⟩ := not_or.mp hk
    rw [not_not] at hkept
    obtain ⟨b, ht⟩ := Option.ne_none_iff_exists'.mp ht
    obtain ⟨w, rfl, hw⟩ := h.active_singleton ht
    have hqk : (((s.unslotted p c).stopActive p false true).port p).queue = (s.port p).queue := by
      rw [hq, hkept, Port.leftBy, ht]
      rfl
    rw [if_pos hkept, List.singleton_append]
    refine handQueue_hands_kept (b := b) ?_ hw ?_ ?_ (fun v hv => hpend ?_) .linkLost
    · unfold Port.HeadActive
      rw [hqk]
      exact hh b ht
    · rw [hb, Port.behindIds, ht, Port.queuedIds, hq]
      simp
    · rw [List.append_assoc, List.map_append] at hn
      exact (List.nodup_append.mp hn).2.1
    · obtain rfl | hv := List.mem_cons.mp hv
      · exact .inr ⟨by simp, fun st r => by simp [hkept]⟩
      · exact .inl hv

theorem linkEnd_hands : Hands (s.unlinked p c) (s.linkEnd p c)
    (slot.map (fun n => (n, if (s.port p).stopWaits then .ok else .linkLost, 0)) ++
      active.flatMap (s.fateOf p (!(s.port p).config.autoRecovery)).handedNow ++
      (lostWith (s.fateOf p (!(s.port p).config.autoRecovery)) (!(s.port p).config.autoRecovery) active behind).map fun n =>
        (n, .linkLost, 0)) := by
  rw [linkEnd_eq]
  dsimp only
  have hstop := stopActive_hands_unlinked h hn hp c
  cases hi : (s.port p).config.autoRecovery with
  | true => simpa [lostWith] using hstop false
  | false => exact (hstop true).trans (handQueue_hands_unlinked h hb hn hp hh c hi)

end linkEnd

theorem resumes_iff (x : Port) : x.resumes = true ↔ x.state = .cyclic ∧ x.stopWaits = false ∧ x.cyc.faultPending = false := by
  simp [Port.resumes, and_assoc]

/-- An access in flight is given up with the transfer that waits for its end. -/
theorem linkEnd_flight {c : Cause} {f : BusFlight} {e : Ending} (ht : (s.port p).te.transfer = some b)
    (hw : s.fateOf p (!(s.port p).config.autoRecovery) = .waits e) (hf : s.bus.flight = some f)
    (ha : f.access.transferPort = some p) : (s.linkEnd p c).bus.flight = some { f with live := false } := by
  have hu : (s.unslotted p c).bus.flight = some f := by
    rw [State.unslotted, endSlot_bus, unlinked_flight s p c hf ha]
  have hstop := stopActive_flight (toIdle := !(s.port p).config.autoRecovery) ((unslotted_transfer s p c).trans ht)
    (by rw [unslotted_fateOf, hw]) hu ha
  rw [linkEnd_eq]
  dsimp only
  split
  · rw [State.handQueue]
    rw [handAll_bus, State.modPort_bus, hstop]
  · exact hstop

/-- The transfer that waits stands in the queue as ended. -/
theorem linkEnd_queue_waits {c : Cause} {e : Ending} (ht : (s.port p).te.transfer = some b)
    (hw : s.fateOf p (!(s.port p).config.autoRecovery) = .waits e) :
    ∀ u ∈ ((s.linkEnd p c).port p).queue, u.ort = b.ort → u.ending = some e := by
  have hq : ∀ u ∈ (s.port p).leftBy (s.fateOf p (!(s.port p).config.autoRecovery)), u.ort = b.ort → u.ending = some e := by
    intro u hu hb
    rw [hw, Port.leftBy, ht] at hu
    obtain ⟨a, -, rfl⟩ := List.mem_map.mp hu
    by_cases ha : a.ort = b.ort
    · simp [ha]
    · rw [if_neg ha] at hb
      exact absurd hb ha
  intro u hu
  refine hq u ?_
  rw [linkEnd_port] at hu
  dsimp only at hu
  split at hu
  · dsimp only at hu
    rw [served_unlinked_queue] at hu
    exact List.mem_of_mem_filter hu
  · rwa [served_unlinked_queue] at hu

/-- What no fate of the active transfer changes of a port. -/
theorem served_kept (x : Port) (fate : Fate) : x.served fate = { x with
    te := (x.served fate).te, xclaims := (x.served fate).xclaims, queue := (x.served fate).queue } := by
  unfold Port.served
  cases x.te.transfer <;> rfl

/-- The port after the end of its link. -/
theorem linkEnd_port_kept (s : State) (p : PortId) (c : Cause) : ∃ te xclaims queue,
    (s.linkEnd p c).port p = { ((s.port p).unlinked (!(s.port p).config.autoRecovery)).slotEnded with
      te := te, xclaims := xclaims, queue := queue } := by
  rw [linkEnd_port]
  dsimp only
  rw [served_kept]
  split <;> exact ⟨_, _, _, rfl⟩

theorem linkEnd_te {c : Cause} (ht : (s.port p).te.transfer.isSome = true) :
    ((s.linkEnd p c).port p).te = { TransferEngine.reset with lastToggle := (s.port p).te.lastToggle } ∧
      ((s.linkEnd p c).port p).xclaims = (s.port p).xclaims.filter (·.isReport) := by
  obtain ⟨b, ht⟩ := Option.isSome_iff_exists.mp ht
  rw [linkEnd_port]
  dsimp only
  have hs : ∀ toIdle fate, ((s.port p).unlinked toIdle).slotEnded.served fate =
      ((s.port p).unlinked toIdle).slotEnded.transferOver (fate.queue b ((s.port p).unlinked toIdle).slotEnded.queue) := by
    intro toIdle fate
    unfold Port.served
    rw [slotEnded_te, unlinked_te, ht]
  rw [hs]
  cases (s.port p).config.autoRecovery <;> exact ⟨rfl, rfl⟩

theorem linkEnd_queue (s : State) (p : PortId) (c : Cause) : ((s.linkEnd p c).port p).queue =
    let left := (s.port p).leftBy (s.fateOf p (!(s.port p).config.autoRecovery))
    if (s.port p).config.autoRecovery then left else left.filter fun u => u.ending.isSome := by
  rw [linkEnd_port]
  dsimp only
  cases (s.port p).config.autoRecovery <;>
    simp only [Bool.not_true, Bool.not_false, Bool.false_eq_true, if_true, if_false, served_unlinked_queue]

theorem mem_behind_of_lostWith {fate : Fate} {toIdle : Bool} {active behind : List OrtEntry} (hk : fate ≠ .kept)
    (h : w ∈ lostWith fate toIdle active behind) : w ∈ behind := by
  unfold lostWith at h
  rw [if_neg hk] at h
  cases toIdle with
  | true => exact h
  | false => cases h

/-- A transfer whose fate is to wait is handed over when its access ends (R34). -/
theorem linkEnd_handedAtAccessEnd {slot active behind : List OrtEntry} (h : LinkRequests (s.port p) slot active)
    (hb : behind.map (·.id) = (s.port p).behindIds (s.fateOf p (!(s.port p).config.autoRecovery)))
    (hn : ((slot ++ active ++ behind).map (·.id)).Nodup) (hp : ∀ w ∈ slot ++ active ++ behind, s.Pends w)
    (hh : ∀ b, (s.port p).te.transfer = some b → (s.port p).HeadActive b) (c : Cause) {e : Ending}
    (ht : (s.port p).te.transfer = some b) (hw : w ∈ active)
    (hwait : s.fateOf p (!(s.port p).config.autoRecovery) = .waits e) : HandedAtAccessEnd p w e s (s.linkEnd p c) := by
  have hon := stopActive_of_fate ht (!(s.port p).config.autoRecovery)
  rw [hwait] at hon
  have hwb : w.id = b.ort := by
    obtain ⟨v, rfl, hv⟩ := h.active_singleton ht
    rw [List.mem_singleton.mp hw, hv]
  refine handedAtAccessEnd_of hon.1 (fun f hf hfp => linkEnd_flight ht hwait hf hfp)
    (fun u hu hb => linkEnd_queue_waits ht hwait u hu (hb.trans hwb))
    ((linkEnd_hands h hb hn hp hh c).pends w (pends_congr (unlinked_ort s p c) (hp w (by simp [hw]))) fun v hv => ?_)
  rw [hwait] at hv
  obtain hv | hv := List.mem_append.mp hv
  · obtain hv | hv := List.mem_append.mp hv
    · obtain ⟨n, hslot, rfl⟩ := List.mem_map.mp hv
      rw [List.append_assoc] at hn
      exact id_ne_of_nodup hn hslot (by simp [hw])
    · obtain ⟨n, -, hv⟩ := List.mem_flatMap.mp hv
      cases hv
  · obtain ⟨n, hlost, rfl⟩ := List.mem_map.mp hv
    have hbehind : n ∈ behind := mem_behind_of_lostWith (fate := .waits e) (by simp) hlost
    exact (id_ne_of_nodup hn (List.mem_append_right _ hw) hbehind).symm

theorem linkEnd_linkEnds (s : State) (p : PortId) (c : Cause) : LinkEnds p c (s.port p).cyc s (s.linkEnd p c) := by
  obtain ⟨te, xclaims, queue, hport⟩ := linkEnd_port_kept s p c
  have hq := linkEnd_queue s p c
  have hlists := linkEnd_lists s p c
  have hres := resumes_iff (s.port p)
  unfold LinkEnds
  intro x y toIdle resume fate left queued
  have hleft : left = x.leftBy fate := by
    unfold Port.leftBy
    rfl
  have hsched : (resume ∧ toIdle = false ↔ x.resumes = true ∧ x.config.autoRecovery = true) := by
    simp only [toIdle, Bool.not_eq_false', x, hres]
    exact Iff.rfl
  have hy : y = { (x.unlinked toIdle).slotEnded with te := te, xclaims := xclaims, queue := queue } := hport
  refine ⟨?_, ?_, ?_, ?_, (unlinked_posted s p c).of_events hlists.events, ?_, ?_, ?_, ?_, ?_, ?_⟩
  · rw [hy]
    cases toIdle <;> rfl
  · rw [hy]
    cases toIdle <;> rfl
  · intro h
    rw [hy]
    have hs : (x.unlinked toIdle).slot.isSome = true := by rw [unlinked_slot]; exact h
    exact if_pos hs
  · have hr : y.resume = x.resumes := by
      rw [hy]
      cases toIdle <;> rfl
    rw [hr]
    exact hres
  · rw [hy]
    cases toIdle <;> rfl
  · have hyq : y.queue = if x.config.autoRecovery then left else left.filter fun u => u.ending.isSome := by
      rw [hleft]
      exact hq
    have hx : ∀ i, toIdle = i → y = { (x.unlinked i).slotEnded with te := te, xclaims := xclaims, queue := queue } := by
      rintro i rfl
      exact hy
    cases hi : x.config.autoRecovery with
    | true =>
      have ht : toIdle = false := by simp [toIdle, hi]
      rw [if_neg (by simp [ht])]
      rw [hi, if_pos rfl] at hyq
      refine ⟨?_, ?_, hyq, ?_⟩ <;> rw [hx false ht] <;> rfl
    | false =>
      have ht : toIdle = true := by simp [toIdle, hi]
      rw [if_pos ht]
      rw [hi, if_neg (by decide)] at hyq
      refine ⟨?_, ?_, ?_, hyq⟩ <;> rw [hx true ht] <;> rfl
  · intro h
    obtain ⟨hr, ha⟩ := hsched.mp h
    refine ⟨?_, fun g => (hlists.groupsKept g).trans (unlinked_groupsKept s p c hr ha g)⟩
    have ht : toIdle = false := h.2
    rw [hy, ht]
    change (if x.resumes && !false then x.sched else none) = x.sched
    rw [hr]
    rfl
  · intro h
    have hn := mt hsched.mpr h
    refine ⟨?_, (unlinked_groupsLeft s p c hn).of_groups hlists.groups⟩
    have hs : (x.resumes && !toIdle) = false := by
      rw [Bool.eq_false_iff]
      simpa [toIdle] using hn
    have : y.sched = if x.resumes && !toIdle then x.sched else none := by
      rw [hy]
      cases toIdle <;> rfl
    rw [this, hs]
    rfl
  · exact fun h => linkEnd_te h
  · intro slot active behind hs ha hb hn ho hhead lost
    have hreq : LinkRequests x slot active := ⟨hs, ha⟩
    have hids : behind.map (·.id) = x.behindIds fate := by
      rw [hb, Port.behindIds, ← hleft]
    have hp : ∀ w ∈ slot ++ active ++ behind, s.Pends w := fun w hw => ho.pends hw
    have hands := linkEnd_hands hreq hids hn hp hhead c
    have hactive : ∀ w ∈ active, ∃ b, x.te.transfer = some b ∧ w.id = b.ort := by
      intro w hw
      cases ht : x.te.transfer with
      | none => rw [hreq.active_nil ht] at hw; cases hw
      | some b =>
        obtain ⟨v, rfl, hv⟩ := hreq.active_singleton ht
        exact ⟨b, rfl, by rw [List.mem_singleton.mp hw, hv]⟩
    refine ⟨hands.inOrder_of (unlinked_done s p c), fun w hw hk hi => ?_, fun w hw e he => ?_⟩
    · obtain ⟨b, ht, hwb⟩ := hactive w hw
      have ha : (s.port p).config.autoRecovery = true := by simpa [toIdle] using hi
      have hkept : (s.unslotted p c).fateOf p false = .kept := by
        rw [unslotted_fateOf]
        have : s.fateOf p toIdle = .kept := hk
        rwa [hi] at this
      rw [linkEnd_eq, ha]
      exact stopActive_queued ((unslotted_transfer s p c).trans ht) hwb
        (unslotted_pends hreq hn hp c (List.mem_append_left _ hw)) hkept
    · obtain ⟨b, ht, hwb⟩ := hactive w hw
      exact linkEnd_handedAtAccessEnd hreq hids hn hp hhead c ht hw he

end Sys2Proof.Machine
end

section
/-! PROOFS. What the outcome of an exchange leaves of its port: the line but for a frame held, and, of what the Transfer Engine
does, all but that engine, its claims and the queue (R15, R16). -/

namespace Sys2Proof.Machine

/- Each proof waits for the kernel; checked one after another, they need no more threads than the rest of the package. -/
set_option Elab.async false

variable {p : PortId} {s t u : State}

/-! ### The line and what is counted on it -/

/-- What no outcome of an exchange changes: the line but for what it holds, the configuration, and the counts that do not tell of
the link. -/
structure LineView where
  lf : Framer
  rxd : Bool
  config : PortConfig
  cyclesStarted : Word
  failed : Word
  lastFailure : Option Cause

def Port.view (x : Port) : LineView :=
  { lf := { x.lf with held := none }, rxd := x.rxd, config := x.config, cyclesStarted := x.counters.cyclesStarted
    failed := x.counters.failed, lastFailure := x.counters.lastFailure }

/-! ### The Transfer Engine's own part of a port -/

/-- The port but for the Transfer Engine, its claims and its queue. -/
def Port.beside (x : Port) : Port := { x with te := TransferEngine.reset, xclaims := [], queue := [] }

/-- Only the Transfer Engine of the port, its claims and its queue have changed, and neither groups nor events. -/
structure Serves (p : PortId) (s t : State) : Prop where
  beside : (t.port p).beside = (s.port p).beside
  lists : ListsKept s t

theorem Serves.refl (p : PortId) (s : State) : Serves p s s := ⟨rfl, .refl s⟩

theorem Serves.trans (h : Serves p s t) (k : Serves p t u) : Serves p s u :=
  ⟨k.beside.trans h.beside, h.lists.trans k.lists⟩

/-- What the Transfer Engine leaves of its port. -/
theorem Serves.kept (h : Serves p s t) : (t.port p).state = (s.port p).state ∧ (t.port p).slot = (s.port p).slot ∧
    (t.port p).sched = (s.port p).sched ∧ (t.port p).link = (s.port p).link ∧ (t.port p).cyc = (s.port p).cyc ∧
    (t.port p).config = (s.port p).config ∧ (t.port p).counters = (s.port p).counters :=
  ⟨(congrArg Port.state h.beside :), (congrArg Port.slot h.beside :), (congrArg Port.sched h.beside :),
    (congrArg Port.link h.beside :), (congrArg Port.cyc h.beside :), (congrArg Port.config h.beside :),
    (congrArg Port.counters h.beside :)⟩

section serves

variable (h : Serves p s t)
include h

theorem Serves.view : (t.port p).view = (s.port p).view :=
  show (t.port p).beside.view = (s.port p).beside.view from congrArg Port.view h.beside

theorem modPort_serves {f : Port → Port} (hf : ∀ x, (f x).beside = x.beside := by intro; rfl) :
    Serves p s (t.modPort p f) :=
  ⟨by rw [State.port_modPort_self, hf, h.beside], modPort_lists h.lists f⟩

theorem modTe_serves (f : TransferEngine → TransferEngine) : Serves p s (t.modTe p f) := modPort_serves h

theorem handOver_serves (id : Nat) (st : Status) (r : Word) : Serves p s (t.handOver id st r) :=
  ⟨by rw [handOver_port, h.beside], handOver_lists h.lists id st r⟩

theorem endActive_serves (st : Status) (r : Word) : Serves p s (t.endActive p st r) := by
  unfold State.endActive
  split
  · exact h
  · exact handOver_serves (modPort_serves (modPort_serves h)) _ _ _

theorem endAbandoned_serves : Serves p s (t.endAbandoned p) := by
  unfold State.endAbandoned
  split
  · exact h
  · exact endActive_serves h _ _

theorem ite_serves {c : Prop} [Decidable c] {v : State} (k : Serves p s v) : Serves p s (if c then t else v) := by
  split
  · exact h
  · exact k

theorem claimFetch_serves (b : Transfer) : Serves p s (t.claimFetch p b) := modPort_serves h

theorem abandonNow_serves : Serves p s (t.abandonNow p) := modPort_serves h

theorem abandonFor_serves (c : AbandonCause) : Serves p s (t.abandonFor p c) :=
  ite_serves (abandonNow_serves (modTe_serves h _)) (endAbandoned_serves (modTe_serves h _))

theorem busyReply_serves (f : TransferEngine → TransferEngine) : Serves p s (t.busyReply p f) :=
  ite_serves (endActive_serves (modTe_serves h _) _ _) (modTe_serves (modTe_serves h _) _)

theorem writeAccepted_serves (b : Transfer) (g : Segment) : Serves p s (t.writeAccepted p b g) :=
  ite_serves (endActive_serves (modTe_serves h _) _ _) (claimFetch_serves (modTe_serves h _) _)

theorem readAccepted_serves (b : Transfer) (l : List Byte) (last : Bool) : Serves p s (t.readAccepted p b l last) :=
  have h₁ := modTe_serves h _
  ite_serves (abandonFor_serves h₁ _)
    (ite_serves (ite_serves (endActive_serves h₁ _ _) (busyReply_serves h₁ _)) (modPort_serves h₁))

theorem segmentReply_serves (b : Transfer) (g : Segment) (l : List Byte) : Serves p s (t.segmentReply p b g l) := by
  unfold State.segmentReply
  dsimp only
  split
  · exact endActive_serves h _ _
  · exact busyReply_serves h _
  · exact ite_serves (writeAccepted_serves h _ _) (readAccepted_serves h _ _ _)

theorem segmentReplyAbandoned_serves (g : Segment) (l : List Byte) : Serves p s (t.segmentReplyAbandoned p g l) :=
  ite_serves (endAbandoned_serves h) (abandonNow_serves h)

theorem segmentFailed_serves : Serves p s (t.segmentFailed p) :=
  ite_serves (abandonNow_serves h)
    (ite_serves (modTe_serves (modTe_serves h _) _) (abandonFor_serves (modTe_serves h _) _))

theorem handEnded_serves (x : Bool) : Serves p s (t.handEnded p x) :=
  ⟨by rw [handEnded_port, ← h.beside]; rfl, handEnded_lists h.lists x⟩

end serves

/-! ### Misses (R32) -/

/-- The port with one more miss, where it keeps the count (R32). -/
def Port.missed (x : Port) : Port :=
  if x.state.hasLink then { x with counters := { x.counters with misses := x.counters.misses + 1 } } else x

@[simp] theorem withPort_self (s : State) (p : PortId) : s.withPort p (s.port p) = s := by
  unfold State.withPort State.port
  rw [Vector.set_getElem_self]

@[simp] theorem withPort_withPort (s : State) (p : PortId) (y z : Port) : (s.withPort p y).withPort p z = s.withPort p z :=
  modPort_withPort s p y fun _ => z

theorem missEndsLink_iff : s.missEndsLink p = true ↔
    (s.port p).state.hasLink = true ∧ (s.port p).config.missLimit ≤ (s.port p).counters.misses + 1 := by
  simp [State.missEndsLink]

theorem miss_of_limit (h : s.missEndsLink p = true) (c : Cause) : s.miss p c = s.linkEnd p c := by
  obtain ⟨hl, hm⟩ := missEndsLink_iff.mp h
  rw [State.miss, if_pos hl, if_pos hm]

theorem miss_below (h : s.missEndsLink p = false) (c : Cause) : s.miss p c = s.withPort p (s.port p).missed := by
  unfold State.miss Port.missed
  by_cases hl : (s.port p).state.hasLink = true
  · have hm : ¬ (s.port p).config.missLimit ≤ (s.port p).counters.misses + 1 := fun hm =>
      absurd (missEndsLink_iff.mpr ⟨hl, hm⟩) (by simp [h])
    rw [if_pos hl, if_pos hl, if_neg hm]
    rfl
  · rw [if_neg hl, if_neg hl, withPort_self]

theorem linkEnd_view (s : State) (p : PortId) (c : Cause) : ((s.linkEnd p c).port p).view = (s.port p).view := by
  obtain ⟨te, xclaims, queue, h⟩ := linkEnd_port_kept s p c
  rw [h]
  cases (s.port p).config.autoRecovery <;> rfl

theorem missed_view (x : Port) : x.missed.view = x.view := by
  unfold Port.missed
  split <;> rfl

end Sys2Proof.Machine
end

section
/-! PROOFS. The outcome of a CYCLIC exchange (R92 to R94, R97 to R99). -/

namespace Sys2Proof.Machine

/- Each proof waits for the kernel; checked one after another, they need no more threads than the rest of the package. -/
set_option Elab.async false

variable {p : PortId} {s t u : State} {w : OrtEntry}

/-! ### What waited for the end of a cycle (R97, R99) -/

/-- An image fault or a stop that waited for the cycle takes the port to READY. -/
def Port.stopsAfter (x : Port) : Prop := x.state = .cyclic ∧ (x.cyc.faultPending = true ∨
  (x.stopWaits = true ∧ x.cyc.admitted = false ∧ x.cyc.startWait = none))

/-- The port in READY, its schedule and its control slot gone. -/
def Port.readied (x : Port) : Port := { x with
  state := .ready, sched := none, slot := none, stopPending := false
  cyc := { x.cyc.discarded with faultPending := false } }

/-- The fault is no longer pending, and the schedule has ended in READY (R97). -/
def State.faultReady (p : PortId) (s : State) : State := (s.modCyc p fun c => { c with faultPending := false }).toReady p

theorem faultReady_port (s : State) (p : PortId) : (s.faultReady p).port p = { s.port p with
    state := .ready, sched := none, stopPending := false, cyc := { (s.port p).cyc.discarded with faultPending := false } } := by
  rw [State.faultReady, toReady_port, State.port_modCyc_self]
  rfl

theorem faultReady_ort (s : State) (p : PortId) : (s.faultReady p).ort = s.ort := by
  simp [State.faultReady, State.toReady, State.discardSample]

theorem faultReady_cpl (s : State) (p : PortId) : (s.faultReady p).cpl = s.cpl := by
  simp [State.faultReady, State.toReady, State.discardSample]

theorem faultReady_groupsLeft (s : State) (p : PortId) : GroupsLeft p s (s.faultReady p) := by
  refine ((leave_groupsLeft (s.modCyc p fun c => { c with faultPending := false }) p).of_groups ?_).after rfl
  simp [State.faultReady, State.toReady, State.discardSample]

theorem imageFaultReady_eq (s : State) (p : PortId) : s.imageFaultReady p =
    (s.faultReady p).endSlot p (fun k => if k = .cycleStart then .bufferFault else .ok) 0 := rfl

theorem imageFaultReady_port (s : State) (p : PortId) : (s.imageFaultReady p).port p = (s.port p).readied := by
  rw [imageFaultReady_eq, endSlot_port, faultReady_port]
  simp [Port.slotEnded, Port.readied]

theorem imageFaultReady_hands {k : ControlKind} (hs : (s.port p).slot = some (k, w.id)) (hk : k ≠ .cycleStart)
    (hw : s.Pends w) : HandedInOrder s (s.imageFaultReady p) [(w, .ok, 0)] := by
  rw [imageFaultReady_eq]
  have h : Hands (s.faultReady p) _ _ := endSlot_hands (s := s.faultReady p) (p := p) (slot := [w]) (st := .ok)
    (by rw [faultReady_port]; simp [hs]) (fun v hv => by
      obtain rfl := List.mem_singleton.mp hv
      exact pends_congr (faultReady_ort s p) hw) (fun k => if k = .cycleStart then .bufferFault else .ok) 0 (fun k' id h' => by
      rw [faultReady_port] at h'
      obtain ⟨rfl, -⟩ : k = k' ∧ w.id = id := by simpa [hs] using h'
      rw [if_neg hk])
  exact h.inOrder_of (by rw [faultReady_cpl])

/-- A stopped port whose Cycle Engine has no image fault pending. -/
theorem stopped_eq_readied {x : Port} (h : x.cyc.faultPending = false) : x.stopped = x.readied := by
  unfold Port.stopped Port.readied
  have : x.cyc.discarded = { x.cyc.discarded with faultPending := false } := by
    rw [← h]
    rfl
  rw [← this]

theorem afterCycle_eq (s : State) (p : PortId) : s.afterCycle p =
    if (s.port p).state = .cyclic ∧ (s.port p).cyc.faultPending = true then s.imageFaultReady p else s.cycleEnds p := by
  unfold State.afterCycle
  simp only [Bool.and_eq_true, decide_eq_true_eq]

theorem busy_eq_false {c : CycleEngine} (h : c.underWay = none) :
    c.busy = false ↔ c.admitted = false ∧ c.startWait = none := by
  simp [CycleEngine.busy, h]

/-- With no exchange under way, what waited for the end of the cycle takes the port to READY; else nothing happens. -/
theorem afterCycle_cases (hu : (s.port p).cyc.underWay = none) :
    ((s.port p).stopsAfter ∧ ((s.afterCycle p).port p = (s.port p).readied ∧ GroupsLeft p s (s.afterCycle p) ∧
      (s.afterCycle p).cpl.events = s.cpl.events ∧
      ∀ k w, (s.port p).slot = some (k, w.id) → k ≠ .cycleStart → s.Pends w →
        HandedInOrder s (s.afterCycle p) [(w, .ok, 0)])) ∨
    (¬ (s.port p).stopsAfter ∧ s.afterCycle p = s) := by
  have heq := afterCycle_eq s p
  by_cases hc : (s.port p).state = .cyclic
  · cases hf : (s.port p).cyc.faultPending with
    | true =>
      rw [if_pos ⟨hc, hf⟩] at heq
      refine .inl ⟨⟨hc, .inl hf⟩, ?_⟩
      rw [heq]
      refine ⟨imageFaultReady_port s p, ?_, ?_, fun k w hs hk hw => imageFaultReady_hands hs hk hw⟩
      · exact (faultReady_groupsLeft s p).of_groups (endSlot_lists (.refl _) _ _).groups
      · exact (endSlot_lists (.refl _) _ _).events.trans (congrArg CompletionWriter.events (faultReady_cpl s p))
    | false =>
      rw [if_neg (by simp [hf]), cycleEnds_eq] at heq
      simp only [busy_eq_false hu] at heq
      by_cases hstop : (s.port p).stopWaits = true ∧ (s.port p).cyc.admitted = false ∧ (s.port p).cyc.startWait = none
      · rw [if_pos ⟨hc, hstop⟩] at heq
        obtain ⟨hgroups, hevents⟩ := finishStop_lists s p
        refine .inl ⟨⟨hc, .inr hstop⟩, ?_⟩
        rw [heq]
        refine ⟨by rw [finishStop_port, stopped_eq_readied hf], (leave_groupsLeft s p).of_groups hgroups, hevents,
          fun k w hs _ hw => (finishStop_hands hs hw).inOrder⟩
      · rw [if_neg (fun h => hstop h.2)] at heq
        refine .inr ⟨fun h => ?_, heq⟩
        obtain ⟨-, h | h⟩ := h
        · rw [hf] at h
          cases h
        · exact hstop h
  · rw [if_neg (fun h => hc h.1), cycleEnds_eq, if_neg (fun h => hc h.1)] at heq
    exact .inr ⟨fun h => hc h.1, heq⟩

theorem afterCycle_cycleOver (hu : (s.port p).cyc.underWay = none) : CycleOver p (s.port p).cyc s (s.afterCycle p) := by
  unfold CycleOver
  obtain ⟨hstop, hport, hgroups, -, hands⟩ | ⟨hstop, heq⟩ := afterCycle_cases hu
  · unfold Port.stopsAfter at hstop
    rw [if_pos hstop, hport]
    exact ⟨rfl, rfl, rfl, rfl, hgroups, rfl, fun k w hs hk ho =>
      hands k w hs hk (ho.pends (List.mem_singleton_self w))⟩
  · unfold Port.stopsAfter at hstop
    rw [if_neg hstop, heq]
    exact ⟨rfl, rfl, rfl, rfl, fun _ => rfl, rfl, rfl⟩

/-- What the end of a cycle leaves of a port. -/
theorem afterCycle_others (hu : (s.port p).cyc.underWay = none) :
    ((s.afterCycle p).port p).view = (s.port p).view ∧ ((s.afterCycle p).port p).counters = (s.port p).counters ∧
      ((s.afterCycle p).port p).link = (s.port p).link ∧ ((s.afterCycle p).port p).queue = (s.port p).queue ∧
      ((s.afterCycle p).port p).te = (s.port p).te ∧ (s.afterCycle p).cpl.events = s.cpl.events ∧
      ((s.port p).state.hasLink = true → ((s.afterCycle p).port p).state.hasLink = true) := by
  obtain ⟨-, hport, -, hevents, -⟩ | ⟨-, heq⟩ := afterCycle_cases hu
  · rw [hport]
    exact ⟨rfl, rfl, rfl, rfl, rfl, hevents, fun _ => rfl⟩
  · rw [heq]
    exact ⟨rfl, rfl, rfl, rfl, rfl, rfl, id⟩

/-! ### A failed CYCLIC exchange (R32, R92) -/

/-- The port with no cycle's exchange under way. -/
def Port.cycled (x : Port) : Port := { x with cyc := { x.cyc with underWay := none } }

theorem cycleOutcome_failed (s : State) (p : PortId) (f : Frame) (c : Cause) : s.cycleOutcome p f (.failed c) =
    let u := s.withPort p (s.port p).cycled
    if u.missEndsLink p then u.linkEnd p c else (s.withPort p (s.port p).cycled.missed).afterCycle p := by
  have h : s.cycleOutcome p f (.failed c) =
      let u := s.withPort p (s.port p).cycled
      if u.missEndsLink p then u.miss p c else (u.miss p c).afterCycle p := rfl
  rw [h]
  dsimp only
  cases he : (s.withPort p (s.port p).cycled).missEndsLink p with
  | true => rw [if_pos rfl, if_pos rfl, miss_of_limit he]
  | false => rw [if_neg (by decide), if_neg (by decide), miss_below he, port_withPort, withPort_withPort]

theorem LinkEnds.of_cycled {c : Cause} {cyc : CycleEngine} (h : LinkEnds p c cyc (s.withPort p (s.port p).cycled) t) :
    LinkEnds p c cyc s t := by
  unfold LinkEnds at h ⊢
  rw [port_withPort] at h
  exact h

theorem CycleOver.of_missed {cyc : CycleEngine} (h : CycleOver p cyc (s.withPort p (s.port p).cycled.missed) t) :
    CycleOver p cyc s t := by
  unfold CycleOver at h ⊢
  rw [port_withPort] at h
  unfold Port.missed at h
  split at h <;> exact h

/-- What a failed CYCLIC exchange, counted already, does (R32, R92). -/
theorem cycleOutcome_fails (s : State) (p : PortId) (f : Frame) (c : Cause) :
    let x := s.port p
    let t := s.cycleOutcome p f (.failed c)
    (t.port p).view = x.view ∧
    (x.state.hasLink = true → x.counters.misses + 1 < x.config.missLimit →
      (t.port p).counters.misses = x.counters.misses + 1 ∧ (t.port p).link = x.link ∧ (t.port p).state.hasLink = true ∧
        t.cpl.events = s.cpl.events) ∧
    (x.state.hasLink = true → x.config.missLimit ≤ x.counters.misses + 1 → LinkEnds p c x.cycled.cyc s t) ∧
    ((x.state.hasLink = true → x.counters.misses + 1 < x.config.missLimit) → CycleOver p x.cycled.cyc s t) := by
  intro x t
  have ht : t = _ := cycleOutcome_failed s p f c
  have hlimit : (s.withPort p (s.port p).cycled).missEndsLink p = true ↔
      x.state.hasLink = true ∧ x.config.missLimit ≤ x.counters.misses + 1 := by
    rw [missEndsLink_iff, port_withPort]
    exact Iff.rfl
  dsimp only at ht
  by_cases he : (s.withPort p (s.port p).cycled).missEndsLink p = true
  · rw [if_pos he] at ht
    obtain ⟨hl, hm⟩ := hlimit.mp he
    refine ⟨?_, fun _ h => absurd hm (Nat.not_le_of_lt h), fun _ _ => ?_, fun h => absurd hm (Nat.not_le_of_lt (h hl))⟩
    · rw [ht, linkEnd_view, port_withPort]
      rfl
    · have h := linkEnd_linkEnds (s.withPort p (s.port p).cycled) p c
      rw [port_withPort] at h
      rw [ht]
      exact h.of_cycled
  · rw [if_neg he] at ht
    have hu : x.cycled.missed.cyc.underWay = none := by
      unfold Port.missed
      split <;> rfl
    have hcyc : x.cycled.missed.cyc = x.cycled.cyc := by
      unfold Port.missed
      split <;> rfl
    have hover := afterCycle_cycleOver (s := s.withPort p x.cycled.missed) (p := p) (by rw [port_withPort]; exact hu)
    obtain ⟨hview, hcount, hlink, -, -, hevents, hhas⟩ := afterCycle_others (s := s.withPort p x.cycled.missed) (p := p)
      (by rw [port_withPort]; exact hu)
    rw [port_withPort] at hover hview hcount hlink hhas
    rw [← ht] at hover hview hcount hlink hevents hhas
    refine ⟨hview.trans (missed_view _), fun hl hm => ?_, fun hl hm => absurd (hlimit.mpr ⟨hl, hm⟩) he, fun _ => ?_⟩
    · have hmiss : x.cycled.missed = { x.cycled with counters := { x.counters with misses := x.counters.misses + 1 } } :=
        if_pos hl
      rw [hmiss] at hcount hlink hhas
      exact ⟨by rw [hcount], hlink, hhas hl, hevents⟩
    · rw [hcyc] at hover
      exact hover.of_missed

end Sys2Proof.Machine
end

section
/-! PROOFS. The failed IDENTIFY and the failed service exchange (R46, R49, R52, R115 to R120). -/

namespace Sys2Proof.Machine

/- Each proof waits for the kernel; checked one after another, they need no more threads than the rest of the package. -/
set_option Elab.async false

variable {p : PortId} {s t u : State} {w : OrtEntry} {b : Transfer}

/-! ### The Bring-up Sequencer -/

theorem abortSequence_view (s : State) (p : PortId) : ((s.abortSequence p).port p).view = (s.port p).view := by
  unfold State.abortSequence
  rw [handQueue_port, endSlot_port, idleWithoutLink_port]
  rfl

theorem failSequence_view (s : State) (p : PortId) (n : Nat) : ((s.failSequence p n).port p).view = (s.port p).view := by
  unfold State.failSequence
  split
  · rw [handQueue_port, endSlot_port, idleWithoutLink_port]
    rfl
  · dsimp only
    rw [handQueue_port, idleWithoutLink_port, State.port_modPort_self, leave_port, post_port]
    rfl

theorem taking_of_guard {f : Framer} (h : f.state = .guard) (x : Handed) (n : Nat) : f.taking x n = { f with held := some x } :=
  if_pos h

/-- The sequencer of a port whose IDENTIFY at one rung has failed, at the next (R46). -/
def Sequencer.nextRung (q : Sequencer) : Sequencer := { q with rung := q.rung + 1 }

/-- The sequencer in backoff, an attempt having failed at `now` (R49). -/
def Sequencer.backedOff (q : Sequencer) (now backoff : Nat) : Sequencer :=
  { q with phase := .backoff, backoff := some (now + usUnits (Config.backoffUnit * backoff)) }

theorem identifyOutcome_failed (h : (s.port p).seq.phase = .identify) (c : Cause) : s.identifyOutcome p (.failed c) =
    let x := s.port p
    if x.seq.stopRequested = true then s.abortSequence p
    else if x.seq.rung < x.seq.ladder.length then (s.withPort p { x with seq := x.seq.nextRung }).handIdentify p
    else if x.seq.attempts < x.config.attempts then
      s.withPort p { x with seq := x.seq.backedOff s.time x.config.backoff }
    else s.failSequence p 1 := by
  unfold State.identifyOutcome
  rw [if_neg (by rw [h]; simp)]
  rfl

/-- What a failed IDENTIFY, counted already and guarded, does (R46, R49, R52). -/
theorem identifyOutcome_fails (hg : (s.port p).lf.state = .guard) (c : Cause) :
    let t := s.identifyOutcome p (.failed c)
    (t.port p).view = (s.port p).view ∧ ((s.port p).seq.phase = .identify → IdentifyFailed p s t) := by
  intro t
  by_cases hph : (s.port p).seq.phase = .identify
  · have ht : t = _ := identifyOutcome_failed hph c
    dsimp only at ht
    unfold IdentifyFailed
    by_cases hstop : (s.port p).seq.stopRequested = true
    · rw [if_pos hstop] at ht
      rw [if_pos hstop, ht]
      exact ⟨abortSequence_view s p, fun _ => abortSequence_bringUpEnds s p⟩
    rw [if_neg hstop] at ht ⊢
    by_cases hrung : (s.port p).seq.rung < (s.port p).seq.ladder.length
    · rw [if_pos hrung, handIdentify_withPort, taking_of_guard hg] at ht
      rw [if_pos hrung, ht, port_withPort]
      refine ⟨rfl, fun _ => ⟨?_, rfl, fun sp hsp => ?_⟩⟩
      · rw [← hph]
        rfl
      · have : (s.port p).seq.nextRung.rungSpeed = sp := by
          change (s.port p).seq.ladder.getD ((s.port p).seq.rung + 1 - 1) .l1 = sp
          rw [Nat.add_sub_cancel, List.getD_eq_getElem?_getD, hsp]
          rfl
        rw [this]
    rw [if_neg hrung] at ht ⊢
    by_cases hatt : (s.port p).seq.attempts < (s.port p).config.attempts
    · rw [if_pos hatt] at ht
      rw [if_pos hatt, ht, port_withPort]
      refine ⟨rfl, fun _ => ⟨rfl, ?_⟩⟩
      simp [Sequencer.backedOff, usUnits, Config.backoffUnit, Config.unitsPerUs, Nat.mul_comm]
    · rw [if_neg hatt] at ht
      rw [if_neg hatt, ht]
      exact ⟨failSequence_view s p 1, fun _ => failSequence_fails s p 1⟩
  · have ht : t = s := by
      change s.identifyOutcome p (.failed c) = s
      unfold State.identifyOutcome
      rw [if_pos hph]
    rw [ht]
    exact ⟨rfl, fun h => absurd h hph⟩

/-! ### The Transfer Engine -/

theorem abandonNow_eq (s : State) (p : PortId) : s.abandonNow p = s.withPort p { s.port p with
    te := (s.port p).te.abandoning, xclaims := (s.port p).xclaims.filter (·.isReport) } := rfl

/-- The active transfer with an abandon cause is handed over with that (R117). -/
theorem endAbandoned_of {c : AbandonCause} (hc : (s.port p).te.cause = some c) : s.endAbandoned p =
    s.endActive p ((s.port p).te.abandonedAs c).1 ((s.port p).te.abandonedAs c).2 := by
  unfold State.endAbandoned
  rw [hc]
  rfl

/-- The active transfer ends with its hand-over, where it pends (R26, R101). -/
theorem endActive_transferEnds (h : (s.port p).te.transfer = some b) (hw : w.id = b.ort) (hp : s.Pends w) (st : Status)
    (r : Word) : TransferEnds p b w st r s (s.endActive p st r) := by
  unfold TransferEnds
  rw [endActive_port h]
  exact ⟨rfl, rfl, rfl, (endActive_hands h hw hp st r).inOrder⟩

/-- What a failed segment makes of the Transfer Engine (R115, R116, R119). -/
def TransferEngine.failed (te : TransferEngine) (limit : Nat) : TransferEngine :=
  if te.cause.isSome then te.abandoning
  else if te.retries < limit then { te with retries := te.retries + 1, phase := .sendWait }
  else { te with retries := te.retries + 1, cause := some .linkError }.abandoning

theorem modTe_eq_withPort (s : State) (p : PortId) (f : TransferEngine → TransferEngine) :
    s.modTe p f = s.withPort p { s.port p with te := f (s.port p).te } := rfl

@[simp] theorem modTe_withPort (s : State) (p : PortId) (y : Port) (f : TransferEngine → TransferEngine) :
    (s.withPort p y).modTe p f = s.withPort p { y with te := f y.te } := modPort_withPort s p y _

theorem abandonFor_sent {c : AbandonCause} (hs : (s.port p).te.sent = true) : s.abandonFor p c = s.withPort p { s.port p with
    te := { (s.port p).te with cause := some ((s.port p).te.cause.getD c) }.abandoning
    xclaims := (s.port p).xclaims.filter (·.isReport) } := by
  unfold State.abandonFor
  dsimp only
  rw [modTe_eq_withPort, port_withPort, if_pos hs, abandonNow_eq, port_withPort, withPort_withPort]

theorem segmentFailed_eq (s : State) (p : PortId) : s.segmentFailed p =
    if (s.port p).te.cause.isSome then s.abandonNow p
    else if (s.port p).te.retries < (s.port p).config.retryLimit then s.withPort p { s.port p with
      te := { (s.port p).te with retries := (s.port p).te.retries + 1, phase := .sendWait } }
    else (s.withPort p { s.port p with te := { (s.port p).te with retries := (s.port p).te.retries + 1 } }).abandonFor p
      .linkError := by
  unfold State.segmentFailed
  simp only [modTe_eq_withPort, port_withPort, withPort_withPort, Nat.add_one_le_iff]

theorem segmentFailed_te (hs : (s.port p).te.sent = true) :
    ((s.segmentFailed p).port p).te = (s.port p).te.failed (s.port p).config.retryLimit := by
  rw [segmentFailed_eq]
  unfold TransferEngine.failed
  cases hc : (s.port p).te.cause with
  | some c => rw [Option.isSome_some, if_pos rfl, if_pos rfl, abandonNow_eq, port_withPort]
  | none =>
    simp only [Option.isSome_none, Bool.false_eq_true, if_false]
    by_cases hr : (s.port p).te.retries < (s.port p).config.retryLimit
    · rw [if_pos hr, if_pos hr, port_withPort, hc]
    · rw [if_neg hr, if_neg hr, abandonFor_sent (by rw [port_withPort]; exact hs)]
      simp only [port_withPort, hc, Option.getD_none]

/-- A service exchange that the Transfer Engine awaits (R111, R117). -/
def Port.awaits (x : Port) : Prop :=
  (x.te.phase = .exchange ∧ x.te.transfer.isSome = true ∧ x.te.segment.isSome = true) ∨ x.te.phase = .abandonExchange

/-- What follows a miss that leaves the link, or a failure that is none. -/
def State.serviceFailed (p : PortId) (s : State) : State :=
  if (s.port p).te.phase = .exchange then s.segmentFailed p else s.endAbandoned p

theorem missed_te (x : Port) : x.missed.te = x.te := by
  unfold Port.missed
  split <;> rfl

theorem transferOutcome_failed (h : (s.port p).awaits) (f : Frame) (c : Cause) : s.transferOutcome p f (.failed c) =
    if s.missEndsLink p then s.linkEnd p c else (s.withPort p (s.port p).missed).serviceFailed p := by
  have hm : s.missEndsLink p = false → s.miss p c = s.withPort p (s.port p).missed := fun h => miss_below h c
  have hl : s.missEndsLink p = true → s.miss p c = s.linkEnd p c := fun h => miss_of_limit h c
  unfold State.serviceFailed
  rw [port_withPort, missed_te]
  obtain ⟨hph, ht, hseg⟩ | hph := h
  · obtain ⟨b, ht⟩ := Option.isSome_iff_exists.mp ht
    obtain ⟨g, hseg⟩ := Option.isSome_iff_exists.mp hseg
    have he : s.transferOutcome p f (.failed c) =
        if s.missEndsLink p then s.miss p c else (s.miss p c).segmentFailed p := by
      unfold State.transferOutcome State.segmentOutcome
      rw [hph, ht, hseg]
    rw [he, if_pos hph]
    cases hb : s.missEndsLink p with
    | true => rw [if_pos rfl, if_pos rfl, hl hb]
    | false => simp only [Bool.false_eq_true, if_false, hm hb]
  · have he : s.transferOutcome p f (.failed c) =
        if s.missEndsLink p then s.miss p c else (s.miss p c).endAbandoned p := by
      unfold State.transferOutcome State.abandonOutcome
      rw [hph]
    have hne : ¬ (s.port p).te.phase = .exchange := by simp [hph]
    rw [he]
    cases hb : s.missEndsLink p with
    | true => rw [if_pos rfl, if_pos rfl, hl hb]
    | false => simp only [Bool.false_eq_true, if_false, hm hb, hne]

theorem serviceFailed_serves (s : State) (p : PortId) : Serves p s (s.serviceFailed p) :=
  ite_serves (segmentFailed_serves (.refl p s)) (endAbandoned_serves (.refl p s))

/-- Where nothing awaits the exchange, only a transfer that waits for its SVC_ABANDON does. -/
theorem transferOutcome_dropped (h : ¬ (s.port p).awaits) (hn : (s.port p).te.phase ≠ .exchange) (f : Frame) (o : Outcome) :
    s.transferOutcome p f o = if f.kind = .svcAbandon then s.handEnded p true else s := by
  have ha : (s.port p).te.phase ≠ .abandonExchange := fun ha => h (.inr ha)
  unfold State.transferOutcome
  split
  · exact absurd ‹_› hn
  · exact absurd ‹_› ha
  · exact (if_pos ‹f.kind = .svcAbandon›).symm
  · rename_i hk
    rw [if_neg hk]

/-- In EXCHANGE with no transfer, or no segment, the outcome changes nothing. -/
theorem transferOutcome_idle (h : ¬ (s.port p).awaits) (hn : (s.port p).te.phase = .exchange) (f : Frame) (o : Outcome) :
    s.transferOutcome p f o = s := by
  unfold State.transferOutcome State.segmentOutcome
  rw [hn]
  dsimp only
  split
  · rename_i b g ht hg
    exact absurd (.inl ⟨hn, by rw [ht]; rfl, by rw [hg]; rfl⟩) h
  · rfl

/-- An outcome that no transfer awaits is dropped (R43, R120). -/
theorem transferOutcome_outcomeDropped (hn : (s.port p).te.phase ≠ .exchange) (ha : (s.port p).te.phase ≠ .abandonExchange)
    (f : Frame) (o : Outcome) : OutcomeDropped p f s (s.transferOutcome p f o) := by
  rw [transferOutcome_dropped (fun h => h.elim (fun h => hn h.1) ha) hn]
  unfold OutcomeDropped
  by_cases hk : f.kind = .svcAbandon
  · rw [if_pos hk, handEnded_port]
    refine ⟨rfl, (handEnded_lists (.refl s) true).events, fun h => absurd hk h, fun b more e w _ hq he hx hm hw ho => ?_⟩
    have hmore : more.filter (Transfer.due true) = [] :=
      List.filter_eq_nil_iff.mpr fun u hu => by simp [Transfer.due, hm u hu]
    have hdue : b.due true = true := by simp [Transfer.due, he, hx]
    have hfilter : (s.port p).queue.filter (Transfer.due true) = [b] := by rw [hq, List.filter_cons_of_pos hdue, hmore]
    refine ⟨?_, (handEnded_hands hfilter he hw (ho.pends (List.mem_singleton_self w))).inOrder⟩
    dsimp only
    rw [hq, List.filter_cons_of_neg (by simp [hdue])]
    exact List.filter_eq_self.mpr fun u hu => by simp [Transfer.due, hm u hu]
  · rw [if_neg hk]
    exact ⟨rfl, rfl, fun _ => ⟨rfl, rfl⟩, fun _ _ _ _ h => absurd h hk⟩

theorem missed_hasLink {x : Port} (h : x.state.hasLink = true) :
    x.missed = { x with counters := { x.counters with misses := x.counters.misses + 1 } } := if_pos h

/-- Below the limit a failed service exchange is a miss, and the Transfer Engine goes on (R32, R115, R117, R119). -/
theorem serviceFailed_of_missed (hl : (s.port p).state.hasLink = true) :
    ServiceFailed p s ((s.withPort p (s.port p).missed).serviceFailed p) := by
  rw [missed_hasLink hl]
  generalize hv : s.withPort p { s.port p with counters := { (s.port p).counters with
    misses := (s.port p).counters.misses + 1 } } = v
  have hvp : v.port p = { s.port p with counters := { (s.port p).counters with
      misses := (s.port p).counters.misses + 1 } } := by rw [← hv, port_withPort]
  have hte : (v.port p).te = (s.port p).te := by rw [hvp]
  refine ⟨fun hph _ _ hs => ?_, fun b c w hph ht hc hw ho => ?_⟩
  · rw [State.serviceFailed, if_pos (by rw [hte, hph]), segmentFailed_te (by rw [hte, hs]), hvp]
    rfl
  · have hpend : v.Pends w := pends_congr (by rw [← hv]; rfl) (ho.pends (List.mem_singleton_self w))
    rw [State.serviceFailed, if_neg (by rw [hte, hph]; simp), endAbandoned_of (by rw [hte, hc]), hte]
    have hends := endActive_transferEnds (by rw [hte, ht]) hw hpend ((s.port p).te.abandonedAs c).1
      ((s.port p).te.abandonedAs c).2
    unfold TransferEnds at hends ⊢
    rw [hvp] at hends
    rw [← hv] at hends ⊢
    exact hends

/-- What a failed service exchange, counted already, does (R32, R43, R115 to R120). -/
theorem transferOutcome_fails (s : State) (p : PortId) (f : Frame) (c : Cause) :
    let x := s.port p
    let t := s.transferOutcome p f (.failed c)
    (t.port p).view = x.view ∧
    (x.awaits → x.state.hasLink = true → x.counters.misses + 1 < x.config.missLimit →
      (t.port p).counters.misses = x.counters.misses + 1 ∧ (t.port p).link = x.link ∧ (t.port p).state.hasLink = true ∧
        t.cpl.events = s.cpl.events) ∧
    (x.awaits → x.state.hasLink = true → x.config.missLimit ≤ x.counters.misses + 1 → LinkEnds p c x.cyc s t) ∧
    (x.state.hasLink = true → x.counters.misses + 1 < x.config.missLimit → ServiceFailed p s t) ∧
    (x.te.phase ≠ .exchange → x.te.phase ≠ .abandonExchange → OutcomeDropped p f s t) := by
  intro x t
  by_cases haw : x.awaits
  · have ht : t = _ := transferOutcome_failed haw f c
    have hdrop : x.te.phase ≠ .exchange → x.te.phase ≠ .abandonExchange → OutcomeDropped p f s t := fun h₁ h₂ =>
      haw.elim (fun h => absurd h.1 h₁) fun h => absurd h h₂
    by_cases he : s.missEndsLink p = true
    · obtain ⟨-, hm⟩ := missEndsLink_iff.mp he
      rw [if_pos he] at ht
      refine ⟨by rw [ht, linkEnd_view], fun _ _ h => absurd hm (Nat.not_le_of_lt h), fun _ _ _ => ?_,
        fun _ h => absurd hm (Nat.not_le_of_lt h), hdrop⟩
      rw [ht]
      exact linkEnd_linkEnds s p c
    · rw [if_neg he] at ht
      have hserves : Serves p (s.withPort p x.missed) t := by
        rw [ht]
        exact serviceFailed_serves _ p
      refine ⟨?_, fun _ hl _ => ?_, fun _ hl hm => absurd (missEndsLink_iff.mpr ⟨hl, hm⟩) he, fun hl _ => ?_, hdrop⟩
      · rw [hserves.view, port_withPort, missed_view]
      · obtain ⟨hstate, -, -, hlink, -, -, hcount⟩ := hserves.kept
        rw [port_withPort, missed_hasLink hl] at hstate hlink hcount
        exact ⟨by rw [hcount], hlink, by rw [hstate]; exact hl, hserves.lists.events⟩
      · rw [ht]
        exact serviceFailed_of_missed hl
  · have hdropped : x.te.phase ≠ .exchange → x.te.phase ≠ .abandonExchange → OutcomeDropped p f s t := fun h₁ h₂ =>
      transferOutcome_outcomeDropped h₁ h₂ f _
    refine ⟨?_, fun h => absurd h haw, fun h => absurd h haw, fun _ _ => ?_, hdropped⟩
    · by_cases hph : x.te.phase = .exchange
      · rw [show t = s from transferOutcome_idle haw hph f _]
      · rw [show t = _ from transferOutcome_dropped haw hph f _]
        split
        · rw [handEnded_port]
          rfl
        · rfl
    · exact ⟨fun h₁ h₂ h₃ _ => absurd (.inl ⟨h₁, h₂, h₃⟩) haw, fun _ _ _ h => absurd (.inr h) haw⟩

end Sys2Proof.Machine
end

section
/-! PROOFS. The failed exchange: guarded, counted, and taken by the engine that sent the frame (R12 to R16, R32 to R34, R39). -/

namespace Sys2Proof.Machine

/- Each proof waits for the kernel; checked one after another, they need no more threads than the rest of the package. -/
set_option Elab.async false

variable {p : PortId} {s s' t : State} {n : Nat}

/-! ### Claims of a state of which the line has moved on -/

section lined

variable {l : Framer} {r : Bool} {k : Counters}

theorem LinkEnds.of_lined {c : Cause} {cyc : CycleEngine}
    (h : LinkEnds p c cyc (s.withPort p ((s.port p).lined l r k)) t) : LinkEnds p c cyc s t := by
  unfold LinkEnds at h ⊢
  rw [port_withPort] at h
  exact h

theorem CycleOver.of_lined {cyc : CycleEngine} (h : CycleOver p cyc (s.withPort p ((s.port p).lined l r k)) t) :
    CycleOver p cyc s t := by
  unfold CycleOver at h ⊢
  rw [port_withPort] at h
  exact h

theorem IdentifyFailed.of_lined (h : IdentifyFailed p (s.withPort p ((s.port p).lined l r k)) t) : IdentifyFailed p s t := by
  unfold IdentifyFailed at h ⊢
  rw [port_withPort] at h
  unfold Port.lined at h
  dsimp only at h ⊢
  split
  · rename_i hs
    rw [if_pos hs] at h
    exact h.of_lined
  rename_i hs
  rw [if_neg hs] at h
  split
  · rename_i hr
    rw [if_pos hr] at h
    exact h
  rename_i hr
  rw [if_neg hr] at h
  split
  · rename_i ha
    rw [if_pos ha] at h
    exact h
  · rename_i ha
    rw [if_neg ha] at h
    exact h.of_lined

theorem ServiceFailed.of_lined (h : ServiceFailed p (s.withPort p ((s.port p).lined l r k)) t) : ServiceFailed p s t := by
  unfold ServiceFailed TransferEnds at h ⊢
  simp only [port_withPort] at h
  exact h

theorem OutcomeDropped.of_lined {f : Frame} (h : OutcomeDropped p f (s.withPort p ((s.port p).lined l r k)) t) :
    OutcomeDropped p f s t := by
  unfold OutcomeDropped at h ⊢
  rw [port_withPort] at h
  exact h

end lined

/-! ### A failed exchange -/

/-- A failure counted (R39). -/
def Counters.counted (k : Counters) (c : Cause) : Counters := { k with failed := satAdd k.failed 1, lastFailure := some c }

/-- The port as its exchange fails: guarded from now on, and the failure counted. -/
def Port.failing (x : Port) (l : Framer) (r : Bool) (c : Cause) (sp : Speed) (now : Nat) : Port :=
  x.lined (l.toGuard sp now) r (x.counters.counted c)

/-- The engine that sent the frame takes the outcome of its exchange. -/
def State.taken (p : PortId) (f : Frame) (o : Outcome) (s : State) : State :=
  match f.engine with
  | .bringUp => s.identifyOutcome p o
  | .cycle => s.cycleOutcome p f o
  | .transfer => s.transferOutcome p f o

theorem endExchange_failed (s : State) (p : PortId) (f : Frame) (c : Cause) (l : Framer) (r : Bool) :
    (s.withPort p ((s.port p).lined l r (s.port p).counters)).endExchange p f (.failed c) s.time =
      (s.withPort p ((s.port p).failing l r c f.speed s.time)).taken p f (.failed c) := by
  have hcount : ((s.withPort p ((s.port p).lined l r (s.port p).counters)).modLf p fun x =>
      x.toGuard f.speed s.time).countFailure p c = s.withPort p ((s.port p).failing l r c f.speed s.time) := by
    rw [modLf_withPort, State.countFailure, modCounters_withPort]
    rfl
  unfold State.endExchange State.deliver
  dsimp only
  rw [hcount]
  rfl

/-- What no engine changes of the line and its counts once its exchange has failed. -/
theorem taken_view {f : Frame} {c : Cause} (hg : (s.port p).lf.state = .guard) :
    ((s.taken p f (.failed c)).port p).view = (s.port p).view := by
  unfold State.taken
  cases f.engine with
  | bringUp => exact (identifyOutcome_fails hg c).1
  | cycle => exact (cycleOutcome_fails s p f c).1
  | transfer => exact (transferOutcome_fails s p f c).1

/-- An exchange ends with a failure, the line standing as `l` with `r` on RXD. -/
theorem endExchange_exchangeFailed (s : State) (p : PortId) (f : Frame) (c : Cause) (l : Framer) (r : Bool) :
    let t := (s.withPort p ((s.port p).lined l r (s.port p).counters)).endExchange p f (.failed c) s.time
    ExchangeFailed p f c s t ∧ (t.port p).rxd = r ∧ (t.port p).lf.recessiveSince = l.recessiveSince ∧
      (t.port p).lf.dominantSince = l.dominantSince := by
  intro t
  have honly : OnlyPort p s t :=
    (endExchange_at (modPort_at (.refl p s) fun _ => (s.port p).lined l r (s.port p).counters) f _ _).onlyPort
  have ht : t = _ := endExchange_failed s p f c l r
  generalize hv : s.withPort p ((s.port p).failing l r c f.speed s.time) = v at ht
  have hvp : v.port p = (s.port p).failing l r c f.speed s.time := by rw [← hv, port_withPort]
  have hguard : (v.port p).lf.state = .guard := by rw [hvp]; rfl
  have hview := taken_view (f := f) (c := c) hguard
  rw [← ht, hvp] at hview
  have hlf : { (t.port p).lf with held := none } = { l.toGuard f.speed s.time with held := none } := congrArg LineView.lf hview
  refine ⟨?_, (congrArg LineView.rxd hview :), (congrArg Framer.recessiveSince hlf :), (congrArg Framer.dominantSince hlf :)⟩
  unfold ExchangeFailed
  intro x y cyc
  refine ⟨honly, (congrArg Framer.state hlf :), (congrArg Framer.txen hlf :), (congrArg Framer.rx hlf :),
    (congrArg Framer.candidate hlf :), (congrArg Framer.timer hlf :), (congrArg LineView.failed hview :),
    (congrArg LineView.lastFailure hview :), (congrArg LineView.cyclesStarted hview :),
    (congrArg LineView.config hview :), ?_⟩
  have hevents : v.cpl.events = s.cpl.events := by rw [← hv]; rfl
  cases he : f.engine with
  | bringUp =>
    replace ht : t = v.identifyOutcome p (.failed c) := by rw [ht, State.taken, he]
    have hf := (identifyOutcome_fails hguard c).2
    rw [← ht, ← hv, port_withPort] at hf
    have hn : ¬ x.countsMiss f := by simp [Port.countsMiss, he]
    exact ⟨fun h => absurd h hn, fun h => absurd h hn, nofun, fun _ hph => (hf hph).of_lined, nofun, nofun⟩
  | cycle =>
    replace ht : t = v.cycleOutcome p f (.failed c) := by rw [ht, State.taken, he]
    obtain ⟨-, hmiss, hends, hover⟩ := cycleOutcome_fails v p f c
    rw [← ht, hvp] at hmiss hends hover
    rw [← hv] at hends hover
    have hcyc : cyc = x.cycled.cyc := if_pos he
    refine ⟨fun h hm => ?_, fun h hm => ?_, fun _ h => ?_, nofun, nofun, nofun⟩
    · obtain ⟨h₁, h₂, h₃, h₄⟩ := hmiss h.1 hm
      exact ⟨h₁, h₂, h₃, h₄.trans hevents⟩
    · rw [hcyc]
      exact (hends h.1 hm).of_lined
    · rw [hcyc]
      exact (hover h).of_lined
  | transfer =>
    replace ht : t = v.transferOutcome p f (.failed c) := by rw [ht, State.taken, he]
    obtain ⟨-, hmiss, hends, hserve, hdrop⟩ := transferOutcome_fails v p f c
    rw [← ht, hvp] at hmiss hends hserve hdrop
    rw [← hv] at hends hserve hdrop
    have haw : x.countsMiss f → x.awaits := fun h => h.2.elim (fun h => nomatch he.symm.trans h) fun h => h.2
    have hcyc : cyc = x.cyc := if_neg (by rw [he]; decide)
    refine ⟨fun h hm => ?_, fun h hm => ?_, nofun, nofun,
      fun _ hl hm => (hserve hl hm).of_lined, fun _ h₁ h₂ => (hdrop h₁ h₂).of_lined⟩
    · obtain ⟨h₁, h₂, h₃, h₄⟩ := hmiss (haw h) h.1 hm
      exact ⟨h₁, h₂, h₃, h₄.trans hevents⟩
    · rw [hcyc]
      exact (hends (haw h) h.1 hm).of_lined

/-- An exchange ends with a failure, the line standing as it does. -/
theorem endExchange_fails (s : State) (p : PortId) (f : Frame) (c : Cause) :
    ExchangeFailed p f c s (s.endExchange p f (.failed c) s.time) := by
  have h := endExchange_exchangeFailed s p f c (s.port p).lf (s.port p).rxd
  rw [show (s.port p).lined (s.port p).lf (s.port p).rxd (s.port p).counters = s.port p from rfl, withPort_self] at h
  exact h.1

/-! ### A collision (R12) -/

/-- Settles O47. -/
theorem aCollisionEndsTheExchange : Obligations.ACollisionEndsTheExchange := by
  intro p bit e s s' hs hf hbit hreach
  refine ⟨s'.collide p e bit, ?_, ?_⟩
  · change execCollision p bit s = _
    unfold execCollision
    rw [hs, hf]
    dsimp only
    rw [if_pos hbit]
    exact exactlyAt_next _ hreach
  · exact (endExchange_exchangeFailed s' p e.frame .collision _ _).1

/-! ### A limit that expires (R13, R14) -/

/-- What the expiry of a limit does where it is judged `held` after it. -/
theorem expire_judged {c : Cause} {e : Exchange} {held : Nat} (hf : (s.port p).lf.flight = some e)
    (hn : (s.port p).lf.timer = some n) :
    (∀ s', s.Reaches (n + held) s' → s.expire p c (some (n + held)) held =
      .next (s'.endExchange p e.frame (.failed c) s'.time)) ∧
    ∀ h, h ≠ held → s.expire p c (some (n + held)) h = .next s := by
  have hheld : s.heldBy p (n + held) = held := by
    rw [State.heldBy, hn, Option.getD_some, Nat.add_sub_cancel_left]
  refine ⟨fun s' hreach => ?_, fun h hne => ?_⟩
  · unfold State.expire
    rw [hf]
    dsimp only
    rw [if_pos hheld.symm]
    exact exactlyAt_next _ hreach
  · unfold State.expire
    rw [hf]
    dsimp only
    rw [hheld, if_neg hne]

theorem expire_none {c : Cause} (h : Nat) : s.expire p c none h = .next s := by
  unfold State.expire
  cases (s.port p).lf.flight <;> rfl

/-- Settles O50. -/
theorem anExpiredLimitFailsTheExchange : Obligations.AnExpiredLimitFailsTheExchange := by
  intro p n e s x half hf hn row c hrow judged
  have hexec : ∀ h, exec (row h) s = s.expire p c (s.limitDue p) h := by
    intro h
    obtain ⟨hst, rfl, rfl⟩ | ⟨hst, rfl, rfl⟩ := hrow
    · change s.expire p .noReply (s.noReplyDue p) h = _
      rw [State.noReplyDue, if_pos hst]
    · change s.expire p .gap (s.gapDue p) h = _
      rw [State.gapDue, if_pos hst]
  have hjudged : ∀ held, s.limitDue p = some (n + held) → judged held := by
    intro held hdue
    obtain ⟨hnext, hother⟩ := expire_judged (c := c) (held := held) hf hn
    refine ⟨fun s' hreach => ⟨_, by rw [hexec, hdue, hnext s' hreach], endExchange_fails s' p e.frame c⟩, fun h hne => ?_⟩
    rw [hexec, hdue, hother h hne]
  have hhalf : x.lf.halfTb = half := halfTb_of_flight hf
  refine ⟨fun hc => hjudged 0 ?_, fun a hc ha => ⟨fun hglitch => hjudged _ ?_, fun hr ht h => ?_⟩⟩
  · rw [limitDue_of_no_candidate hc]
    exact hn
  · have hedge : s.edgeToConfirm p = none := by
      refine Option.eq_none_iff_forall_ne_some.mpr fun b hb => ?_
      obtain ⟨hr, hcb, ht, -⟩ := edgeToConfirm_eq_some.mp hb
      obtain rfl : a = b := Option.some.inj (hc.symm.trans hcb)
      obtain h | h := hglitch
      · exact absurd (h.symm.trans hr) (by decide)
      · rw [show (s.port p).lf.halfTb = half from hhalf] at ht
        omega
    rw [limitDue_of_glitch hedge hc hn ha, show (s.port p).lf.halfTb = half from hhalf]
    congr 1
    omega
  · have hedge : s.edgeToConfirm p = some a :=
      edgeToConfirm_eq_some.mpr ⟨hr, hc, by rw [show (s.port p).lf.halfTb = half from hhalf]; exact ht, n, hn, ha⟩
    rw [hexec, limitDue_of_edge hedge, expire_none]

end Sys2Proof.Machine
end

section
/-! PROOFS. A clean reply taken by the Cycle Engine (R92 to R94) and by the Bring-up Sequencer (R46 to R59). -/

namespace Sys2Proof.Machine

/- Each proof waits for the kernel; checked one after another, they need no more threads than the rest of the package. -/
set_option Elab.async false

variable {p : PortId} {s t u : State} {w : OrtEntry}

/-! ### The miss count and ATTENTION (R32, R94) -/

/-- Nothing has been handed over, and the groups are as they were. -/
structure NothingHanded (s t : State) : Prop where
  ort : t.ort = s.ort
  done : t.cpl.done = s.cpl.done
  groups : t.groups = s.groups

theorem NothingHanded.trans (h : NothingHanded s t) (k : NothingHanded t u) : NothingHanded s u :=
  ⟨k.ort.trans h.ort, k.done.trans h.done, k.groups.trans h.groups⟩

theorem withPort_nothingHanded (s : State) (p : PortId) (y : Port) : NothingHanded s (s.withPort p y) := ⟨rfl, rfl, rfl⟩

/-- The port after an exchange judged OK (R32). -/
def Port.good (x : Port) : Port := { x with counters := { x.counters with misses := x.missesAfterGood } }

theorem goodExchange_eq (s : State) (p : PortId) : s.goodExchange p = s.withPort p (s.port p).good := by
  unfold State.goodExchange Port.good Port.missesAfterGood
  by_cases h : (s.port p).state.hasLink = true
  · rw [if_pos h, if_pos h]
    rfl
  · rw [if_neg h, if_neg h]
    exact (withPort_self s p).symm

@[simp] theorem attend_port (s : State) (p : PortId) (a : Bool) (d : Word) : (s.attend p a d).port p =
    { s.port p with counters := { (s.port p).counters with attention := a } } := by
  unfold State.attend
  dsimp only
  split
  · rw [post_port, State.modCounters, State.port_modPort_self]
  · rw [State.modCounters, State.port_modPort_self]

theorem attend_nothingHanded (s : State) (p : PortId) (a : Bool) (d : Word) : NothingHanded s (s.attend p a d) := by
  unfold State.attend
  dsimp only
  split
  · refine ⟨?_, ?_, ?_⟩
    · rw [post_ort, State.modCounters_ort]
    · rw [post_done, State.modCounters_cpl]
    · rw [post_groups, State.modCounters_groups]
  · exact ⟨rfl, rfl, rfl⟩

/-- Only the first appearance of ATTENTION is posted (R94). -/
def AttentionPosted (p : PortId) (a : Bool) (d : Word) (s t : State) : Prop :=
  if a = true ∧ (s.port p).counters.attention = false then Posted s t p .stationAttention d
  else t.cpl.events = s.cpl.events

theorem attend_posted (s : State) (p : PortId) (a : Bool) (d : Word) : AttentionPosted p a d s (s.attend p a d) := by
  unfold AttentionPosted State.attend
  dsimp only
  by_cases h : a = true ∧ (s.port p).counters.attention = false
  · rw [if_pos h, if_pos (by simp [h])]
    exact (post_posted _ p _ _).after rfl rfl rfl
  · rw [if_neg h, if_neg (by simpa using h)]
    rfl

theorem AttentionPosted.of_events {a : Bool} {d : Word} (h : AttentionPosted p a d s t) (hu : u.cpl.events = t.cpl.events) :
    AttentionPosted p a d s u := by
  unfold AttentionPosted at h ⊢
  split
  · rename_i hc
    rw [if_pos hc] at h
    exact h.of_events hu
  · rename_i hc
    rw [if_neg hc] at h
    exact hu.trans h

/-- What stands before a post changes nothing of it, where it is of one port's own. -/
theorem AttentionPosted.after {a : Bool} {d : Word} {y : Port} (h : AttentionPosted p a d (s.withPort p y) t)
    (hy : y.counters.attention = (s.port p).counters.attention) : AttentionPosted p a d s t := by
  unfold AttentionPosted at h ⊢
  rw [port_withPort, hy] at h
  exact h

/-! ### The Cycle Engine (R92, R93) -/

/-- The octets of an input slot before that of generation `g` (R93). -/
theorem slotOffset_eq (g : Half) : (40 : Word) * (g.setWidth 32 &&& 1) = if g.getLsbD 0 then 40 else 0 := by
  have h : (g.setWidth 32 &&& 1 : Word) = if g.getLsbD 0 then 1 else 0 := by
    apply BitVec.eq_of_getLsbD_eq
    intro i hi
    rw [BitVec.getLsbD_and, BitVec.getLsbD_setWidth]
    by_cases h0 : i = 0
    · subst h0
      cases hg : g.getLsbD 0 <;> rfl
    · have hone : (1 : Word).getLsbD i = false := by simp [BitVec.getLsbD_one, h0]
      rw [hone, Bool.and_false]
      split
      · exact hone.symm
      · simp
  rw [h]
  split <;> rfl

/-- The Cycle Engine once a reply to its frame has been taken, `x` being its port and `u` the cycle's start (R92, R93). -/
def Port.imaged (x : Port) (covered : List Byte) (stale : Bool) (u : Word) : CycleEngine :=
  let gen := x.cyc.inputGen + 1
  let slot := x.config.inImage + (if gen.getLsbD 0 then 40 else 0)
  if x.state = .cyclic ∧ x.cyc.faultPending = false ∧ x.cyc.writing < 2 then
    { x.cycled.cyc with
      inputGen := gen, writing := x.cyc.writing + 1
      list := x.cyc.list ++ (if x.inLen = 0 then [] else [.write false (slot + 8) (covered.drop 1)]) ++
        [.write true slot (inputHeader gen x.inLen stale ((covered.getD 0 0).getLsbD 4) u x.counters.cyclesStarted)] }
  else x.cycled.cyc

theorem imaged_kept (x : Port) (covered : List Byte) (stale : Bool) (u : Word) :
    let c := x.imaged covered stale u
    c.underWay = none ∧ c.faultPending = x.cyc.faultPending ∧ c.admitted = x.cyc.admitted ∧
      c.startWait = x.cyc.startWait := by
  unfold Port.imaged
  dsimp only
  split <;> exact ⟨rfl, rfl, rfl, rfl⟩

/-- A reply to a CYCLIC frame as the Cycle Engine takes it, up to what waits for the end of the cycle. -/
def State.cycleTaken (p : PortId) (f : Frame) (covered : List Byte) (s : State) : State :=
  let start := ((s.port p).cyc.underWay).getD 0
  let attention := stsAttention (covered.getD 0 0)
  let s := (s.withPort p (s.port p).cycled).attend p attention 1
  let x := s.port p
  let s := if x.state = .cyclic && !x.cyc.faultPending then
      s.modCyc p fun c => c.formImage x.config.inImage x.inLen (covered.drop 1) f.stale attention start x.counters.cyclesStarted
    else s
  s.goodExchange p

theorem cycleOutcome_ok (s : State) (p : PortId) (f : Frame) (covered : List Byte) :
    s.cycleOutcome p f (.ok covered) = (s.cycleTaken p f covered).afterCycle p := rfl

theorem formImage_eq {x : Port} {covered : List Byte} {stale : Bool} {u : Word} (hc : x.state = .cyclic)
    (hf : x.cyc.faultPending = false) :
    x.cycled.cyc.formImage x.config.inImage x.inLen (covered.drop 1) stale ((covered.getD 0 0).getLsbD 4) u
      x.counters.cyclesStarted = x.imaged covered stale u := by
  unfold CycleEngine.formImage Port.imaged
  dsimp only
  rw [slotOffset_eq]
  by_cases h : x.cyc.writing < 2
  · have hall : x.state = .cyclic ∧ x.cyc.faultPending = false ∧ x.cyc.writing < 2 := ⟨hc, hf, h⟩
    rw [if_pos (show x.cycled.cyc.writing < 2 from h), if_pos hall]
    rfl
  · rw [if_neg (show ¬ x.cycled.cyc.writing < 2 from h), if_neg (fun hn => h hn.2.2)]

theorem cycleTaken_port (s : State) (p : PortId) (f : Frame) (covered : List Byte) :
    (s.cycleTaken p f covered).port p = { s.port p with
      cyc := (s.port p).imaged covered f.stale ((s.port p).cyc.underWay.getD 0)
      counters := { (s.port p).counters with
        misses := (s.port p).missesAfterGood, attention := (covered.getD 0 0).getLsbD 4 } } := by
  unfold State.cycleTaken
  dsimp only
  rw [goodExchange_eq, port_withPort]
  generalize (s.port p).cyc.underWay.getD 0 = u
  simp only [attend_port, port_withPort]
  by_cases h : (s.port p).state = .cyclic ∧ (s.port p).cyc.faultPending = false
  · have himg := formImage_eq (covered := covered) (stale := f.stale) (u := u) h.1 h.2
    have hc : ((s.port p).cycled.state = .cyclic && !(s.port p).cycled.cyc.faultPending) = true := by
      rw [Bool.and_eq_true, decide_eq_true_eq, Bool.not_eq_true']
      exact h
    rw [if_pos hc, State.port_modCyc_self, attend_port, port_withPort, ← himg]
    rfl
  · have himg : (s.port p).imaged covered f.stale u = (s.port p).cycled.cyc := if_neg fun hn => h ⟨hn.1, hn.2.1⟩
    have hc : ¬ ((s.port p).cycled.state = .cyclic && !(s.port p).cycled.cyc.faultPending) = true := by
      rw [Bool.and_eq_true, decide_eq_true_eq, Bool.not_eq_true']
      exact h
    rw [if_neg hc, attend_port, port_withPort, himg]
    rfl

theorem cycleTaken_others (s : State) (p : PortId) (f : Frame) (covered : List Byte) :
    NothingHanded s (s.cycleTaken p f covered) ∧
      AttentionPosted p ((covered.getD 0 0).getLsbD 4) 1 s (s.cycleTaken p f covered) := by
  have hn := (withPort_nothingHanded s p (s.port p).cycled).trans
    (attend_nothingHanded _ p (stsAttention (covered.getD 0 0)) 1)
  have hp := (attend_posted (s.withPort p (s.port p).cycled) p (stsAttention (covered.getD 0 0)) 1).after rfl
  unfold State.cycleTaken
  dsimp only
  rw [goodExchange_eq]
  split
  · exact ⟨⟨hn.ort, hn.done, hn.groups⟩, hp.of_events rfl⟩
  · exact ⟨⟨hn.ort, hn.done, hn.groups⟩, hp.of_events rfl⟩

/-- The end of a cycle after a step that handed nothing over and left what a cycle ends by. -/
theorem CycleOver.after {cyc c : CycleEngine} {k : Counters} (h : CycleOver p cyc t u) (hn : NothingHanded s t)
    (hp : t.port p = { s.port p with cyc := c, counters := k }) (hf : c.faultPending = (s.port p).cyc.faultPending)
    (ha : c.admitted = (s.port p).cyc.admitted) (hw : c.startWait = (s.port p).cyc.startWait) : CycleOver p cyc s u := by
  unfold CycleOver at h ⊢
  rw [hp] at h
  dsimp only at h ⊢
  have hstop : Port.stopWaits { s.port p with cyc := c, counters := k } = (s.port p).stopWaits := rfl
  rw [hf, ha, hw, hstop] at h
  split
  · rename_i hc
    rw [if_pos hc] at h
    obtain ⟨h₁, h₂, h₃, h₄, hg, h₅, hh⟩ := h
    refine ⟨h₁, h₂, h₃, h₄, hg.after hn.groups, h₅, fun k w hs hk ho => ?_⟩
    obtain ⟨a, ha⟩ := hh k w hs hk fun e he => by
      have := ho e he
      simpa only [State.ortFind, State.NotAwaited, hn.ort] using this
    exact ⟨a, by rw [← hn.done]; exact ha⟩
  · rename_i hc
    rw [if_neg hc] at h
    obtain ⟨h₁, h₂, h₃, h₄, hg, ho, hd⟩ := h
    exact ⟨h₁, h₂, h₃, h₄, fun g => (hg g).trans (State.group_congr hn.groups g), ho.trans hn.ort, hd.trans hn.done⟩

/-- A clean reply to a CYCLIC frame (R92 to R94, R97 to R99). -/
theorem cycleOutcome_takes (s : State) (p : PortId) (f : Frame) (covered : List Byte) :
    let t := s.cycleOutcome p f (.ok covered)
    (t.port p).view = (s.port p).view ∧
      ∀ u, (s.port p).cyc.underWay = some u → CyclicReplyTaken p f covered u s t := by
  intro t
  have ht : t = _ := cycleOutcome_ok s p f covered
  clear_value t
  have hport := cycleTaken_port s p f covered
  obtain ⟨hn, hp⟩ := cycleTaken_others s p f covered
  obtain ⟨hw, hf, ha, hst⟩ := imaged_kept (s.port p) covered f.stale ((s.port p).cyc.underWay.getD 0)
  have hnone : ((s.cycleTaken p f covered).port p).cyc.underWay = none := by rw [hport]; exact hw
  have hover := afterCycle_cycleOver hnone
  obtain ⟨hview, hcount, hlink, hqueue, hte, hevents, -⟩ := afterCycle_others hnone
  rw [← ht, hport] at hover hview hcount hlink hqueue hte
  rw [← ht] at hevents
  refine ⟨hview, fun u hu => ?_⟩
  have hcycle := hover.after hn hport hf ha hst
  rw [hu, Option.getD_some] at hcycle
  unfold CyclicReplyTaken
  exact ⟨⟨hcount, hp.of_events hevents⟩, hlink, (congrArg LineView.config hview :), hqueue, hte, hcycle⟩

end Sys2Proof.Machine
end

section
/-! PROOFS. A clean reply taken by the Bring-up Sequencer (R46 to R52, R56 to R59). -/

namespace Sys2Proof.Machine

/- Each proof waits for the kernel; checked one after another, they need no more threads than the rest of the package. -/
set_option Elab.async false

variable {p : PortId} {s t u : State} {w : OrtEntry}

/-! ### What the sequencer finds in a descriptor (R48, R56) -/

theorem descriptorFailure_eq (d : Descriptor) : descriptorFailure d =
    if d.revision ≠ 1 then some 2
    else if d.minPeriod = 0 ∨ 32 < d.outLen.toNat ∨ 32 < d.inLen.toNat ∨ 2 < d.segCode.toNat then some 3
    else none := by
  simp [descriptorFailure, or_assoc]

/-- A recovery finds another station, or a resumed schedule too fast for it (R56). -/
def Port.findsChanged (x : Port) (old d : Descriptor) : Prop :=
  d.stationId ≠ old.stationId ∨ d.outLen ≠ old.outLen ∨ d.inLen ≠ old.inLen ∨
    (x.resume = true ∧ ∀ k, x.sched = some k → k.period < 100 * d.minPeriod.toNat)

theorem descriptorChanged_iff {d : Descriptor} (hd : d.minPeriod ≠ 0) (x : Port) (old : Descriptor) :
    descriptorChanged old d x.resume ((x.sched.map (·.period)).getD 0) = true ↔ x.findsChanged old d := by
  have hpos : 0 < d.minPeriod.toNat := by
    refine Nat.pos_of_ne_zero fun h => hd (BitVec.eq_of_toNat_eq h)
  have hperiod : (x.sched.map (·.period)).getD 0 < 100 * d.minPeriod.toNat ↔
      ∀ k, x.sched = some k → k.period < 100 * d.minPeriod.toNat := by
    cases x.sched with
    | none => simpa using hpos
    | some k => simp
  unfold descriptorChanged Port.findsChanged
  simp only [Bool.or_eq_true, Bool.and_eq_true, bne_iff_ne, ne_eq, decide_eq_true_eq, hperiod, or_assoc]

/-! ### A link is made (R50, R57, R58) -/

/-- The port with a new link, its sequencer stopped. -/
def Port.withLink (x : Port) (l : Link) (st : PortState) : Port := { x with
  link := some l, state := st, counters := { x.counters with misses := 0 }, te := { x.te with lastToggle := true }
  seq := x.seq.ended }

theorem linkMade_eq (s : State) (p : PortId) (l : Link) (st : PortState) :
    s.linkMade p l st = s.withPort p ((s.port p).withLink l st) := by
  unfold State.linkMade Port.withLink
  rw [State.stopSequence, State.modSeq, modPort_eq_withPort, modPort_eq_withPort, port_withPort, withPort_withPort]
  rfl

theorem resumeStart_congr (hg : t.groups = s.groups) (ht : t.time = s.time) (e : Nat) (k : SchedKind) :
    t.resumeStart e k = s.resumeStart e k := by
  have htime : ∀ n, t.timeOf n = s.timeOf n := fun n => by
    unfold State.timeOf State.timebase State.micros
    rw [ht]
  cases k with
  | free => rfl
  | grouped g n phase =>
    unfold State.resumeStart State.firstStart
    dsimp only
    rw [State.group_congr hg]
    simp only [htime]

theorem resumeStart_eq (s : State) (e : Nat) (k : SchedKind) : s.resumeStart e k = match k with
    | .free => some (freeStart (e + 32 * 100))
    | .grouped g n phase => (s.firstStart g n phase (e + 32 * 64)).map (·.1) := by
  cases k <;> rfl

/-- The link is made, and LINK_RESTORED is posted (R57, R58). -/
def State.restored (p : PortId) (l : Link) (st : PortState) (detail : Word) (s : State) : State :=
  (s.withPort p ((s.port p).withLink l st)).post p .linkRestored detail

section restored

variable {l : Link} {st : PortState} {detail : Word}

@[simp] theorem restored_port : (s.restored p l st detail).port p = (s.port p).withLink l st := by
  rw [State.restored, post_port, port_withPort]

theorem restored_groups : (s.restored p l st detail).groups = s.groups := post_groups _ p _ _

theorem restored_done : (s.restored p l st detail).cpl.done = s.cpl.done := post_done _ p _ _

theorem restored_posted : Posted s (s.restored p l st detail) p .linkRestored detail :=
  (post_posted (s.withPort p ((s.port p).withLink l st)) p .linkRestored detail).after rfl rfl rfl

end restored

/-- The schedule of a resumed port, `e` being the end of the guard of its IDENTIFY (R57). -/
def State.resumed (s : State) (e : Nat) (k : Sched) : Sched :=
  { k with delivered := false, next := s.resumeStart e k.kind }

/-- The end of the guard of an IDENTIFY that ended now (R16). -/
def State.guardEnd (s : State) (sp : Speed) : Nat := s.time + 8 * sp.tb

/-- What a recovery that succeeds makes of the state, `l` being the new link (R56 to R58). -/
def State.recovered (p : PortId) (l : Link) (changed : Bool) (s : State) : State :=
  if (s.port p).resume = true ∧ changed = false then
    (s.restored p l .armed 2).modPort p fun x => { x with
      sched := x.sched.map ((s.restored p l .armed 2).resumed (s.guardEnd l.speed)) }
  else if (s.port p).resume = true then
    ((s.restored p l .ready (if changed then 1 else 0)).leave p).modPort p fun x => { x with resume := false }
  else s.restored p l .ready (if changed then 1 else 0)

/-- A recovery counts the descriptor as changed (R56). -/
def Port.changes (x : Port) (d : Descriptor) : Bool :=
  match x.link with
  | some old => descriptorChanged old.desc d x.resume ((x.sched.map (·.period)).getD 0)
  | none => true

theorem changes_iff {x : Port} {old : Link} {d : Descriptor} (hl : x.link = some old) (hd : d.minPeriod ≠ 0) :
    x.changes d = true ↔ x.findsChanged old.desc d := by
  unfold Port.changes
  rw [hl]
  exact descriptorChanged_iff hd x old.desc

theorem succeedSequence_recovery {d : Descriptor} (hm : (s.port p).seq.mode = .recovery) : s.succeedSequence p d =
    s.recovered p { desc := d, speed := (s.port p).seq.rungSpeed } ((s.port p).changes d) := by
  have h : s.succeedSequence p d = match (s.port p).seq.mode with
    | .bringUp => (s.linkMade p { desc := d, speed := (s.port p).seq.rungSpeed } .ready).endSlot p (fun _ => .ok)
        (bringUpResult { desc := d, speed := (s.port p).seq.rungSpeed })
    | .recovery =>
      let l : Link := { desc := d, speed := (s.port p).seq.rungSpeed }
      let changed := (s.port p).changes d
      if (s.port p).resume && !changed then
        let u := (s.linkMade p l .armed).post p .linkRestored (restoredDetail false true)
        u.modPort p fun x => { x with sched := x.sched.map (u.resumed (s.guardEnd l.speed)) }
      else
        let u := (s.linkMade p l .ready).post p .linkRestored (restoredDetail changed false)
        if (s.port p).resume then (u.leave p).modPort p fun x => { x with resume := false } else u := rfl
  rw [h, hm]
  dsimp only
  simp only [linkMade_eq]
  unfold State.recovered State.restored
  cases (s.port p).changes d <;> cases (s.port p).resume <;> rfl

/-- What a recovery that resumes its schedule comes to (R57). -/
theorem recovered_resumed {l : Link} {changed : Bool} (h : (s.port p).resume = true ∧ changed = false) :
    let t := s.recovered p l changed
    t.port p = { (s.port p).withLink l .armed with sched := (s.port p).sched.map (s.resumed (s.guardEnd l.speed)) } ∧
      GroupsKept s t ∧ t.cpl.done = s.cpl.done ∧ Posted s t p .linkRestored 2 := by
  intro t
  have ht : t = _ := if_pos h
  have hres : (s.restored p l .armed 2).resumed = s.resumed := by
    funext e k
    unfold State.resumed
    rw [resumeStart_congr restored_groups (post_time _ p _ _)]
  rw [ht]
  refine ⟨?_, fun g => State.group_congr restored_groups g, restored_done, restored_posted.of_events rfl⟩
  rw [State.port_modPort_self, restored_port, hres]
  rfl

/-- What a recovery that ends in READY comes to (R56, R58). -/
theorem recovered_ready {l : Link} {changed : Bool} (h : ¬ ((s.port p).resume = true ∧ changed = false)) :
    let t := s.recovered p l changed
    t.port p = { (s.port p).withLink l .ready with
        resume := false, sched := if (s.port p).resume = true then none else (s.port p).sched } ∧
      ((s.port p).resume = true → GroupsLeft p s t) ∧ ((s.port p).resume = false → GroupsKept s t) ∧
      t.cpl.done = s.cpl.done ∧ Posted s t p .linkRestored (if changed then 1 else 0) := by
  intro t
  have ht : t = _ := if_neg h
  cases hr : (s.port p).resume with
  | true =>
    rw [if_pos hr] at ht
    rw [ht]
    refine ⟨?_, fun _ => ?_, nofun, restored_done, restored_posted.of_events rfl⟩
    · rw [State.port_modPort_self, leave_port, restored_port]
      rfl
    · exact ((leave_groupsLeft _ p).after restored_groups).of_groups rfl
  | false =>
    rw [if_neg (by rw [hr]; decide)] at ht
    rw [ht]
    refine ⟨?_, nofun, fun _ g => State.group_congr restored_groups g, restored_done, restored_posted⟩
    rw [restored_port, if_neg Bool.false_ne_true, ← hr]
    rfl

/-! ### A clean reply to an IDENTIFY (R46 to R52, R56 to R59) -/

theorem bringUpMade_hands {l : Link} {k : ControlKind} (hs : (s.port p).slot = some (k, w.id)) (hw : s.Pends w) (r : Word) :
    HandedInOrder s (((s.withPort p ((s.port p).withLink l .ready))).endSlot p (fun _ => .ok) r) [(w, .ok, r)] := by
  have h : Hands (s.withPort p ((s.port p).withLink l .ready)) _ _ := endSlot_hands (slot := [w]) (st := .ok) (p := p)
    (by rw [port_withPort]; simp [Port.withLink, hs]) (fun v hv => by
      obtain rfl := List.mem_singleton.mp hv
      exact pends_congr rfl hw) (fun _ => .ok) r fun _ _ _ => rfl
  exact h.inOrder_of rfl

theorem succeedSequence_bringUp {d : Descriptor} (hm : (s.port p).seq.mode = .bringUp) : s.succeedSequence p d =
    (s.withPort p ((s.port p).withLink { desc := d, speed := (s.port p).seq.rungSpeed } .ready)).endSlot p (fun _ => .ok)
      (bringUpResult { desc := d, speed := (s.port p).seq.rungSpeed }) := by
  unfold State.succeedSequence
  simp only [hm, linkMade_eq]

theorem identifyOutcome_ok (h : (s.port p).seq.phase = .identify) (covered : List Byte) :
    s.identifyOutcome p (.ok covered) =
      if (s.port p).seq.stopRequested = true then s.abortSequence p
      else match descriptorFailure (descriptorOf (covered.drop 1)) with
        | some reason => s.failSequence p reason
        | none => s.succeedSequence p (descriptorOf (covered.drop 1)) := by
  unfold State.identifyOutcome
  exact if_neg fun hn => hn h

/-- What a valid descriptor makes of port and state (R50, R56 to R58). -/
def LinkMade (p : PortId) (d : Descriptor) (s t : State) : Prop :=
  let x := s.port p
  let y := t.port p
  let l : Link := { desc := d, speed := x.seq.rungSpeed }
  y.link = some l ∧ y.counters = { x.counters with misses := 0 } ∧ y.te = { x.te with lastToggle := true } ∧
  y.seq.phase = .stopped ∧ y.queue = x.queue ∧ y.config = x.config ∧ y.cyc = x.cyc ∧
  match x.seq.mode with
  | .bringUp =>
    y.state = .ready ∧ y.slot = none ∧ y.sched = x.sched ∧ GroupsKept s t ∧ t.cpl.events = s.cpl.events ∧
    ∀ k w, x.slot = some (k, w.id) → s.Open [w] → HandedInOrder s t [(w, .ok, bringUpResult l)]
  | .recovery =>
    ∀ old, x.link = some old →
      t.cpl.done = s.cpl.done ∧ y.slot = x.slot ∧
      (x.resume = true ∧ ¬ x.findsChanged old.desc d →
        y.state = .armed ∧ Posted s t p .linkRestored 2 ∧ GroupsKept s t ∧
        ∀ k, x.sched = some k → y.sched = some (s.resumed (s.guardEnd l.speed) k)) ∧
      (¬ (x.resume = true ∧ ¬ x.findsChanged old.desc d) →
        y.state = .ready ∧ y.resume = false ∧ (x.resume = true → y.sched = none ∧ GroupsLeft p s t) ∧
        (x.resume = false → y.sched = x.sched ∧ GroupsKept s t) ∧
        (x.findsChanged old.desc d → Posted s t p .linkRestored 1) ∧
        (¬ x.findsChanged old.desc d → Posted s t p .linkRestored 0))

theorem bringUp_linkMade {d : Descriptor} (hm : (s.port p).seq.mode = .bringUp) : LinkMade p d s (s.succeedSequence p d) := by
  unfold LinkMade
  rw [succeedSequence_bringUp hm]
  simp only [endSlot_port, port_withPort, hm]
  have hl := endSlot_lists (p := p) (.refl (s.withPort p ((s.port p).withLink
    { desc := d, speed := (s.port p).seq.rungSpeed } .ready))) (fun _ => .ok)
    (bringUpResult { desc := d, speed := (s.port p).seq.rungSpeed })
  exact ⟨rfl, rfl, rfl, rfl, rfl, rfl, rfl, rfl, rfl, rfl, hl.groupsKept, hl.events,
    fun k w hs ho => bringUpMade_hands hs (ho.pends (List.mem_singleton_self w)) _⟩

theorem recovery_linkMade {d : Descriptor} (hm : (s.port p).seq.mode = .recovery) (hd : d.minPeriod ≠ 0) :
    LinkMade p d s (s.succeedSequence p d) := by
  unfold LinkMade
  rw [succeedSequence_recovery hm]
  simp only [hm]
  generalize hc : (s.port p).changes d = changed
  have hfinds : ∀ old, (s.port p).link = some old → (changed = true ↔ (s.port p).findsChanged old.desc d) := fun old hl => by
    rw [← hc]
    exact changes_iff hl hd
  by_cases hr : (s.port p).resume = true ∧ changed = false
  · obtain ⟨hport, hgroups, hdone, hposted⟩ := recovered_resumed
      (l := { desc := d, speed := (s.port p).seq.rungSpeed }) hr
    rw [hport]
    refine ⟨rfl, rfl, rfl, rfl, rfl, rfl, rfl, fun old hl => ⟨hdone, rfl, fun _ => ⟨rfl, hposted, hgroups, fun k hk => ?_⟩,
      fun hn => absurd ⟨hr.1, fun hf => ?_⟩ hn⟩⟩
    · rw [hk]
      rfl
    · rw [(hfinds old hl).mpr hf] at hr
      exact absurd hr.2 (by decide)
  · obtain ⟨hport, hleft, hkept, hdone, hposted⟩ := recovered_ready
      (l := { desc := d, speed := (s.port p).seq.rungSpeed }) hr
    rw [hport]
    have hsame : ∀ old, (s.port p).link = some old → ¬ (s.port p).findsChanged old.desc d → changed = false :=
      fun old hl hn => Bool.eq_false_iff.mpr fun ht => hn ((hfinds old hl).mp ht)
    refine ⟨rfl, rfl, rfl, rfl, rfl, rfl, rfl, fun old hl => ⟨hdone, rfl, fun hn => absurd ⟨hn.1, hsame old hl hn.2⟩ hr,
      fun _ => ⟨rfl, rfl, fun h => ⟨if_pos h, hleft h⟩, fun h => ⟨if_neg (by rw [h]; decide), hkept h⟩, fun hf => ?_,
        fun hf => ?_⟩⟩⟩
    · rw [if_pos ((hfinds old hl).mpr hf)] at hposted
      exact hposted
    · rw [if_neg (by rw [hsame old hl hf]; decide)] at hposted
      exact hposted

theorem succeedSequence_view (s : State) (p : PortId) (d : Descriptor) :
    ((s.succeedSequence p d).port p).view = (s.port p).view := by
  cases hs : (s.port p).seq.mode with
  | bringUp =>
    rw [succeedSequence_bringUp hs, endSlot_port, port_withPort]
    rfl
  | recovery =>
    rw [succeedSequence_recovery hs]
    by_cases hr : (s.port p).resume = true ∧ (s.port p).changes d = false
    · rw [(recovered_resumed hr).1]
      rfl
    · rw [(recovered_ready hr).1]
      rfl

theorem identifyOutcome_ok_view (s : State) (p : PortId) (covered : List Byte) :
    ((s.identifyOutcome p (.ok covered)).port p).view = (s.port p).view := by
  by_cases h : (s.port p).seq.phase = .identify
  · rw [identifyOutcome_ok h]
    split
    · exact abortSequence_view s p
    · split
      · exact failSequence_view s p _
      · exact succeedSequence_view s p _
  · rw [State.identifyOutcome, if_pos h]

theorem LinkMade.of_lined {d : Descriptor} {l : Framer} {r : Bool}
    (h : LinkMade p d (s.withPort p ((s.port p).lined l r (s.port p).counters)) t) : LinkMade p d s t := by
  unfold LinkMade at h ⊢
  rw [port_withPort] at h
  exact h

/-- A clean reply to an IDENTIFY, the line having moved on before it. -/
theorem identifyOutcome_takes {l : Framer} {r : Bool} (hph : (s.port p).seq.phase = .identify) (covered : List Byte) :
    IdentifyReplyTaken p covered s
      ((s.withPort p ((s.port p).lined l r (s.port p).counters)).identifyOutcome p (.ok covered)) := by
  generalize hv : s.withPort p ((s.port p).lined l r (s.port p).counters) = v
  have hvp : v.port p = (s.port p).lined l r (s.port p).counters := by rw [← hv, port_withPort]
  have hout := identifyOutcome_ok (s := v) (p := p) (by rw [hvp]; exact hph) covered
  rw [show (v.port p).seq = (s.port p).seq from by rw [hvp]; rfl] at hout
  unfold IdentifyReplyTaken
  dsimp only
  by_cases hs : (s.port p).seq.stopRequested = true
  · rw [if_pos hs] at hout ⊢
    rw [hout]
    have h := abortSequence_bringUpEnds v p
    rw [← hv] at h ⊢
    exact h.of_lined
  rw [if_neg hs] at hout ⊢
  rw [descriptorFailure_eq] at hout
  generalize descriptorOf (covered.drop 1) = d at hout ⊢
  have hfails : ∀ n, SequenceFails p (BitVec.ofNat 32 n) s (v.failSequence p n) := fun n => by
    have h := failSequence_fails v p n
    rw [← hv] at h ⊢
    exact h.of_lined
  by_cases hrev : d.revision ≠ 1
  · rw [if_pos hrev] at hout ⊢
    rw [hout]
    exact hfails 2
  rw [if_neg hrev] at hout ⊢
  by_cases hbad : d.minPeriod = 0 ∨ 32 < d.outLen.toNat ∨ 32 < d.inLen.toNat ∨ 2 < d.segCode.toNat
  · rw [if_pos hbad] at hout ⊢
    rw [hout]
    exact hfails 3
  rw [if_neg hbad] at hout ⊢
  have hmade : LinkMade p d v (v.succeedSequence p d) := by
    cases hm : (v.port p).seq.mode with
    | bringUp => exact bringUp_linkMade hm
    | recovery => exact recovery_linkMade hm fun h0 => hbad (.inl h0)
  rw [hout]
  rw [← hv] at hmade ⊢
  replace hmade := hmade.of_lined
  unfold LinkMade at hmade
  obtain ⟨hlink, hcount, hte, hphase, hqueue, hconfig, hcyc, hmode⟩ := hmade
  refine ⟨hlink, hcount, hte, hphase, hqueue, hconfig, hcyc, ?_⟩
  cases hm : (s.port p).seq.mode with
  | bringUp =>
    rw [hm] at hmode
    exact hmode
  | recovery =>
    rw [hm] at hmode
    intro old hl
    obtain ⟨hdone, hslot, hresumed, hready⟩ := hmode old hl
    refine ⟨hdone, hslot, ?_⟩
    split
    · rename_i hc
      obtain ⟨hst, hpost, hgroups, hsched⟩ := hresumed hc
      refine ⟨hst, hpost, hgroups, fun k hk => (hsched k hk).trans ?_⟩
      unfold State.resumed
      rw [resumeStart_eq]
      rfl
    · rename_i hc
      exact hready hc

end Sys2Proof.Machine
end

section
/-! PROOFS. A clean reply taken by the Transfer Engine (R43, R94, R110 to R114, R117, R119). -/

namespace Sys2Proof.Machine

/- Each proof waits for the kernel; checked one after another, they need no more threads than the rest of the package. -/
set_option Elab.async false

variable {p : PortId} {s t u : State} {w : OrtEntry} {b : Transfer}

/-! ### The end of the active transfer -/

theorem handedInOrder_congr (hd : s.cpl.done = u.cpl.done) (l : List (OrtEntry × Status × Word)) :
    HandedInOrder s t l ↔ HandedInOrder u t l := by
  unfold HandedInOrder
  rw [hd]

/-- The port with its Transfer Engine replaced. -/
def Port.withTe (x : Port) (te : TransferEngine) : Port := { x with te := te }

/-- The active transfer ends, the Transfer Engine having counted before. -/
theorem endActive_withTe {te : TransferEngine} (ht : te.transfer = some b) (hl : te.lastToggle = (s.port p).te.lastToggle)
    (hw : w.id = b.ort) (hp : s.Pends w) (st : Status) (r : Word) :
    TransferEnds p b w st r s ((s.withPort p ((s.port p).withTe te)).endActive p st r) := by
  have h := endActive_transferEnds (s := s.withPort p ((s.port p).withTe te)) (p := p) (b := b) (w := w)
    (by rw [port_withPort]; exact ht) hw (pends_congr rfl hp) st r
  unfold TransferEnds at h ⊢
  dsimp only at h ⊢
  rw [port_withPort, show ((s.port p).withTe te).te.lastToggle = (s.port p).te.lastToggle from hl] at h
  exact h

@[simp] theorem withPort_withTe_modTe (s : State) (p : PortId) (te : TransferEngine) (f : TransferEngine → TransferEngine) :
    (s.withPort p ((s.port p).withTe te)).modTe p f = s.withPort p ((s.port p).withTe (f te)) := modTe_withPort s p _ f

/-! ### A reply without progress (R112, R113) -/

/-- One more reply without progress. -/
def TransferEngine.busied (te : TransferEngine) : TransferEngine := { te with busies := te.busies + 1, retries := 0 }

theorem busyReply_withTe (s : State) (p : PortId) (te : TransferEngine) (f : TransferEngine → TransferEngine) :
    (s.withPort p ((s.port p).withTe te)).busyReply p f =
      if (s.port p).config.busyLimit ≤ te.busies + 1 then
        (s.withPort p ((s.port p).withTe te.busied)).endActive p .stationBusy 0
      else s.withPort p ((s.port p).withTe (f te.busied)) := by
  unfold State.busyReply
  rw [withPort_withTe_modTe]
  dsimp only
  rw [port_withPort, withPort_withTe_modTe]
  rfl

/-- What a reply without progress does, `te` being the Transfer Engine without the counts (R112, R113). -/
def NoProgress (p : PortId) (b : Transfer) (w : OrtEntry) (te : TransferEngine) (s t : State) : Prop :=
  let x := s.port p
  if x.config.busyLimit ≤ x.te.busies + 1 then TransferEnds p b w .stationBusy 0 s t
  else (t.port p).te = { te with busies := x.te.busies + 1, retries := 0, phase := .sendWait } ∧
    (t.port p).xclaims = x.xclaims

theorem busyReply_noProgress {te te' : TransferEngine} {f : TransferEngine → TransferEngine} (ht : te.transfer = some b)
    (hl : te.lastToggle = (s.port p).te.lastToggle) (hb : te.busies = (s.port p).te.busies) (hw : w.id = b.ort)
    (hp : s.Pends w) (hf : f te.busied = { te' with busies := te.busies + 1, retries := 0, phase := .sendWait }) :
    NoProgress p b w te' s ((s.withPort p ((s.port p).withTe te)).busyReply p f) := by
  unfold NoProgress
  rw [busyReply_withTe, hf, hb]
  dsimp only
  by_cases hlim : (s.port p).config.busyLimit ≤ (s.port p).te.busies + 1
  · rw [if_pos hlim, if_pos hlim]
    exact endActive_withTe (te := te.busied) ht hl hw hp _ _
  · rw [if_neg hlim, if_neg hlim, port_withPort]
    exact ⟨rfl, rfl⟩

/-! ### A reply of code OK (R110, R111) -/

/-- What a reply of code OK to a write segment does (R111). -/
theorem writeAccepted_takes {g : Segment} (ht : (s.port p).te.transfer = some b) (hw : w.id = b.ort) (hp : s.Pends w) :
    let x := s.port p
    let t := s.writeAccepted p b g
    (g.last = true → TransferEnds p b w .ok (BitVec.ofNat 32 b.length) s t) ∧
    (g.last = false →
      (t.port p).te = { x.te with
        octetsDone := x.te.octetsDone + g.dataLen, retries := 0, busies := 0, phase := .fetching, segment := none } ∧
      (t.port p).xclaims = x.xclaims ++ [.fetch (b.buffer + BitVec.ofNat 32 (x.te.octetsDone + g.dataLen))
        (if x.te.octetsDone + g.dataLen = 0 then min b.length (x.segSize - 4)
          else min (b.length - (x.te.octetsDone + g.dataLen)) x.segSize)]) := by
  intro x t
  have htt : t = if g.last then (s.withPort p (x.withTe { x.te with
        octetsDone := x.te.octetsDone + g.dataLen, retries := 0, busies := 0 })).endActive p .ok (BitVec.ofNat 32 b.length)
      else (s.withPort p (x.withTe { x.te with
        octetsDone := x.te.octetsDone + g.dataLen, retries := 0, busies := 0 })).claimFetch p b := rfl
  refine ⟨fun h => ?_, fun h => ?_⟩
  · rw [htt, if_pos h]
    exact endActive_withTe (te := { x.te with octetsDone := x.te.octetsDone + g.dataLen, retries := 0, busies := 0 }) ht rfl
      hw hp _ _
  · rw [htt, if_neg (by rw [h]; decide), State.claimFetch, modPort_withPort, port_withPort]
    exact ⟨rfl, rfl⟩

/-- The Transfer Engine after a reply of code OK to a read segment, before its data are looked at (R110, R112). -/
def TransferEngine.readOk (te : TransferEngine) (n : Nat) (last : Bool) : TransferEngine :=
  { te with retries := 0, busies := if n = 0 ∧ last = false then te.busies else 0 }

theorem readAccepted_eq (s : State) (p : PortId) (b : Transfer) (data : List Byte) (last : Bool) :
    let x := s.port p
    let u := s.withPort p (x.withTe (x.te.readOk data.length last))
    s.readAccepted p b data last =
      if b.length < x.te.octetsDone + data.length then u.abandonFor p .tooLong
      else if data.length = 0 then
        if last = true then u.endActive p .ok (BitVec.ofNat 32 x.te.octetsDone)
        else u.busyReply p (TransferEngine.build (readSegment b false))
      else s.withPort p { x with
        te := { x.te.readOk data.length last with phase := .storing, segment := none, storing := some (data.length, last) }
        xclaims := x.xclaims ++ [.store (b.buffer + BitVec.ofNat 32 x.te.octetsDone) data] } := by
  intro x u
  have hu : (s.modTe p fun te => { te with retries := 0, busies := if data.length = 0 && !last then te.busies else 0 }) = u := by
    change s.withPort p (x.withTe _) = s.withPort p (x.withTe _)
    unfold TransferEngine.readOk
    simp only [Bool.and_eq_true, decide_eq_true_eq, Bool.not_eq_true']
    rfl
  unfold State.readAccepted
  rw [hu]
  dsimp only
  rw [show u.port p = x.withTe (x.te.readOk data.length last) from port_withPort s p _, modPort_withPort]
  rfl

/-- What a reply of code OK to a read segment does (R110, R112). -/
def ReadTaken (p : PortId) (b : Transfer) (w : OrtEntry) (data : List Byte) (last : Bool) (s t : State) : Prop :=
  let x := s.port p
  let y := t.port p
  let te := x.te.readOk data.length last
  if b.length < x.te.octetsDone + data.length then
    y.te = { te with cause := some .tooLong }.abandoning ∧ y.xclaims = x.xclaims.filter (·.isReport)
  else if data.length = 0 then
    if last = true then TransferEnds p b w .ok (BitVec.ofNat 32 x.te.octetsDone) s t
    else NoProgress p b w { x.te with storing := none, segment := some (readSegment b false) } s t
  else
    y.te = { te with busies := 0, phase := .storing, segment := none, storing := some (data.length, last) } ∧
    y.xclaims = x.xclaims ++ [.store (b.buffer + BitVec.ofNat 32 x.te.octetsDone) data]

theorem readAccepted_takes {data : List Byte} {last : Bool} (ht : (s.port p).te.transfer = some b)
    (hs : (s.port p).te.sent = true) (hc : (s.port p).te.cause = none) (hw : w.id = b.ort) (hp : s.Pends w) :
    ReadTaken p b w data last s (s.readAccepted p b data last) := by
  unfold ReadTaken
  rw [readAccepted_eq]
  dsimp only
  by_cases hlong : b.length < (s.port p).te.octetsDone + data.length
  · rw [if_pos hlong, if_pos hlong, abandonFor_sent (by rw [port_withPort]; exact hs), port_withPort, port_withPort]
    refine ⟨?_, rfl⟩
    rw [show ((s.port p).withTe ((s.port p).te.readOk data.length last)).te.cause = none from hc]
    rfl
  rw [if_neg hlong, if_neg hlong]
  by_cases hn : data.length = 0
  · rw [if_pos hn, if_pos hn]
    by_cases hl : last = true
    · rw [if_pos hl, if_pos hl]
      exact endActive_withTe (te := (s.port p).te.readOk data.length last) ht rfl hw hp _ _
    · rw [if_neg hl, if_neg hl]
      exact busyReply_noProgress (te := (s.port p).te.readOk data.length last) ht rfl
        (if_pos ⟨hn, Bool.eq_false_iff.mpr hl⟩) hw hp rfl
  · rw [if_neg hn, if_neg hn, port_withPort]
    refine ⟨?_, rfl⟩
    unfold TransferEngine.readOk
    rw [if_neg (fun h => hn h.1)]

/-! ### A clean reply to a segment (R110 to R114, R119) -/

theorem segmentReply_eq (s : State) (p : PortId) (b : Transfer) (g : Segment) (covered : List Byte) :
    s.segmentReply p b g covered =
      let sts := covered.getD 0 0
      let data := covered.drop 2
      if sts.toNat % 4 = 1 then s.busyReply p fun te => { te with phase := .sendWait }
      else if sts.toNat % 4 ≠ 0 then s.endActive p .stationError ((data.getD 0 0).setWidth 32)
      else if g.write then s.writeAccepted p b g
      else s.readAccepted p b data (sts.getLsbD 3) := by
  unfold State.segmentReply replyCode
  dsimp only
  generalize (covered.getD 0 0).toNat % 4 = n
  match n with
  | 0 => rfl
  | 1 => rfl
  | n + 2 => rfl

theorem segmentReply_takes {g : Segment} {covered : List Byte} (ht : (s.port p).te.transfer = some b)
    (hs : (s.port p).te.sent = true) (hc : (s.port p).te.cause = none) (hw : w.id = b.ort) (hp : s.Pends w) :
    SegmentReplyTaken p b g w covered s (s.segmentReply p b g covered) := by
  rw [segmentReply_eq]
  unfold SegmentReplyTaken
  dsimp only
  by_cases hbusy : (covered.getD 0 0).toNat % 4 = 1
  · rw [if_pos hbusy, if_pos hbusy]
    have h := busyReply_noProgress (te := (s.port p).te) (te' := (s.port p).te) (f := fun te => { te with phase := .sendWait })
      ht rfl rfl hw hp rfl
    rw [show (s.port p).withTe (s.port p).te = s.port p from rfl, withPort_self] at h
    exact h
  rw [if_neg hbusy, if_neg hbusy]
  by_cases herr : (covered.getD 0 0).toNat % 4 ≠ 0
  · rw [if_pos herr, if_pos herr]
    exact endActive_transferEnds ht hw hp _ _
  rw [if_neg herr, if_neg herr]
  by_cases hwr : g.write = true
  · rw [if_pos hwr, if_pos hwr]
    obtain ⟨hlast, hmore⟩ := writeAccepted_takes (g := g) ht hw hp
    by_cases hl : g.last = true
    · rw [if_pos hl]
      exact hlast hl
    · rw [if_neg hl]
      exact hmore (Bool.eq_false_iff.mpr hl)
  · rw [if_neg hwr, if_neg hwr]
    have h := readAccepted_takes (data := covered.drop 2) (last := (covered.getD 0 0).getLsbD 3) ht hs hc hw hp
    exact h

theorem segmentReplyAbandoned_eq (s : State) (p : PortId) (g : Segment) (covered : List Byte) :
    s.segmentReplyAbandoned p g covered =
      let sts := covered.getD 0 0
      if 2 ≤ sts.toNat % 4 ∨ (sts.toNat % 4 = 0 ∧ (if g.write then g.last else sts.getLsbD 3) = true) then s.endAbandoned p
      else s.abandonNow p := by
  unfold State.segmentReplyAbandoned replyCode
  dsimp only
  generalize (covered.getD 0 0).toNat % 4 = n
  match n with
  | 0 => simp [stsLast]
  | 1 => simp
  | n + 2 => simp

/-! ### The outcome of a service exchange -/

/-- The port after the ATTENTION of an OK reply (R32, R94). -/
def Port.attended (x : Port) (a : Bool) : Port :=
  { x with counters := { x.counters with misses := x.missesAfterGood, attention := a } }

theorem goodAttend (s : State) (p : PortId) (a : Bool) (d : Word) :
    let t := (s.goodExchange p).attend p a d
    t.port p = (s.port p).attended a ∧ NothingHanded s t ∧ AttentionPosted p a d s t := by
  intro t
  have hn := attend_nothingHanded (s.goodExchange p) p a d
  have hp := attend_posted (s.goodExchange p) p a d
  rw [goodExchange_eq] at hn hp
  refine ⟨?_, ?_, ?_⟩
  · change ((s.goodExchange p).attend p a d).port p = _
    rw [attend_port, goodExchange_eq, port_withPort]
    rfl
  · change NothingHanded s ((s.goodExchange p).attend p a d)
    rw [goodExchange_eq]
    exact (withPort_nothingHanded s p _).trans hn
  · change AttentionPosted p a d s ((s.goodExchange p).attend p a d)
    rw [goodExchange_eq]
    exact hp.after rfl

theorem TransferEnds.after {st : Status} {r : Word} {k : Counters} (h : TransferEnds p b w st r u t)
    (hu : u.port p = { s.port p with counters := k }) (hd : u.cpl.done = s.cpl.done) : TransferEnds p b w st r s t := by
  unfold TransferEnds at h ⊢
  rw [hu] at h
  rw [handedInOrder_congr hd] at h
  exact h

theorem SegmentReplyTaken.after {g : Segment} {covered : List Byte} {k : Counters}
    (h : SegmentReplyTaken p b g w covered u t) (hu : u.port p = { s.port p with counters := k })
    (hd : u.cpl.done = s.cpl.done) : SegmentReplyTaken p b g w covered s t := by
  unfold SegmentReplyTaken TransferEnds at h ⊢
  simp only [handedInOrder_congr hd, hu] at h
  exact h

/-- A clean reply to a segment of the active transfer, with or without an abandon cause (R94, R110 to R114, R119). -/
def SegmentTaken (p : PortId) (b : Transfer) (g : Segment) (w : OrtEntry) (covered : List Byte) (s t : State) : Prop :=
  let te := (s.port p).te
  let sts := covered.getD 0 0
  Attended p (sts.getLsbD 4) 2 s t ∧
  (te.cause = none → SegmentReplyTaken p b g w covered s t) ∧
  ∀ c, te.cause = some c →
    (2 ≤ sts.toNat % 4 ∨ (sts.toNat % 4 = 0 ∧ (if g.write then g.last else sts.getLsbD 3) = true) →
      TransferEnds p b w (te.abandonedAs c).1 (te.abandonedAs c).2 s t) ∧
    (¬ (2 ≤ sts.toNat % 4 ∨ (sts.toNat % 4 = 0 ∧ (if g.write then g.last else sts.getLsbD 3) = true)) →
      (t.port p).te = te.abandoning ∧ (t.port p).xclaims = (s.port p).xclaims.filter (·.isReport))

theorem segmentOutcome_ok {g : Segment} (ht : (s.port p).te.transfer = some b) (hg : (s.port p).te.segment = some g)
    (covered : List Byte) : s.segmentOutcome p (.ok covered) =
      let u := (s.goodExchange p).attend p ((covered.getD 0 0).getLsbD 4) 2
      if (u.port p).te.cause.isSome then u.segmentReplyAbandoned p g covered else u.segmentReply p b g covered := by
  unfold State.segmentOutcome
  rw [ht, hg]
  rfl

/-- An OK outcome of a segment is dealt with by the Transfer Engine alone, ATTENTION and the miss count apart. -/
theorem segmentOutcome_serves {g : Segment} (ht : (s.port p).te.transfer = some b) (hg : (s.port p).te.segment = some g)
    (covered : List Byte) :
    Serves p ((s.goodExchange p).attend p ((covered.getD 0 0).getLsbD 4) 2) (s.segmentOutcome p (.ok covered)) := by
  rw [segmentOutcome_ok ht hg]
  exact ite_serves (segmentReplyAbandoned_serves (.refl p _) g covered) (segmentReply_serves (.refl p _) b g covered)

theorem segmentOutcome_takes {g : Segment} (ht : (s.port p).te.transfer = some b) (hg : (s.port p).te.segment = some g)
    (hs : (s.port p).te.sent = true) (hw : w.id = b.ort) (hp : s.Pends w) (covered : List Byte) :
    SegmentTaken p b g w covered s (s.segmentOutcome p (.ok covered)) := by
  have hserves := segmentOutcome_serves ht hg covered
  rw [segmentOutcome_ok ht hg] at hserves ⊢
  obtain ⟨hport, hn, hposted⟩ := goodAttend s p ((covered.getD 0 0).getLsbD 4) 2
  dsimp only at hserves ⊢
  generalize (s.goodExchange p).attend p ((covered.getD 0 0).getLsbD 4) 2 = u at hserves hport hn hposted ⊢
  have hpu : u.Pends w := pends_congr hn.ort hp
  have hte : (u.port p).te = (s.port p).te := by rw [hport]; rfl
  obtain ⟨-, -, -, -, -, -, hcount⟩ := hserves.kept
  refine ⟨⟨?_, ?_⟩, fun hc => ?_, fun c hc => ?_⟩
  · rw [hcount, hport]
    rfl
  · exact hposted.of_events hserves.lists.events
  · rw [hte, hc, Option.isSome_none, if_neg Bool.false_ne_true]
    exact (segmentReply_takes (by rw [hte, ht]) (by rw [hte, hs]) (by rw [hte, hc]) hw hpu).after hport hn.done
  · rw [hte, hc, Option.isSome_some, if_pos rfl, segmentReplyAbandoned_eq]
    dsimp only
    refine ⟨fun he => ?_, fun he => ?_⟩
    · rw [if_pos he, endAbandoned_of (by rw [hte, hc]), hte]
      exact (endActive_transferEnds (by rw [hte, ht]) hw hpu _ _).after hport hn.done
    · rw [if_neg he, abandonNow_eq, port_withPort, hport]
      exact ⟨rfl, rfl⟩

/-- Of the port only counts that do not tell of the line have changed, and nothing has been handed over. -/
structure Counted (p : PortId) (s u : State) : Prop where
  port : ∃ k, u.port p = { s.port p with counters := k }
  view : (u.port p).view = (s.port p).view
  others : NothingHanded s u

theorem Counted.refl (p : PortId) (s : State) : Counted p s s := ⟨⟨_, rfl⟩, rfl, ⟨rfl, rfl, rfl⟩⟩

theorem goodExchange_counted (s : State) (p : PortId) : Counted p s (s.goodExchange p) := by
  rw [goodExchange_eq]
  exact ⟨⟨_, port_withPort s p _⟩, by rw [port_withPort]; rfl, withPort_nothingHanded s p _⟩

theorem goodAttend_counted (s : State) (p : PortId) (a : Bool) (d : Word) :
    Counted p s ((s.goodExchange p).attend p a d) := by
  obtain ⟨hport, hn, -⟩ := goodAttend s p a d
  exact ⟨⟨_, hport⟩, by rw [hport]; rfl, hn⟩

theorem transferOutcome_abandon (h : (s.port p).te.phase = .abandonExchange) (f : Frame) (covered : List Byte) :
    s.transferOutcome p f (.ok covered) = (s.goodExchange p).endAbandoned p := by
  unfold State.transferOutcome State.abandonOutcome
  rw [h]

theorem transferOutcome_segment (h : (s.port p).te.phase = .exchange) (f : Frame) (o : Outcome) :
    s.transferOutcome p f o = s.segmentOutcome p o := by
  unfold State.transferOutcome
  rw [h]

/-- A clean reply to a service frame is counted, and the rest is the Transfer Engine's own. -/
theorem transferOutcome_counted (s : State) (p : PortId) (f : Frame) (covered : List Byte) :
    ∃ u, Counted p s u ∧ Serves p u (s.transferOutcome p f (.ok covered)) := by
  by_cases haw : (s.port p).awaits
  · obtain ⟨hph, ht, hseg⟩ | hph := haw
    · obtain ⟨b, ht⟩ := Option.isSome_iff_exists.mp ht
      obtain ⟨g, hseg⟩ := Option.isSome_iff_exists.mp hseg
      rw [transferOutcome_segment hph]
      exact ⟨_, goodAttend_counted s p _ 2, segmentOutcome_serves ht hseg covered⟩
    · rw [transferOutcome_abandon hph]
      exact ⟨_, goodExchange_counted s p, endAbandoned_serves (.refl p _)⟩
  · refine ⟨s, .refl p s, ?_⟩
    by_cases hph : (s.port p).te.phase = .exchange
    · rw [transferOutcome_idle haw hph]
      exact .refl p s
    · rw [transferOutcome_dropped haw hph]
      exact ite_serves (handEnded_serves (.refl p s) true) (.refl p s)

theorem transferOutcome_ok_view (s : State) (p : PortId) (f : Frame) (covered : List Byte) :
    ((s.transferOutcome p f (.ok covered)).port p).view = (s.port p).view := by
  obtain ⟨u, hc, hs⟩ := transferOutcome_counted s p f covered
  exact hs.view.trans hc.view

/-- A clean reply to SVC_ABANDON (R32, R117). -/
theorem abandonOutcome_takes (s : State) (p : PortId) :
    let t := (s.goodExchange p).endAbandoned p
    (t.port p).counters = (s.port p).good.counters ∧ t.cpl.events = s.cpl.events ∧
      ∀ b c w, (s.port p).te.transfer = some b → (s.port p).te.cause = some c → w.id = b.ort → s.Pends w →
        TransferEnds p b w ((s.port p).te.abandonedAs c).1 ((s.port p).te.abandonedAs c).2 s t := by
  intro t
  have hserves : Serves p (s.goodExchange p) t := endAbandoned_serves (.refl p _)
  have ht : t = (s.goodExchange p).endAbandoned p := rfl
  rw [goodExchange_eq] at hserves ht
  obtain ⟨-, -, -, -, -, -, hcount⟩ := hserves.kept
  refine ⟨by rw [hcount, port_withPort], hserves.lists.events, fun b c w hb hc hw hp => ?_⟩
  generalize hu : s.withPort p (s.port p).good = u at ht
  have hport : u.port p = { s.port p with counters := (s.port p).good.counters } := by rw [← hu, port_withPort]; rfl
  have hte : (u.port p).te = (s.port p).te := by rw [hport]
  rw [ht, endAbandoned_of (by rw [hte, hc]), hte]
  exact (endActive_transferEnds (by rw [hte, hb]) hw (pends_congr (by rw [← hu]; rfl) hp) _ _).after hport (by rw [← hu]; rfl)

/-- A clean reply to a service frame (R43, R94, R110 to R114, R117, R119). -/
theorem transferOutcome_takes (s : State) (p : PortId) (f : Frame) (covered : List Byte) :
    ServiceReplyTaken p f covered s (s.transferOutcome p f (.ok covered)) := by
  obtain ⟨u, ⟨⟨k, hu⟩, -, hn⟩, hserves⟩ := transferOutcome_counted s p f covered
  obtain ⟨hstate, hslot, hsched, hlink, hcyc, hconfig, -⟩ := hserves.kept
  rw [hu] at hstate hslot hsched hlink hcyc hconfig
  have hgroups : GroupsKept s (s.transferOutcome p f (.ok covered)) := fun g =>
    State.group_congr (hserves.lists.groups.trans hn.groups) g
  unfold ServiceReplyTaken
  refine ⟨hstate, hslot, hsched, hlink, hcyc, hconfig, hgroups, fun b g w hph ht hg hs hw ho => ?_, fun hph => ?_,
    fun h₁ h₂ => ⟨?_, transferOutcome_outcomeDropped h₁ h₂ f _⟩⟩
  · rw [transferOutcome_segment hph]
    obtain ⟨hatt, hnone, hsome⟩ := segmentOutcome_takes ht hg hs hw (ho.pends (List.mem_singleton_self w)) covered
    refine ⟨hatt, ?_⟩
    cases hc : (s.port p).te.cause with
    | none => exact hnone hc
    | some c =>
      obtain ⟨hends, hgoes⟩ := hsome c hc
      exact iteInduction (motive := fun q => q) hends hgoes
  · rw [transferOutcome_abandon hph]
    obtain ⟨hcount, hevents, hends⟩ := abandonOutcome_takes s p
    exact ⟨hcount, hevents, fun b c w hb hc hw ho => hends b c w hb hc hw (ho.pends (List.mem_singleton_self w))⟩
  · rw [transferOutcome_dropped (fun h => h.elim (fun h => h₁ h.1) h₂) h₁]
    split
    · rw [handEnded_port]
    · rfl

end Sys2Proof.Machine
end

section
/-! PROOFS. A whole and clean reply: guarded, and taken by the engine that sent the frame (R15, R16); the line after it. -/

namespace Sys2Proof.Machine

/- Each proof waits for the kernel; checked one after another, they need no more threads than the rest of the package. -/
set_option Elab.async false

variable {p : PortId} {s t : State}

/-! ### Claims of a state of which the line has moved on -/

section lined

variable {l : Framer} {r : Bool} {f : Frame} {covered : List Byte}

theorem CyclicReplyTaken.of_lined {u : Word}
    (h : CyclicReplyTaken p f covered u (s.withPort p ((s.port p).lined l r (s.port p).counters)) t) :
    CyclicReplyTaken p f covered u s t := by
  unfold CyclicReplyTaken Attended at h ⊢
  rw [port_withPort] at h
  obtain ⟨hatt, hlink, hconfig, hqueue, hte, hover⟩ := h
  exact ⟨hatt, hlink, hconfig, hqueue, hte, hover.of_lined⟩

theorem ServiceReplyTaken.of_lined
    (h : ServiceReplyTaken p f covered (s.withPort p ((s.port p).lined l r (s.port p).counters)) t) :
    ServiceReplyTaken p f covered s t := by
  unfold ServiceReplyTaken SegmentReplyTaken TransferEnds Attended at h ⊢
  simp only [port_withPort] at h
  obtain ⟨h₁, h₂, h₃, h₄, h₅, h₆, h₇, hseg, habandon, hdrop⟩ := h
  exact ⟨h₁, h₂, h₃, h₄, h₅, h₆, h₇, hseg, habandon, fun a b => ⟨(hdrop a b).1, (hdrop a b).2.of_lined⟩⟩

end lined

theorem endExchange_ok (s : State) (p : PortId) (f : Frame) (covered : List Byte) (l : Framer) (r : Bool) :
    (s.withPort p ((s.port p).lined l r (s.port p).counters)).endExchange p f (.ok covered) s.time =
      (s.withPort p ((s.port p).lined (l.toGuard f.speed s.time) r (s.port p).counters)).taken p f (.ok covered) := by
  unfold State.endExchange State.deliver
  rw [modLf_withPort]
  rfl

/-- What no engine changes of the line once a clean reply has been received. -/
theorem taken_ok_view (s : State) (p : PortId) (f : Frame) (covered : List Byte) :
    ((s.taken p f (.ok covered)).port p).view = (s.port p).view := by
  unfold State.taken
  cases f.engine with
  | bringUp => exact identifyOutcome_ok_view s p covered
  | cycle => exact (cycleOutcome_takes s p f covered).1
  | transfer => exact transferOutcome_ok_view s p f covered

/-- An exchange ends with a clean reply, the line standing as `l` with `r` on RXD. -/
theorem endExchange_replyTaken (s : State) (p : PortId) (f : Frame) (covered : List Byte) (l : Framer) (r : Bool) :
    let t := (s.withPort p ((s.port p).lined l r (s.port p).counters)).endExchange p f (.ok covered) s.time
    ReplyTaken p f covered s t ∧ (t.port p).rxd = r ∧ (t.port p).lf.recessiveSince = l.recessiveSince ∧
      (t.port p).lf.dominantSince = l.dominantSince := by
  intro t
  have honly : OnlyPort p s t :=
    (endExchange_at (modPort_at (.refl p s) fun _ => (s.port p).lined l r (s.port p).counters) f _ _).onlyPort
  have ht : t = _ := endExchange_ok s p f covered l r
  have hview := taken_ok_view (s.withPort p ((s.port p).lined (l.toGuard f.speed s.time) r (s.port p).counters)) p f covered
  rw [← ht, port_withPort] at hview
  have hlf : { (t.port p).lf with held := none } = { l.toGuard f.speed s.time with held := none } := congrArg LineView.lf hview
  refine ⟨?_, (congrArg LineView.rxd hview :), (congrArg Framer.recessiveSince hlf :), (congrArg Framer.dominantSince hlf :)⟩
  unfold ReplyTaken
  refine ⟨honly, (congrArg Framer.state hlf :), (congrArg Framer.txen hlf :), (congrArg Framer.rx hlf :),
    (congrArg Framer.candidate hlf :), (congrArg Framer.timer hlf :), ?_⟩
  rw [ht]
  unfold State.taken
  cases f.engine with
  | bringUp => exact fun hph => identifyOutcome_takes hph covered
  | cycle =>
    intro u hu
    exact ((cycleOutcome_takes _ p f covered).2 u (by rw [port_withPort]; exact hu)).of_lined
  | transfer => exact (transferOutcome_takes _ p f covered).of_lined

/-! ### The line after a character (R11) -/

theorem lineAfter_iff {edge since : Nat} {recessive : Bool} : LineAfter p edge recessive since s t ↔
    if (s.port p).lf.toldSince edge = true then
      (t.port p).rxd = (s.port p).rxd ∧ (t.port p).lf.recessiveSince = (s.port p).lf.recessiveSince ∧
        (t.port p).lf.dominantSince = (s.port p).lf.dominantSince
    else
      (t.port p).rxd = recessive ∧ (t.port p).lf.recessiveSince = (if recessive then some since else none) ∧
        (t.port p).lf.dominantSince = if recessive then none else some since := Iff.rfl

/-- The line after a character, as a replacement of what the port holds of it. -/
theorem levelAfter_lined (s : State) (p : PortId) (edge : Nat) (recessive : Bool) (since : Nat) :
    ∃ l r, s.levelAfter p edge recessive since = s.withPort p ((s.port p).lined l r (s.port p).counters) ∧
      l = { (s.port p).lf with recessiveSince := l.recessiveSince, dominantSince := l.dominantSince } ∧
      ∀ t : State, (t.port p).rxd = r → (t.port p).lf.recessiveSince = l.recessiveSince →
        (t.port p).lf.dominantSince = l.dominantSince → LineAfter p edge recessive since s t := by
  unfold State.levelAfter
  cases htold : (s.port p).lf.toldSince edge with
  | true =>
    rw [lineIs_told]
    refine ⟨(s.port p).lf, (s.port p).rxd, (withPort_self s p).symm, rfl, fun t hr hl hd => ?_⟩
    rw [lineAfter_iff, if_pos htold]
    exact ⟨hr, hl, hd⟩
  | false =>
    refine ⟨(s.port p).lf.stretch recessive since, recessive, lineIs_untold s p recessive since, ?_, fun t hr hl hd => ?_⟩
    · cases recessive <;> rfl
    rw [lineAfter_iff, if_neg (Bool.eq_false_iff.mp htold)]
    refine ⟨hr, hl.trans ?_, hd.trans ?_⟩
    · cases recessive <;> rfl
    · cases recessive <;> rfl

theorem replyEnds_failed (s : State) (p : PortId) (f : Frame) (c : Cause) (edge : Nat) (recessive : Bool) (since : Nat) :
    let t := s.replyEnds p f (.failed c) edge recessive since
    ExchangeFailed p f c s t ∧ LineAfter p edge recessive since s t := by
  unfold State.replyEnds
  obtain ⟨l, r, hline, -, hafter⟩ := levelAfter_lined s p edge recessive since
  obtain ⟨hf, hr, hl, hd⟩ := endExchange_exchangeFailed s p f c l r
  rw [hline]
  exact ⟨hf, hafter _ hr hl hd⟩

theorem replyEnds_ok (s : State) (p : PortId) (f : Frame) (covered : List Byte) (edge : Nat) (recessive : Bool) (since : Nat) :
    let t := s.replyEnds p f (.ok covered) edge recessive since
    ReplyTaken p f covered s t ∧ LineAfter p edge recessive since s t := by
  unfold State.replyEnds
  obtain ⟨l, r, hline, -, hafter⟩ := levelAfter_lined s p edge recessive since
  obtain ⟨hf, hr, hl, hd⟩ := endExchange_replyTaken s p f covered l r
  rw [hline]
  exact ⟨hf, hafter _ hr hl hd⟩

end Sys2Proof.Machine
end

section
/-! PROOFS. STATION_REPLY: the characters of a reply received one by one, and what the last of them brings about (R4, R7 to R9,
R14, R15). -/

namespace Sys2Proof.Machine

/- Each proof waits for the kernel; checked one after another, they need no more threads than the rest of the package. -/
set_option Elab.async false

variable {p : PortId} {s s' t : State} {f : Frame} {g : Nat} {rx : Rx} {chars : List RxChar}

/-! ### Beginnings of a reply (R7, R15) -/

theorem begunWith_of_append {a b : List Byte} (h : f.begunWith (a ++ b)) : f.begunWith a := by
  obtain ⟨hlen, hseg⟩ := h
  have hlt : a.length ≤ (a ++ b).length := by simp
  have hget : ∀ n, a[1]? = some n → (a ++ b)[1]? = some n := fun n hn => by
    rw [List.getElem?_append_left (List.getElem?_eq_some_iff.mp hn).1, hn]
  refine ⟨fun n hn => Nat.lt_of_le_of_lt hlt (hlen n ?_), fun hk n hn => hseg hk n (hget n hn)⟩
  unfold Frame.replyChars at hn ⊢
  cases hk : f.kind.service with
  | false => rw [hk] at hn; exact hn
  | true =>
    rw [hk, if_pos rfl] at hn
    obtain ⟨o, ho, rfl⟩ := Option.map_eq_some_iff.mp hn
    rw [if_pos rfl, hget o ho]
    rfl

/-- Before its last character a whole reply has been begun. -/
theorem begunWith_of_whole {a : List Byte} {o : Byte} (h : f.wholeReply (a ++ [o])) : f.begunWith a := by
  obtain ⟨hlen, hseg⟩ := h
  have hget : ∀ n, a[1]? = some n → (a ++ [o])[1]? = some n := fun n hn => by
    rw [List.getElem?_append_left (List.getElem?_eq_some_iff.mp hn).1, hn]
  refine ⟨fun n hn => ?_, fun hk n hn => hseg hk n (hget n hn)⟩
  have hsame : f.replyChars (a ++ [o]) = some n := by
    unfold Frame.replyChars at hn ⊢
    cases hk : f.kind.service with
    | false => rw [hk] at hn; exact hn
    | true =>
      rw [hk, if_pos rfl] at hn
      obtain ⟨q, hq, rfl⟩ := Option.map_eq_some_iff.mp hn
      rw [if_pos rfl, hget q hq]
      rfl
  rw [hsame, List.length_append, List.length_singleton, Option.some.injEq] at hlen
  omega

/-- A LEN that goes on, or ends, a reply is none above S (R15). -/
theorem len_accepted {a b : List Byte} {o : Byte}
    (h : f.kind.service = true → ∀ n, (a ++ o :: b)[1]? = some n → n.toNat ≤ f.seg) :
    ¬ (f.kind.service = true ∧ a.length = 1 ∧ f.seg < o.toNat) := by
  rintro ⟨hk, hl, hlt⟩
  have := h hk o (by rw [List.getElem?_append_right (by omega), hl]; rfl)
  omega

/-! ### What is received (R4, R8, R14) -/

/-- The count and the CRC register are those of the octets received. -/
def Rx.Sound (rx : Rx) : Prop := rx.count = rx.octets.length ∧ rx.crc = Machine.crc rx.octets

theorem after_sound (h : rx.Sound) (c : RxChar) (n : Nat) : (rx.after f c n).Sound := by
  obtain ⟨hc, hr⟩ := h
  refine ⟨by simp [Rx.after, hc], ?_⟩
  simp only [Rx.after, hr, Machine.crc, List.foldl_append, List.foldl_cons, List.foldl_nil]

/-- What is received once these characters have been received whole and more is expected. -/
def Rx.through (f : Frame) : List RxChar → Rx → Rx
  | [], rx => rx
  | c :: cs, rx => Rx.through f cs (rx.after f c (rx.startOf c))

theorem through_append (l : List RxChar) (c : RxChar) (rx : Rx) :
    rx.through f (l ++ [c]) = (rx.through f l).after f c ((rx.through f l).startOf c) := by
  induction l generalizing rx with
  | nil => rfl
  | cons a l ih => exact ih _

theorem through_sound (h : rx.Sound) (l : List RxChar) : (rx.through f l).Sound := by
  induction l generalizing rx with
  | nil => exact h
  | cons a l ih => exact ih (after_sound h _ _)

theorem through_octets (l : List RxChar) (rx : Rx) : (rx.through f l).octets = rx.octets ++ l.map (·.octet) := by
  induction l generalizing rx with
  | nil => simp [Rx.through]
  | cons a l ih => rw [Rx.through, ih]; simp [Rx.after]

theorem through_edge (l : List RxChar) (rx : Rx) (h : l ≠ [] ∨ rx.edge = none) : (rx.through f l).edge = none := by
  induction l generalizing rx with
  | nil => exact h.resolve_left fun hn => hn rfl
  | cons a l ih => exact ih _ (.inr rfl)

theorem replySpan_cons (tb : Nat) (a c : RxChar) (l : List RxChar) :
    replySpan tb (a :: c :: l) = 10 * tb + c.gap + replySpan tb (c :: l) := by
  simp only [replySpan, List.length_cons, List.drop_succ_cons, List.drop_zero, List.map_cons, List.sum_cons]
  ring

theorem through_lastEnd (c : RxChar) (l : List RxChar) (rx : Rx) :
    (rx.through f (c :: l)).lastEnd = rx.startOf c + replySpan f.speed.tb (c :: l) := by
  induction l generalizing c rx with
  | nil => simp [Rx.through, Rx.after, replySpan]
  | cons a l ih =>
    rw [Rx.through, ih, replySpan_cons]
    simp only [Rx.startOf, Rx.after, Option.getD_none]
    ring

/-- Clean characters of a reply that goes on are received, and those after them as if begun with them. -/
theorem receive_through (hs : rx.Sound) (hclean : ∀ c ∈ chars, c.stop = true) (hgaps : ∀ c ∈ chars.drop 1, c.gap ≤ g)
    (hfirst : ∀ c, chars.head? = some c → rx.edge = none → c.gap ≤ g)
    (hb : f.begunWith (rx.octets ++ chars.map (·.octet))) (more : List RxChar) :
    receive f g (chars ++ more) rx = receive f g more (rx.through f chars) := by
  induction chars generalizing rx with
  | nil => rfl
  | cons c l ih =>
    have hstop : c.stop = true := hclean c (List.mem_cons_self ..)
    have hgap : (rx.edge.isNone && decide (g < c.gap)) = false := by
      cases he : rx.edge with
      | some d => rfl
      | none =>
        have := hfirst c rfl he
        rw [Option.isNone_none, Bool.true_and, decide_eq_false_iff_not]
        omega
    have hb' : f.begunWith ((rx.octets ++ [c.octet]) ++ l.map (·.octet)) := by simpa using hb
    have hlen : ¬ (f.kind.service = true ∧ rx.octets.length = 1 ∧ f.seg < c.octet.toNat) :=
      len_accepted (b := l.map fun c => c.octet) (by simpa using hb.2)
    have htotal : ¬ replyTotal f (rx.octets ++ [c.octet]) = some (rx.count + 1) := fun h => by
      rw [replyTotal_eq, hs.1] at h
      have := (begunWith_of_append hb').1 _ h
      simp at this
    rw [List.cons_append, receive_cons, hgap, hstop, if_neg Bool.false_ne_true, if_neg (by decide),
      if_neg (by simpa [hs.1, and_assoc] using hlen), if_neg htotal]
    refine ih (after_sound hs _ _) (fun d hd => hclean d (List.mem_cons_of_mem _ hd))
      (fun d hd => hgaps d (List.mem_of_mem_drop hd)) (fun d hd _ => hgaps d ?_) hb'
    rw [List.drop_one, List.tail_cons]
    exact List.mem_of_head? hd

/-- The last character of a whole reply has it judged (R9, R15). -/
theorem receive_whole {c : RxChar} (hs : rx.Sound) (hstop : c.stop = true) (hgap : rx.edge = none → c.gap ≤ g)
    (hw : f.wholeReply (rx.octets ++ [c.octet])) :
    receive f g [c] rx = .ends (judgeReply f rx.crc (rx.octets ++ [c.octet])) (rx.startOf c + 10 * f.speed.tb)
      (rx.startOf c) true (rx.startOf c + 10 * f.speed.tb - tailRecessive c.octet * f.speed.tb) := by
  have hlate : (rx.edge.isNone && decide (g < c.gap)) = false := by
    cases he : rx.edge with
    | some d => rfl
    | none =>
      have := hgap he
      rw [Option.isNone_none, Bool.true_and, decide_eq_false_iff_not]
      omega
  have hlen : ¬ (f.kind.service = true ∧ rx.octets.length = 1 ∧ f.seg < c.octet.toNat) := len_accepted (b := []) hw.2
  have htotal : replyTotal f (rx.octets ++ [c.octet]) = some (rx.count + 1) := by
    rw [replyTotal_eq, hw.1, hs.1, List.length_append, List.length_singleton]
  rw [receive_cons, hlate, hstop, if_neg Bool.false_ne_true, if_neg (by decide),
    if_neg (by simpa [hs.1, and_assoc] using hlen), if_pos htotal]

/-! ### The row (R4, R14) -/

theorem beginsAt_startOf {x : Port} {tb now e : Nat} {c : RxChar} {l : List Nat}
    (h : BeginsAt x tb now g rx (c.gap :: l) e) : rx.startOf c = e ∧ (rx.edge = none → c.gap ≤ g) := by
  unfold BeginsAt at h
  unfold Rx.startOf
  cases he : rx.edge with
  | some d =>
    rw [he] at h
    exact ⟨h.1.symm, nofun⟩
  | none =>
    rw [he] at h
    obtain ⟨n, hn, rfl, hle, -⟩ := h
    obtain rfl := Option.some.inj hn
    exact ⟨rfl, fun _ => hle⟩

theorem replyEffect_ends {next : Option Nat} {o : Outcome} {n edge since : Nat} {recessive : Bool}
    (ha : s.edgesAgree p f.speed.tb rx chars next = true)
    (hr : receive f ((s.port p).config.gapLimit * f.speed.tb) chars rx = .ends o n edge recessive since) :
    s.replyEffect p f rx chars next = some (n, State.replyEnds p f o edge recessive since) := by
  unfold State.replyEffect
  dsimp only
  rw [ha, hr]
  rfl

theorem replyEffect_more {next : Option Nat} {rx' : Rx} (ha : s.edgesAgree p f.speed.tb rx chars next = true)
    (hr : receive f ((s.port p).config.gapLimit * f.speed.tb) chars rx = .more rx') (hne : chars ≠ [] ∨ next.isSome = true)
    (hn : nextEdgeOk ((s.port p).config.gapLimit * f.speed.tb) next rx' = true) :
    s.replyEffect p f rx chars next = some (receivedAt f.speed.tb next rx', State.received p f.speed.tb
      (next.any fun g => s.edgeTold p (rx'.lastEnd + g)) (s.port p).lf.candidate next rx') := by
  have hsome : (chars.isEmpty && next.isNone) = false := by
    cases hc : chars with
    | nil => cases hx : next with
      | none => simp [hc, hx] at hne
      | some n => rfl
    | cons c l => rfl
  unfold State.replyEffect
  dsimp only
  rw [ha, hr]
  dsimp only
  rw [hn, hsome]
  rfl

section row

variable {start : Nat} {next : Option Nat} {n : Nat} (hst : (s.port p).lf.state = .receiving)
  (hf : (s.port p).lf.flight = some { frame := f, start }) (hrx : (s.port p).lf.rx = some rx)
include hst hf hrx

theorem stationReply_next {act : State → State} (heff : s.replyEffect p f rx chars next = some (n, act))
    (hreach : (s.withPort p (s.port p).quieted).reach n = some s') :
    exec (.stationReply p chars next) s = .next (act s') := by
  change execStationReply p chars next s = _
  unfold execStationReply
  rw [hst, hf, hrx]
  dsimp only
  rw [heff]
  exact replyAt_next hreach

/-- A reply that fails its exchange. -/
theorem stationReply_fails {c : Cause} {edge since : Nat} {recessive : Bool}
    (ha : s.edgesAgree p f.speed.tb rx chars next = true)
    (hr : receive f ((s.port p).config.gapLimit * f.speed.tb) chars rx = .ends (.failed c) n edge recessive since)
    (hreach : (s.withPort p (s.port p).quieted).reach n = some s') :
    Completes (.stationReply p chars next) s fun t =>
      ExchangeFailed p f c s' t ∧ LineAfter p edge recessive since s' t :=
  ⟨_, stationReply_next hst hf hrx (replyEffect_ends ha hr) hreach, replyEnds_failed s' p f c edge recessive since⟩

/-- A whole and clean reply. -/
theorem stationReply_taken {covered : List Byte} {edge since : Nat} {recessive : Bool}
    (ha : s.edgesAgree p f.speed.tb rx chars next = true)
    (hr : receive f ((s.port p).config.gapLimit * f.speed.tb) chars rx = .ends (.ok covered) n edge recessive since)
    (hreach : (s.withPort p (s.port p).quieted).reach n = some s') :
    Completes (.stationReply p chars next) s fun t =>
      ReplyTaken p f covered s' t ∧ LineAfter p edge recessive since s' t :=
  ⟨_, stationReply_next hst hf hrx (replyEffect_ends ha hr) hreach, replyEnds_ok s' p f covered edge recessive since⟩

end row

/-! ### The judgement of a whole reply (R9, R15) -/

theorem toggles_iff (k : FrameKind) : k.toggles = true ↔ k = .svcWrite ∨ k = .svcRead := by
  cases k <;> decide

/-- The TOGGLE of a reply echoes that of its frame, where the kind has one (R9). -/
def Frame.echoed (f : Frame) (got : List Byte) : Prop :=
  f.kind = .svcWrite ∨ f.kind = .svcRead → (got.getD 0 0).getLsbD 2 = f.toggle

theorem echoed_iff (got : List Byte) :
    (f.kind.toggles && ((got.getD 0 0).getLsbD 2 != f.toggle)) = true ↔ ¬ f.echoed got := by
  unfold Frame.echoed
  rw [Bool.and_eq_true, toggles_iff, bne_iff_ne, Classical.not_imp]

/-- A whole reply is judged by its CRC, then by its TOGGLE. -/
theorem judgeReply_cases {got : List Byte} (hne : got ≠ []) :
    (got.getLast? ≠ some (crc got.dropLast) → judgeReply f (crc got.dropLast) got = .failed .crc) ∧
    (got.getLast? = some (crc got.dropLast) →
      (¬ f.echoed got → judgeReply f (crc got.dropLast) got = .failed .toggle) ∧
      (f.echoed got → judgeReply f (crc got.dropLast) got = .ok got.dropLast)) := by
  have hlast : ∀ a, got.getLast? = some a ↔ ¬ a ≠ got.getLastD 0 := fun a => by
    rw [Classical.not_not, List.getLastD_eq_getLast?, List.getLast?_eq_some_getLast hne, Option.getD_some, Option.some.injEq,
      eq_comm]
  have hdef : judgeReply f (crc got.dropLast) got = if crc got.dropLast ≠ got.getLastD 0 then .failed .crc
    else if (f.kind.toggles && ((got.getD 0 0).getLsbD 2 != f.toggle)) = true then .failed .toggle
    else .ok got.dropLast := rfl
  rw [hlast, hdef]
  refine ⟨fun h => if_pos (Classical.not_not.mp fun hc => h ((hlast _).mpr hc)), fun h => ⟨fun he => ?_, fun he => ?_⟩⟩
  · rw [if_neg h, if_pos ((echoed_iff got).mpr he)]
  · rw [if_neg h, if_neg (fun hn => (echoed_iff got).mp hn he)]

/-! ### The characters of one STATION_REPLY -/

section characters

variable {x : Port} {tb now e : Nat} {l : List Nat} (h : BeginsAt x tb now g rx (chars.map (·.gap) ++ l) e)
include h

theorem beginsAt_head {c : RxChar} (hc : chars.head? = some c) (hn : rx.edge = none) : c.gap ≤ g := by
  cases chars with
  | nil => cases hc
  | cons a m =>
    obtain rfl := Option.some.inj hc
    exact (beginsAt_startOf h).2 hn

theorem lastEnd_eq (hne : chars ≠ []) : (rx.through f chars).lastEnd = e + replySpan f.speed.tb chars := by
  cases chars with
  | nil => exact absurd rfl hne
  | cons a m => rw [through_lastEnd, (beginsAt_startOf h).1]

variable (hs : rx.Sound)
include hs

theorem through_eq (hne : chars ≠ []) : rx.through f chars =
    { edge := none, count := (rx.octets ++ chars.map (·.octet)).length, crc := crc (rx.octets ++ chars.map (·.octet))
      octets := rx.octets ++ chars.map (·.octet), lastEnd := e + replySpan f.speed.tb chars } := by
  obtain ⟨hcount, hcrc⟩ := through_sound (f := f) hs chars
  rw [through_octets] at hcount hcrc
  rw [← hcount, ← hcrc, ← through_octets (f := f), ← lastEnd_eq (f := f) h hne,
    ← through_edge (f := f) chars rx (.inl hne)]

variable (hclean : CleanCharacters g chars)
include hclean

/-- Clean characters that do not complete the reply are received. -/
theorem receive_begun (hb : f.begunWith (rx.octets ++ chars.map (·.octet))) (more : List RxChar) :
    receive f g (chars ++ more) rx = receive f g more (rx.through f chars) :=
  receive_through hs hclean.1 hclean.2 (fun _ hc hn => beginsAt_head h hc hn) hb more

/-- A whole reply is judged at the end of its last character. -/
theorem receive_reply (hne : chars ≠ []) (hw : f.wholeReply (rx.octets ++ chars.map (·.octet))) :
    let got := rx.octets ++ chars.map (·.octet)
    let ended := e + replySpan f.speed.tb chars
    receive f g chars rx = .ends (judgeReply f (crc got.dropLast) got) ended (ended - 10 * f.speed.tb) true
      (ended - tailRecessive (got.getLastD 0) * f.speed.tb) := by
  have hend := lastEnd_eq (f := f) h hne
  have hhead := fun c => beginsAt_head (c := c) h
  obtain ⟨m, c, rfl⟩ : ∃ m c, chars = m ++ [c] := ⟨_, _, (List.dropLast_append_getLast hne).symm⟩
  intro got ended
  obtain ⟨hstop, hgaps⟩ := hclean
  have hgot : got = (rx.octets ++ m.map (·.octet)) ++ [c.octet] := by simp [got]
  have hoct := through_octets (f := f) m rx
  have hsound := through_sound (f := f) hs m
  rw [through_append] at hend
  have hstart : (rx.through f m).startOf c = ended - 10 * f.speed.tb := Nat.eq_sub_of_add_eq hend
  have hlast : (rx.through f m).edge = none → c.gap ≤ g := by
    cases m with
    | nil => exact fun he => hhead c rfl he
    | cons a m => exact fun _ => hgaps c (by simp)
  replace hw : f.wholeReply ((rx.octets ++ m.map (·.octet)) ++ [c.octet]) := by rw [← hgot]; exact hw
  have hthrough : receive f g (m ++ [c]) rx = receive f g [c] (rx.through f m) := by
    refine receive_through hs (fun d hd => hstop d (List.mem_append_left _ hd)) (fun d hd => hgaps d ?_)
      (fun d hd => hhead d ?_) (begunWith_of_whole hw) [c]
    · cases m with
      | nil => cases hd
      | cons a m => exact List.mem_append_left _ hd
    · cases m with
      | nil => cases hd
      | cons a m => exact hd
  have hdrop : got.dropLast = rx.octets ++ m.map (·.octet) := by rw [hgot, List.dropLast_concat]
  have hgl : got.getLastD 0 = c.octet := by rw [hgot, List.getLastD_concat]
  rw [hthrough, receive_whole hsound (hstop c (by simp)) hlast (by rw [hoct]; exact hw), hoct, ← hgot, hsound.2, hoct, hdrop,
    hgl, ← hstart, show (rx.through f m).startOf c + 10 * f.speed.tb = ended from hend]

end characters

end Sys2Proof.Machine
end

section
/-! PROOFS. STATION_REPLY as a whole: a reply judged, a reply that a character ends, a reply in parts (R4, R14, R15). -/

namespace Sys2Proof.Machine

/- Each proof waits for the kernel; checked one after another, they need no more threads than the rest of the package. -/
set_option Elab.async false

variable {p : PortId} {s s' t : State} {r : Rx} {chars : List RxChar} {next : Option Nat} {f : Frame}
  {start edge : Nat}

section row

variable (hst : (s.port p).lf.state = .receiving) (hf : (s.port p).lf.flight = some { frame := f, start })
  (hrx : (s.port p).lf.rx = some r) (hs : r.Sound) (hclean : CleanCharacters ((s.port p).config.gapLimit * f.speed.tb) chars)
include hst hf hrx hs hclean

/-- A whole reply: the judgement of its CRC and TOGGLE, and what follows from it (R9, R15). -/
theorem stationReply_whole (hne : chars ≠ [])
    (hb : BeginsAt (s.port p) f.speed.tb s.time ((s.port p).config.gapLimit * f.speed.tb) r
      (chars.map (·.gap) ++ next.toList) edge)
    (hw : f.wholeReply (r.octets ++ chars.map (·.octet)))
    (hreach : (s.withPort p (s.port p).quieted).reach (edge + replySpan f.speed.tb chars) = some s') :
    let got := r.octets ++ chars.map (·.octet)
    let ended := edge + replySpan f.speed.tb chars
    let good := got.getLast? = some (crc got.dropLast)
    let line := LineAfter p (ended - 10 * f.speed.tb) true
      (ended - tailRecessive (got.getLastD 0) * f.speed.tb) s'
    (¬ good → Completes (.stationReply p chars next) s fun t => ExchangeFailed p f .crc s' t ∧ line t) ∧
    (good → ¬ f.echoed got →
      Completes (.stationReply p chars next) s fun t => ExchangeFailed p f .toggle s' t ∧ line t) ∧
    (good → f.echoed got →
      Completes (.stationReply p chars next) s fun t => ReplyTaken p f got.dropLast s' t ∧ line t) := by
  intro got ended good line
  have hagree := edgesAgree_of_beginsAt (tb := f.speed.tb) (halfTb_of_flight hf) hb
  have hrec : receive f ((s.port p).config.gapLimit * f.speed.tb) chars r =
      .ends (judgeReply f (crc got.dropLast) got) ended (ended - 10 * f.speed.tb) true
        (ended - tailRecessive (got.getLastD 0) * f.speed.tb) := receive_reply hb hs hclean hne hw
  obtain ⟨hbad, hgood⟩ := judgeReply_cases (f := f) (got := got) (by simp [got, hne])
  refine ⟨fun h => ?_, fun h he => ?_, fun h he => ?_⟩
  · rw [hbad h] at hrec
    exact stationReply_fails hst hf hrx hagree hrec hreach
  · rw [(hgood h).1 he] at hrec
    exact stationReply_fails hst hf hrx hagree hrec hreach
  · rw [(hgood h).2 he] at hrec
    exact stationReply_taken hst hf hrx hagree hrec hreach

/-- A character that ends a reply before it is whole: a dominant stop bit, or a LEN above S (R15). -/
theorem stationReply_broken (c : RxChar) (rest : List RxChar)
    (hbeg : f.begunWith (r.octets ++ chars.map (·.octet)))
    (hgap : chars ≠ [] → c.gap ≤ (s.port p).config.gapLimit * f.speed.tb)
    (hb : BeginsAt (s.port p) f.speed.tb s.time ((s.port p).config.gapLimit * f.speed.tb) r
      ((chars ++ c :: rest).map (·.gap) ++ next.toList) edge)
    (hreach : (s.withPort p (s.port p).quieted).reach
      (edge + replySpan f.speed.tb chars + (if chars = [] then 0 else c.gap) + 19 * f.speed.tb / 2) = some s') :
    let last := edge + replySpan f.speed.tb chars + if chars = [] then 0 else c.gap
    (c.stop = false → Completes (.stationReply p (chars ++ c :: rest) next) s fun t =>
      ExchangeFailed p f .framing s' t ∧ LineAfter p last false s'.time s' t) ∧
    (c.stop = true → f.kind.service = true → (r.octets ++ chars.map (·.octet)).length = 1 →
      f.seg < c.octet.toNat →
      Completes (.stationReply p (chars ++ c :: rest) next) s fun t =>
        ExchangeFailed p f .length s' t ∧
        LineAfter p last true (last + 10 * f.speed.tb - tailRecessive c.octet * f.speed.tb) s' t) := by
  intro last
  have hagree := edgesAgree_of_beginsAt (tb := f.speed.tb) (halfTb_of_flight hf) hb
  have htime : s'.time = last + 19 * f.speed.tb / 2 := by rw [(reach_eq hreach).1]
  have hbc : BeginsAt (s.port p) f.speed.tb s.time ((s.port p).config.gapLimit * f.speed.tb) r
      (chars.map (·.gap) ++ (c.gap :: rest.map (·.gap) ++ next.toList)) edge := by simpa using hb
  have hstart : (r.through f chars).startOf c = last ∧ ((r.through f chars).edge = none →
      c.gap ≤ (s.port p).config.gapLimit * f.speed.tb) := by
    by_cases hnil : chars = []
    · subst hnil
      obtain ⟨h, hg⟩ := beginsAt_startOf hbc
      exact ⟨h.trans (by simp [last, replySpan]), hg⟩
    · refine ⟨?_, fun _ => hgap hnil⟩
      have hend := lastEnd_eq (f := f) hbc hnil
      rw [Rx.startOf, through_edge chars r (.inl hnil), Option.getD_none, hend]
      change _ = edge + replySpan f.speed.tb chars + if chars = [] then 0 else c.gap
      rw [if_neg hnil]
  have hrec := receive_begun (f := f) hbc hs hclean hbeg (c :: rest)
  have hoct := through_octets (f := f) chars r
  have hcount := (through_sound (f := f) hs chars).1
  rw [hoct] at hcount
  obtain ⟨hstart, hfirst⟩ := hstart
  have hlate : ((r.through f chars).edge.isNone &&
      decide ((s.port p).config.gapLimit * f.speed.tb < c.gap)) = false := by
    cases he : (r.through f chars).edge with
    | some d => rfl
    | none => simpa using hfirst he
  rw [receive_cons, hlate, if_neg Bool.false_ne_true, hstart] at hrec
  refine ⟨fun h => ?_, fun h hk hl hseg => ?_⟩
  · rw [h, if_pos (by decide)] at hrec
    rw [htime]
    exact stationReply_fails hst hf hrx hagree hrec hreach
  · rw [h, if_neg (by decide), if_pos (by simp [hk, hcount, hl, hseg])] at hrec
    exact stationReply_fails hst hf hrx hagree hrec hreach

/-- Characters after which more is expected, with none under way: G runs from the last of them (R14). -/
theorem stationReply_gap (hbeg : f.begunWith (r.octets ++ chars.map (·.octet))) (hne : chars ≠ [])
    (hb : BeginsAt (s.port p) f.speed.tb s.time ((s.port p).config.gapLimit * f.speed.tb) r
      (chars.map (·.gap) ++ (none : Option Nat).toList) edge)
    (hreach : (s.withPort p (s.port p).quieted).reach (edge + replySpan f.speed.tb chars) = some s') :
    let x := s.port p
    let got := r.octets ++ chars.map (·.octet)
    let ended := edge + replySpan f.speed.tb chars
    Completes (.stationReply p chars none) s fun t =>
      LineAfter p (ended - 10 * f.speed.tb) true (ended - tailRecessive (got.getLastD 0) * f.speed.tb) s' t ∧
      t = s'.withPort p { x with
        rxd := (t.port p).rxd
        lf := { x.lf with
          timer := some (ended + x.config.gapLimit * f.speed.tb), candidate := x.lf.candidate.filter (ended ≤ ·)
          recessiveSince := (t.port p).lf.recessiveSince, dominantSince := (t.port p).lf.dominantSince
          rx := some { edge := none, count := got.length, crc := crc got, octets := got, lastEnd := ended } } } := by
  intro x got ended
  have hagree := edgesAgree_of_beginsAt (tb := f.speed.tb) (halfTb_of_flight hf) hb
  have hrec := receive_begun (f := f) hb hs hclean hbeg []
  rw [List.append_nil] at hrec
  have hthrough := through_eq (f := f) hb hs hne
  rw [hthrough] at hrec
  have heff := replyEffect_more (next := none) hagree hrec (.inl hne) rfl
  refine ⟨_, stationReply_next hst hf hrx heff hreach, ?_⟩
  have hp : s'.port p = x.quieted := quieted_reach_port hreach
  obtain ⟨l, rr, hline, hl, hafter⟩ := levelAfter_lined s' p (ended - 10 * f.speed.tb) true
    (ended - tailRecessive (got.getLastD 0) * f.speed.tb)
  unfold State.received
  dsimp only
  rw [hline, modPort_withPort]
  refine ⟨hafter _ (by rw [port_withPort]; rfl) (by rw [port_withPort]; rfl) (by rw [port_withPort]; rfl), ?_⟩
  rw [port_withPort, hp]
  rw [hp] at hl
  generalize l.recessiveSince = a, l.dominantSince = b at hl
  subst hl
  rfl

omit hst hrx in
/-- What has been received with the characters of a STATION_REPLY, more being expected. -/
theorem receive_parts {n : Nat} (hbeg : f.begunWith (r.octets ++ chars.map (·.octet)))
    (hnil : chars = [] → r.edge = none ∧ edge = r.lastEnd ∧
      (s.port p).EdgeOpen (f.speed.tb / 2) s.time (edge + n))
    (hb : chars ≠ [] → BeginsAt (s.port p) f.speed.tb s.time ((s.port p).config.gapLimit * f.speed.tb) r
      (chars.map (·.gap) ++ (some n).toList) edge) :
    let got := r.octets ++ chars.map (·.octet)
    s.edgesAgree p f.speed.tb r chars (some n) = true ∧
    receive f ((s.port p).config.gapLimit * f.speed.tb) chars r = .more
      { edge := none, count := got.length, crc := crc got, octets := got
        lastEnd := edge + replySpan f.speed.tb chars } := by
  intro got
  by_cases hne : chars = []
  · subst hne
    obtain ⟨hnone, hedge, hopen⟩ := hnil rfl
    obtain ⟨hcount, hcrc⟩ := hs
    have hgot : got = r.octets := List.append_nil _
    refine ⟨?_, ?_⟩
    · unfold State.edgesAgree
      rw [hnone]
      refine edgeAgrees_iff.mpr ?_
      rw [show (s.port p).lf.halfTb = _ from halfTb_of_flight hf, ← hedge]
      exact hopen
    · have hspan : edge + replySpan f.speed.tb [] = r.lastEnd := by simp [replySpan, hedge]
      rw [hgot, hspan, ← hcount, ← hcrc, ← hnone]
      rfl
  · refine ⟨edgesAgree_of_beginsAt (halfTb_of_flight hf) (hb hne), ?_⟩
    have hrec := receive_begun (f := f) (hb hne) hs hclean hbeg []
    rw [List.append_nil, through_eq (f := f) (hb hne) hs hne] at hrec
    exact hrec

/-- Characters after which the next is under way: its start edge, told before or not (R4, R14). -/
theorem stationReply_under_way {n : Nat} (hbeg : f.begunWith (r.octets ++ chars.map (·.octet)))
    (hn : n ≤ (s.port p).config.gapLimit * f.speed.tb)
    (hnil : chars = [] → r.edge = none ∧ edge = r.lastEnd ∧
      (s.port p).EdgeOpen (f.speed.tb / 2) s.time (edge + n))
    (hb : chars ≠ [] → BeginsAt (s.port p) f.speed.tb s.time ((s.port p).config.gapLimit * f.speed.tb) r
      (chars.map (·.gap) ++ (some n).toList) edge)
    (hreach : (s.withPort p (s.port p).quieted).reach
      (edge + replySpan f.speed.tb chars + n + f.speed.tb / 2) = some s') :
    let x := s.port p
    let got := r.octets ++ chars.map (·.octet)
    let ended := edge + replySpan f.speed.tb chars
    let told := x.EdgeTold (f.speed.tb / 2) s.time (ended + n)
    let line := fun y : Port => { y with lf := { y.lf with
      timer := none, candidate := none
      rx := some { edge := some (ended + n), count := got.length, crc := crc got, octets := got, lastEnd := ended } } }
    (told → exec (.stationReply p chars (some n)) s = .next (s'.withPort p (line x))) ∧
    (¬ told → exec (.stationReply p chars (some n)) s = .next (s'.withPort p (line { x with
      rxd := false, lf := { x.lf with recessiveSince := none, dominantSince := some (ended + n) } }))) := by
  intro x got ended told line
  obtain ⟨hagree, hrec⟩ := receive_parts hf hs hclean hbeg hnil hb
  have heff := replyEffect_more (next := some n) hagree hrec (.inr rfl) (by simpa [nextEdgeOk] using hn)
  have hexec := stationReply_next hst hf hrx heff hreach
  have hp : s'.port p = x.quieted := quieted_reach_port hreach
  have htold : s.edgeTold p (ended + n) = true ↔ told := by
    rw [edgeTold_iff, show (s.port p).lf.halfTb = _ from halfTb_of_flight hf]
  rw [hexec, Option.any_some]
  unfold State.received
  dsimp only
  refine ⟨fun h => ?_, fun h => ?_⟩
  · rw [show s.edgeTold p (edge + replySpan f.speed.tb chars + n) = true from htold.mpr h, lineIs_told,
      modLf_eq_withPort, hp]
    rfl
  · rw [show s.edgeTold p (edge + replySpan f.speed.tb chars + n) = false from
        Bool.eq_false_iff.mpr fun hn => h (htold.mp hn), lineIs_untold, modLf_withPort, hp]
    rfl

end row

/-- Settles O51, its clauses being the theorems above: a whole reply, a reply broken off, a reply in parts. -/
theorem aCyclicReplyFormsAnInputImage : Obligations.ACyclicReplyFormsAnInputImage := by
  intro p f start edge r chars next s x tb g hst hf hrx hcount hcrc hbeg hclean got quiet ended row gaps
  have hs : r.Sound := ⟨hcount, hcrc⟩
  refine ⟨fun s' hne hb hw hreach => stationReply_whole hst hf hrx hs hclean hne hb hw hreach, ?_, ?_, ?_⟩
  · intro c rest s' hbg hgap hb last hreach
    exact stationReply_broken hst hf hrx hs hclean c rest hbg hgap hb hreach
  · intro s' hbg hne hnext hb hreach
    subst hnext
    exact stationReply_gap hst hf hrx hs hclean hbg hne hb hreach
  · intro n s' hbg hnext hn hnil hb hreach
    subst hnext
    exact stationReply_under_way hst hf hrx hs hclean hbg hn hnil hb hreach

end Sys2Proof.Machine
end

section
/-! PROOFS. Requests that act at their port within their take (R127, R134, R135): PORT_CONFIG, PORT_ENABLE, PORT_QUERY,
PARAM_READ and PARAM_WRITE (R24, R26 to R28, R40). -/

namespace Sys2Proof.Machine

/- Each proof waits for the kernel; checked one after another, they need no more threads than the rest of the package. -/
set_option Elab.async false

variable {p : PortId} {s t : State} {u : Setup} {e : OrtEntry} {k : Byte} {r : ReqRecord}

/-! ### The take of a request that acts at once -/

/-- A valid request that is not late acts within its take where no other waits at its port. -/
theorem completes_of_take {i : Instr} {c : Option Status} {act : Nat → State → State} {post : State → Prop}
    (hi : exec i s = .next (s.take k r c (State.toPort k ⟨r, false⟩ act))) (hc : c = none) (hf : s.Fetched u e)
    (hx : (s.port (targetPort r)).inbox = []) (h : post (act e.id (s.routed u e k r))) : Completes i s post := by
  have hnow : State.toPort k ⟨r, false⟩ act e.id (s.routed u e k r) = act e.id (s.routed u e k r) :=
    atPort_now (s := s.routed u e k r) hx
  exact ⟨_, by rw [hi, hc, take_valid u e k r _ hf, hnow], h⟩

@[simp] theorem routed_port (s : State) (u : Setup) (e : OrtEntry) (k : Byte) (r : ReqRecord) (q : PortId) :
    (s.routed u e k r).port q = s.port q := rfl

/-- What an act at one port leaves of the whole part, its take before it. -/
theorem At.taken (h : At p (s.routed u e k r) t) : t.control = s.takenControl u ∧ OthersKept p s t :=
  ⟨h.control.trans (routed_control s u e k r), h.others⟩

/-- The entry of the take is handed over first, its port having changed before. -/
theorem routed_modPort_reported (hf : s.Fetched u e) (hn : s.TableSound e) (f : Port → Port) (st : Status) (x : Word) :
    Reported s (((s.routed u e k r).modPort p f).handOver e.id st x) e k r st x :=
  handOver_done (s := (s.routed u e k r).modPort p f) st x (routed_find s u e k r hf hn) (by simp)

/-- The entry of the take, moved on to another state of the table. -/
theorem routed_entryState (hf : s.Fetched u e) (hn : s.TableSound e) (f : Port → Port) {st : OrtState} :
    (((s.routed u e k r).modPort p f).setOrtState e.id st).entryState e.id = some st := by
  have h : ((s.routed u e k r).modPort p f).ortFind e.id = some { e.filled k r with st := .routed } :=
    routed_find s u e k r hf hn
  rw [State.entryState, ortFind_map (moved_id e.id st) (setOrtState_ort _ e.id st), h, Option.map_some,
    Option.map_some]
  simp [OrtEntry.moved, OrtEntry.filled]

theorem handOver_groupsKept (h : t.groups = s.groups) (id : Nat) (st : Status) (x : Word) :
    GroupsKept s (t.handOver id st x) := fun g => by rw [handOver_group, State.group_congr h]

/-! ### PORT_CONFIG (R24, R27) -/

theorem configurePort_taken (h : (s.port (targetPort r)).state = .disabled ∨ (s.port (targetPort r)).state = .idle)
    (id : Nat) : s.configurePort r id =
      (s.modPort (targetPort r) fun x => { x with config := portConfigOf r }).handOver id .ok 0 := by
  unfold State.configurePort
  exact if_pos (by simpa using h)

theorem configurePort_refused (h : ¬ ((s.port (targetPort r)).state = .disabled ∨ (s.port (targetPort r)).state = .idle))
    (id : Nat) : s.configurePort r id = s.handOver id .badPortState 0 := by
  unfold State.configurePort
  exact if_neg (by simpa using h)

/-- Settles O14. -/
theorem portConfigReplacesTheConfiguration : Obligations.PortConfigReplacesTheConfiguration := by
  intro r u e s hc hf hn hx
  refine completes_of_take rfl hc hf hx ?_
  obtain ⟨hcontrol, hothers⟩ := (configurePort_at r e.id (s.routed u e kindPortConfig r)).taken
  refine ⟨hcontrol, hothers, ?_⟩
  by_cases h : (s.port (targetPort r)).state = .disabled ∨ (s.port (targetPort r)).state = .idle
  · rw [configurePort_taken (s := s.routed u e kindPortConfig r) h e.id, if_pos h, handOver_port, State.port_modPort_self]
    exact ⟨handOver_groupsKept rfl _ _ _, routed_modPort_reported hf hn _ _ _, rfl⟩
  · rw [configurePort_refused (s := s.routed u e kindPortConfig r) h e.id, if_neg h]
    exact ⟨handOver_groupsKept rfl _ _ _, routed_reported s u e _ r _ _ hf hn, handOver_port _ _ _ _ _⟩

/-! ### PORT_ENABLE (R28) -/

/-- The Line Framer of a port just turned on, as the claims write it. -/
theorem stretch_reset (rxd : Bool) (now : Nat) : { Framer.reset.stretch rxd now with state := .free } =
    { Framer.reset with
      state := .free, recessiveSince := if rxd then some now else none, dominantSince := if rxd then none else some now } := by
  cases rxd <;> rfl

/-- Settles O15. -/
theorem portEnableTurnsThePortOn : Obligations.PortEnableTurnsThePortOn := by
  intro r u e s hc hf hn hx
  refine completes_of_take rfl hc hf hx ?_
  obtain ⟨hcontrol, hothers⟩ := (enablePort_at r e.id (s.routed u e kindPortEnable r)).taken
  refine ⟨hcontrol, hothers, ?_⟩
  have hreported : ∀ st, Reported s ((s.routed u e kindPortEnable r).handOver e.id st 0) e kindPortEnable r st 0 :=
    fun st => routed_reported s u e _ r st 0 hf hn
  unfold State.enablePort
  simp only [routed_port]
  split
  · rename_i hd
    refine ⟨handOver_groupsKept rfl _ _ _, ?_⟩
    rw [if_pos hd, handOver_port, State.port_modPort_self, stretch_reset]
    exact ⟨routed_modPort_reported hf hn _ _ _, rfl⟩
  · rename_i hd
    refine ⟨handOver_groupsKept rfl _ _ _, ?_⟩
    rw [if_neg (by simp [hd]), if_pos hd]
    exact ⟨handOver_port _ _ _ _ _, hreported _⟩
  all_goals
    rename_i hd
    refine ⟨handOver_groupsKept rfl _ _ _, ?_⟩
    rw [if_neg (by simp [hd]), if_neg (by simp [hd])]
    exact ⟨handOver_port _ _ _ _ _, hreported _⟩

/-! ### PORT_QUERY (R40) -/

/-- Settles O24. -/
theorem portQueryClaimsItsReport : Obligations.PortQueryClaimsItsReport := by
  intro r u e s hc hf hn hx
  refine completes_of_take rfl hc hf hx ?_
  obtain ⟨hcontrol, hothers⟩ := (queryPort_at r e.id (s.routed u e kindPortQuery r)).taken
  refine ⟨hcontrol, hothers, fun _ => rfl, rfl, routed_entryState hf hn _, ?_⟩
  unfold State.queryPort
  rw [State.port_setOrtState, State.port_modPort_self]
  rfl

/-! ### PARAM_READ and PARAM_WRITE (R24, R26) -/

theorem takesTransfers_iff (st : PortState) : st.takesTransfers = true ↔
    st = .bringup ∨ st = .ready ∨ st = .armed ∨ st = .cyclic ∨ st = .recovery := by
  cases st <;> simp [PortState.takesTransfers]

/-- Settles O22. -/
theorem transfersJoinTheQueue : Obligations.TransfersJoinTheQueue := by
  intro w r u e s hc hf hn hx
  have hexec : exec (paramRow w r false) s = .next (s.take (if w then kindParamWrite else kindParamRead) r (checkParam r)
      (State.toPort (if w then kindParamWrite else kindParamRead) ⟨r, false⟩ (State.queueTransfer w r))) := by
    cases w <;> rfl
  refine completes_of_take hexec hc hf hx ?_
  generalize (if w then kindParamWrite else kindParamRead) = k
  obtain ⟨hcontrol, hothers⟩ := (queueTransfer_at w r e.id (s.routed u e k r)).taken
  refine ⟨hcontrol, hothers, ?_⟩
  unfold State.queueTransfer
  simp only [routed_port, ← takesTransfers_iff, Bool.not_eq_true', ← Bool.not_eq_true, ite_not,
    Config.queueSize, ← Nat.not_lt]
  by_cases ht : (s.port (targetPort r)).state.takesTransfers = true
  · simp only [if_pos ht]
    by_cases hq : (s.port (targetPort r)).queue.length < 8
    · simp only [if_pos hq]
      refine ⟨fun _ => rfl, routed_entryState hf hn _, rfl, ?_⟩
      rw [State.port_setOrtState, State.port_modPort_self]
      rfl
    · simp only [if_neg hq]
      exact ⟨handOver_groupsKept rfl _ _ _, handOver_port _ _ _ _ _, routed_reported s u e k r _ _ hf hn⟩
  · simp only [if_neg ht]
    exact ⟨handOver_groupsKept rfl _ _ _, handOver_port _ _ _ _ _, routed_reported s u e k r _ _ hf hn⟩

end Sys2Proof.Machine
end

section
/-! PROOFS. The consecutive miss count of a port through the operations of its engines (R32). The idea: an operation leaves
state, configuration and count, or gives the port a link, or sets the count to 0; and only `State.miss` raises it, below the
limit. None but the part's own taking of arrivals changes what waits at the port (R135). -/

namespace Sys2Proof.Machine

/- Each proof waits for the kernel; checked one after another, they need no more threads than the rest of the package. -/
set_option Elab.async false

variable {p : PortId} {s t : State} {x y z : Port}

/-! ### What only the Transfer Engine does -/

section serves

variable (h : Serves p s t)
include h

theorem setOrtState_serves (id : Nat) (st : OrtState) : Serves p s (t.setOrtState id st) :=
  ⟨h.beside, setOrtState_lists h.lists id st⟩

theorem disown_serves (of : Access → Option PortId) (q : PortId) : Serves p s (t.disown of q) :=
  ⟨h.beside, disown_lists h.lists of q⟩

theorem deferActive_serves (e : Ending) : Serves p s (t.deferActive p e) := by
  unfold State.deferActive
  split
  · exact h
  · exact disown_serves (modPort_serves (modPort_serves h)) _ _

theorem returnActive_serves : Serves p s (t.returnActive p) := by
  unfold State.returnActive
  split
  · exact h
  · exact disown_serves (setOrtState_serves (modPort_serves h) _ _) _ _

theorem endTransfer_serves (st : Status) (r : Word) : Serves p s (t.endTransfer p st r) :=
  ite_serves (deferActive_serves h _) (endActive_serves h _ _)

theorem stopActive_serves (b i : Bool) : Serves p s (t.stopActive p b i) := by
  unfold State.stopActive
  dsimp only
  split
  · exact ite_serves (ite_serves (deferActive_serves h _) (endAbandoned_serves (disown_serves h _ _)))
      (endTransfer_serves h _ _)
  · refine ite_serves (endTransfer_serves h _ _) (ite_serves (deferActive_serves ?_ _) (returnActive_serves h))
    cases (t.port p).te.transfer with
    | none => exact h
    | some a => exact setOrtState_serves h a.ort .queued

theorem activate_serves (b : Transfer) : Serves p s (t.activate p b) :=
  have h₁ := setOrtState_serves (modTe_serves h _) b.ort .active
  ite_serves (endActive_serves h₁ _ _) (ite_serves (claimFetch_serves h₁ b) (modTe_serves h₁ _))

theorem activateHead_serves : Serves p s (t.activateHead p) := by
  unfold State.activateHead
  split
  · exact activate_serves h _
  · exact h

theorem fetchEnded_serves (d : Option ReadData) : Serves p s (t.fetchEnded p d) := by
  unfold State.fetchEnded
  dsimp only
  split
  · exact h
  · refine ite_serves (ite_serves (abandonNow_serves h) (endAbandoned_serves h)) ?_
    split
    · exact abandonFor_serves h _
    · exact modTe_serves h _

theorem storeEnded_serves (ok : Bool) : Serves p s (t.storeEnded p ok) := by
  unfold State.storeEnded
  dsimp only
  split
  · exact ite_serves (abandonNow_serves h) (ite_serves (abandonFor_serves h _)
      (ite_serves (endActive_serves (modTe_serves h _) _ _) (modTe_serves (modTe_serves h _) _)))
  · exact h

theorem abortActive_serves : Serves p s (t.abortActive p) :=
  have h₁ : Serves p s (t.modTe p fun te => { te with cause := some .aborted }) := modTe_serves h _
  ite_serves h (ite_serves h₁ (ite_serves (abandonNow_serves h₁) (endAbandoned_serves h₁)))

theorem abortTransfer_serves (id : Nat) : Serves p s (t.abortTransfer p id) :=
  ite_serves (abortActive_serves h) (ite_serves (handOver_serves (modPort_serves h) _ _ _) h)

end serves

/-! ### The relation every operation keeps -/

/-- The miss count is below the limit, and 0 without a link (R32). -/
def Port.MissesSound (x : Port) : Prop :=
  x.counters.misses < x.config.missLimit ∧ (x.state.hasLink = false → x.counters.misses = 0)

/-- From `x` to `y` a port kept what waits at it, and a sound miss count stayed sound. -/
structure Port.MissesKept (x y : Port) : Prop where
  inbox : y.inbox = x.inbox
  sound : x.MissesSound → y.MissesSound

theorem Port.MissesKept.refl (x : Port) : x.MissesKept x := ⟨rfl, id⟩

theorem Port.MissesKept.trans (h : x.MissesKept y) (k : y.MissesKept z) : x.MissesKept z :=
  ⟨k.inbox.trans h.inbox, fun hx => k.sound (h.sound hx)⟩

section rules

variable (h : x.MissesKept y)
include h

/-- State, limit and count stay. -/
theorem Port.MissesKept.same (hs : z.state = y.state := by rfl) (hc : z.config = y.config := by rfl)
    (hm : z.counters.misses = y.counters.misses := by rfl) (hi : z.inbox = y.inbox := by rfl) : x.MissesKept z :=
  ⟨hi.trans h.inbox, fun hx => by simpa only [Port.MissesSound, hs, hc, hm] using h.sound hx⟩

/-- The port has a link; limit and count stay. -/
theorem Port.MissesKept.linked (hs : z.state.hasLink = true := by rfl) (hc : z.config = y.config := by rfl)
    (hm : z.counters.misses = y.counters.misses := by rfl) (hi : z.inbox = y.inbox := by rfl) : x.MissesKept z :=
  ⟨hi.trans h.inbox, fun hx => ⟨by rw [hm, hc]; exact (h.sound hx).1, fun hn => by simp [hs] at hn⟩⟩

/-- The count is 0; the limit stays. -/
theorem Port.MissesKept.cleared (hm : z.counters.misses = 0 := by rfl) (hc : z.config = y.config := by rfl)
    (hi : z.inbox = y.inbox := by rfl) : x.MissesKept z :=
  ⟨hi.trans h.inbox, fun hx => ⟨by rw [hm, hc]; exact Nat.zero_lt_of_lt (h.sound hx).1, fun _ => hm⟩⟩

end rules

theorem ite_misses {c : Prop} [Decidable c] {a b : State} (ha : x.MissesKept (a.port p)) (hb : x.MissesKept (b.port p)) :
    x.MissesKept ((if c then a else b).port p) := by
  split
  · exact ha
  · exact hb

/-- What only the Transfer Engine has changed. -/
theorem Serves.misses (h : Serves p s t) (hs : x.MissesKept (s.port p)) : x.MissesKept (t.port p) := by
  obtain ⟨hst, -, -, -, -, hconfig, hcounters⟩ := h.kept
  exact hs.same hst hconfig (by rw [hcounters]) (congrArg Port.inbox h.beside :)

section chain

variable (h : x.MissesKept (t.port p))
include h

/-! ### Updates -/

theorem modPort_misses {f : Port → Port} (hs : ∀ x, (f x).state = x.state := by intro; rfl)
    (hc : ∀ x, (f x).config = x.config := by intro; rfl)
    (hm : ∀ x, (f x).counters.misses = x.counters.misses := by intro; rfl)
    (hi : ∀ x, (f x).inbox = x.inbox := by intro; rfl) : x.MissesKept ((t.modPort p f).port p) := by
  rw [State.port_modPort_self]
  exact h.same (hs _) (hc _) (hm _) (hi _)

/-- An update that sets the count to 0. -/
theorem modPort_misses_of_cleared {f : Port → Port} (hm : ∀ x, (f x).counters.misses = 0 := by intro; rfl)
    (hc : ∀ x, (f x).config = x.config := by intro; rfl) (hi : ∀ x, (f x).inbox = x.inbox := by intro; rfl) :
    x.MissesKept ((t.modPort p f).port p) := by
  rw [State.port_modPort_self]
  exact h.cleared (hm _) (hc _) (hi _)

theorem modLf_misses (f : Framer → Framer) : x.MissesKept ((t.modLf p f).port p) := modPort_misses h

theorem modSeq_misses (f : Sequencer → Sequencer) : x.MissesKept ((t.modSeq p f).port p) := modPort_misses h

theorem modCyc_misses (f : CycleEngine → CycleEngine) : x.MissesKept ((t.modCyc p f).port p) := modPort_misses h

theorem modTe_misses (f : TransferEngine → TransferEngine) : x.MissesKept ((t.modTe p f).port p) := modPort_misses h

theorem modCounters_misses {f : Counters → Counters} (hf : ∀ k, (f k).misses = k.misses := by intro; rfl) :
    x.MissesKept ((t.modCounters p f).port p) := modPort_misses h (hm := fun _ => hf _)

theorem handOver_misses (id : Nat) (st : Status) (r : Word) : x.MissesKept ((t.handOver id st r).port p) := by
  rwa [handOver_port]

theorem post_misses (q : PortId) (k : EventKind) (d : Word) : x.MissesKept ((t.post q k d).port p) := by
  rwa [post_port]

theorem setOrtState_misses (id : Nat) (st : OrtState) : x.MissesKept ((t.setOrtState id st).port p) := h

theorem foldl_misses {α : Type} {f : State → α → State} (hf : ∀ u a, (f u a).port p = u.port p) (l : List α) :
    x.MissesKept ((l.foldl f t).port p) := by
  have hl : ∀ u : State, (l.foldl f u).port p = u.port p := by
    induction l with
    | nil => exact fun _ => rfl
    | cons a l ih => exact fun u => (ih _).trans (hf u a)
  rwa [hl]

/-! ### The operations the engines of a port share -/

theorem leave_misses : x.MissesKept ((t.leave p).port p) := by
  rw [leave_port]
  exact h.same

theorem discardSample_misses : x.MissesKept ((t.discardSample p).port p) := by
  rw [discardSample_port]
  exact h.same

theorem toReady_misses : x.MissesKept ((t.toReady p).port p) := by
  rw [toReady_port]
  exact h.linked

theorem stopSequence_misses : x.MissesKept ((t.stopSequence p).port p) := modSeq_misses h _

theorem endSlot_misses (of : ControlKind → Status) (r : Word) : x.MissesKept ((t.endSlot p of r).port p) := by
  rw [endSlot_port]
  exact h.same

theorem endActive_misses (st : Status) (r : Word) : x.MissesKept ((t.endActive p st r).port p) :=
  (endActive_serves (.refl p t) st r).misses h

theorem endAbandoned_misses : x.MissesKept ((t.endAbandoned p).port p) := (endAbandoned_serves (.refl p t)).misses h

theorem stopActive_misses (b i : Bool) : x.MissesKept ((t.stopActive p b i).port p) :=
  (stopActive_serves (.refl p t) b i).misses h

theorem handQueue_misses (st : Status) : x.MissesKept ((t.handQueue p st).port p) := by
  rw [handQueue_port]
  exact h.same

theorem accessEnded_misses : x.MissesKept ((t.accessEnded p).port p) :=
  foldl_misses (modPort_misses ((handEnded_serves (.refl p t) false).misses h)) (fun _ _ => handOver_port _ _ _ _ _) _

theorem formerEnded_misses : x.MissesKept ((t.formerEnded p).port p) := accessEnded_misses (modPort_misses h)

theorem goodExchange_misses : x.MissesKept ((t.goodExchange p).port p) :=
  ite_misses (modPort_misses_of_cleared h) h

theorem attend_misses (a : Bool) (d : Word) : x.MissesKept ((t.attend p a d).port p) := by
  rw [attend_port]
  exact h.same

theorem linkEnd_misses (c : Cause) : x.MissesKept ((t.linkEnd p c).port p) := by
  obtain ⟨te, xclaims, queue, hp⟩ := linkEnd_port_kept t p c
  rw [hp]
  cases (t.port p).config.autoRecovery <;> exact h.cleared

/-- The one operation that raises the count, below the limit (R32). -/
theorem miss_misses (c : Cause) : x.MissesKept ((t.miss p c).port p) := by
  unfold State.miss
  split
  · rename_i hl
    split
    · exact linkEnd_misses h c
    · rename_i hm
      rw [State.port_modCounters_self]
      exact h.trans ⟨rfl, fun _ => ⟨Nat.not_le.mp hm, fun hn => by simp [hl] at hn⟩⟩
  · exact h

/-! ### The end of a port's service (R29, R37) -/

theorem endRequests_misses (st : Status) : x.MissesKept ((t.endRequests p st).port p) := by
  rw [endRequests_port]
  exact h.same

theorem enterFault_misses (c : FaultCause) : x.MissesKept ((t.enterFault p c).port p) :=
  ite_misses h (modPort_misses_of_cleared (stopSequence_misses (endRequests_misses (leave_misses (post_misses h _ _ _)) _)))

/-! ### The Bring-up Sequencer -/

theorem handToLine_misses (v : Handed) : x.MissesKept ((t.handToLine p v).port p) := modLf_misses h _

theorem handIdentify_misses : x.MissesKept ((t.handIdentify p).port p) := modSeq_misses (handToLine_misses h _) _

theorem beginAttempt_misses : x.MissesKept ((t.beginAttempt p).port p) := handToLine_misses (modSeq_misses h _) _

theorem idleWithoutLink_misses : x.MissesKept ((t.idleWithoutLink p).port p) := by
  rw [idleWithoutLink_port]
  exact h.cleared

theorem abortSequence_misses : x.MissesKept ((t.abortSequence p).port p) :=
  handQueue_misses (endSlot_misses (idleWithoutLink_misses h) _ _) _

theorem failSequence_misses (n : Nat) : x.MissesKept ((t.failSequence p n).port p) := by
  unfold State.failSequence
  split
  · exact handQueue_misses (endSlot_misses (idleWithoutLink_misses h) _ _) _
  · exact handQueue_misses (idleWithoutLink_misses (modPort_misses (leave_misses (post_misses h _ _ _)))) _

theorem linkMade_misses (l : Link) (st : PortState) : x.MissesKept ((t.linkMade p l st).port p) := by
  rw [linkMade_eq, port_withPort]
  exact h.cleared

theorem succeedSequence_misses (d : Descriptor) : x.MissesKept ((t.succeedSequence p d).port p) := by
  unfold State.succeedSequence
  dsimp only
  split
  · exact endSlot_misses (linkMade_misses h _ _) _ _
  · exact ite_misses (modPort_misses (post_misses (linkMade_misses h _ _) _ _ _))
      (ite_misses (modPort_misses (leave_misses (post_misses (linkMade_misses h _ _) _ _ _)))
        (post_misses (linkMade_misses h _ _) _ _ _))

theorem identifyOutcome_misses (o : Outcome) : x.MissesKept ((t.identifyOutcome p o).port p) := by
  refine ite_misses h (ite_misses (abortSequence_misses h) ?_)
  split
  · dsimp only
    split
    · exact failSequence_misses h _
    · exact succeedSequence_misses h _
  · exact ite_misses (handIdentify_misses (modSeq_misses h _)) (ite_misses (modSeq_misses h _) (failSequence_misses h _))

theorem abortBringUp_misses : x.MissesKept ((t.abortBringUp p).port p) := by
  unfold State.abortBringUp
  dsimp only
  split
  · exact abortSequence_misses h
  · exact ite_misses (abortSequence_misses h) (modSeq_misses h _)
  · exact modSeq_misses h _
  · exact modSeq_misses h _
  · exact h

/-! ### The Cycle Engine -/

theorem beginSample_misses : x.MissesKept ((t.beginSample p).port p) := modCyc_misses (discardSample_misses h) _

theorem countJudgement_misses (j : Option StaleCause) : x.MissesKept ((t.countJudgement p j).port p) := by
  rw [countJudgement_port]
  exact h.same (hm := by dsimp only; split <;> rfl)

theorem cycleEnds_misses : x.MissesKept ((t.cycleEnds p).port p) :=
  ite_misses (by rw [finishStop_port]; exact h.linked) h

theorem runCycle_misses (n : Word) : x.MissesKept ((t.runCycle p n).port p) := by
  have hj : x.MissesKept ((t.judge p).port p) :=
    discardSample_misses (ite_misses (modCyc_misses (countJudgement_misses h _) _) (countJudgement_misses h _))
  rw [runCycle_eq]
  split
  · exact modCyc_misses (handToLine_misses hj _) _
  · exact cycleEnds_misses hj

theorem slip_misses : x.MissesKept ((t.slip p).port p) :=
  cycleEnds_misses (post_misses (modCounters_misses (discardSample_misses h)) _ _ _)

theorem cycleAtStart_misses (n : Word) : x.MissesKept ((t.cycleAtStart p n).port p) :=
  ite_misses (runCycle_misses h n) (ite_misses (modCyc_misses h _) (slip_misses h))

theorem imageFaultReady_misses : x.MissesKept ((t.imageFaultReady p).port p) := by
  rw [imageFaultReady_port]
  exact h.linked

theorem imageFault_misses (a : Word) : x.MissesKept ((t.imageFault p a).port p) := by
  have h₁ : x.MissesKept (((t.post p .imageFault a).emptyImageList p).port p) := by
    rw [State.emptyImageList, State.port_unwantSample]
    exact modCyc_misses (post_misses h _ _ _) _
  unfold State.imageFault
  dsimp only
  split
  · exact imageFaultReady_misses h₁
  · exact ite_misses (imageFaultReady_misses h₁) (modCyc_misses h₁ _)
  · exact modPort_misses (leave_misses h₁)
  all_goals exact h₁

theorem afterCycle_misses : x.MissesKept ((t.afterCycle p).port p) :=
  ite_misses (imageFaultReady_misses h) (cycleEnds_misses h)

theorem cycleOutcome_misses (f : Frame) (o : Outcome) : x.MissesKept ((t.cycleOutcome p f o).port p) := by
  have h₁ : x.MissesKept ((t.modCyc p fun c => { c with underWay := none }).port p) := modCyc_misses h _
  unfold State.cycleOutcome
  dsimp only
  split
  · have h₂ := attend_misses h₁
    exact afterCycle_misses (goodExchange_misses (ite_misses (modCyc_misses (h₂ _ _) _) (h₂ _ _)))
  · exact ite_misses (miss_misses h₁ _) (afterCycle_misses (miss_misses h₁ _))

/-! ### The Transfer Engine -/

theorem sendSegment_misses (g : Segment) : x.MissesKept ((t.sendSegment p g).port p) :=
  modTe_misses (handToLine_misses h _) _

theorem segmentOutcome_misses (o : Outcome) : x.MissesKept ((t.segmentOutcome p o).port p) := by
  unfold State.segmentOutcome
  split
  · split
    · have h₁ := attend_misses (goodExchange_misses h)
      exact ite_misses ((segmentReplyAbandoned_serves (.refl p _) _ _).misses (h₁ _ _))
        ((segmentReply_serves (.refl p _) _ _ _).misses (h₁ _ _))
    · exact ite_misses (miss_misses h _) ((segmentFailed_serves (.refl p _)).misses (miss_misses h _))
  · exact h

theorem abandonOutcome_misses (o : Outcome) : x.MissesKept ((t.abandonOutcome p o).port p) := by
  unfold State.abandonOutcome
  split
  · exact endAbandoned_misses (goodExchange_misses h)
  · exact ite_misses (miss_misses h _) (endAbandoned_misses (miss_misses h _))

theorem transferOutcome_misses (f : Frame) (o : Outcome) : x.MissesKept ((t.transferOutcome p f o).port p) := by
  unfold State.transferOutcome
  split
  · exact segmentOutcome_misses h o
  · exact abandonOutcome_misses h o
  · exact (handEnded_serves (.refl p t) true).misses h
  · exact h

/-! ### The line -/

theorem deliver_misses (f : Frame) (o : Outcome) : x.MissesKept ((t.deliver p f o).port p) := by
  have h₁ : x.MissesKept ((match o with
      | .failed c => t.countFailure p c
      | .ok _ => t).port p) := by
    split
    · exact modCounters_misses h
    · exact h
  unfold State.deliver
  dsimp only
  split
  · exact identifyOutcome_misses h₁ o
  · exact cycleOutcome_misses h₁ f o
  · exact transferOutcome_misses h₁ f o

theorem endExchange_misses (f : Frame) (o : Outcome) (n : Nat) : x.MissesKept ((t.endExchange p f o n).port p) :=
  deliver_misses (modLf_misses h _) f o

theorem startOnLine_misses : x.MissesKept ((t.startOnLine p).port p) := by
  have h₁ : x.MissesKept ((t.assertTxen p).port p) := modPort_misses h
  unfold State.startOnLine
  split
  · exact h
  · exact ite_misses (modCounters_misses (modLf_misses h₁ _)) (modLf_misses h₁ _)
  · exact modLf_misses h₁ _

theorem guardOver_misses : x.MissesKept ((t.guardOver p).port p) := by
  have h₁ : x.MissesKept ((t.modLf p fun x => { x with
      state := if x.held.isSome then .waiting else .free, waitSince := t.time, timer := none, flight := none }).port p) :=
    modLf_misses h _
  unfold State.guardOver
  dsimp only
  refine ite_misses h₁ ?_
  split
  · have h₂ := runCycle_misses (modCyc_misses h₁ fun c => { c with startWait := none })
    exact ite_misses (abortSequence_misses (h₂ _)) (h₂ _)
  · exact ite_misses (abortSequence_misses h₁) h₁

theorem pulseOver_misses : x.MissesKept ((t.pulseOver p).port p) :=
  ite_misses (ite_misses (abortSequence_misses (modLf_misses h _)) (handIdentify_misses (modLf_misses h _)))
    (modLf_misses h _)

theorem frameSent_misses : x.MissesKept ((t.frameSent p).port p) := by
  unfold State.frameSent
  split
  · exact h
  · exact modPort_misses (modPort_misses h)

theorem lineIs_misses (told b : Bool) (n : Nat) : x.MissesKept ((t.lineIs p told b n).port p) :=
  ite_misses h (modPort_misses h)

theorem received_misses (tb : Nat) (told : Bool) (c next : Option Nat) (rx : Rx) :
    x.MissesKept ((t.received p tb told c next rx).port p) := by
  unfold State.received
  split
  · exact modLf_misses (lineIs_misses h _ _ _) _
  · exact modPort_misses (lineIs_misses h _ _ _)

theorem replyEnds_misses (f : Frame) (o : Outcome) (n : Nat) (b : Bool) (m : Nat) :
    x.MissesKept ((t.replyEnds p f o n b m).port p) := endExchange_misses (lineIs_misses h _ _ _) _ _ _

/-! ### Sampling, starts, hand-overs, reports -/

theorem sampleNow_misses : x.MissesKept ((t.sampleNow p).port p) :=
  ite_misses (beginSample_misses (modPort_misses h)) (modPort_misses h)

/-- A start instant in ARMED takes the port to CYCLIC, which has a link as well (R82). -/
theorem actOnStart_misses (n : Word) : x.MissesKept ((t.actOnStart p n).port p) := by
  unfold State.actOnStart
  dsimp only
  split
  · refine cycleAtStart_misses (endSlot_misses ?_ _ _) _
    rw [State.port_setPortState_self]
    exact h.linked
  · exact ite_misses h (cycleAtStart_misses h n)
  all_goals exact h

theorem setNext_misses (n : Option Word) : x.MissesKept ((t.setNext p n).port p) := modPort_misses h

theorem startNow_misses : x.MissesKept ((t.startNow p).port p) := by
  unfold State.startNow
  split
  · exact actOnStart_misses (setNext_misses h _) _
  · exact h

theorem handSegment_misses : x.MissesKept ((t.handSegment p).port p) := by
  unfold State.handSegment
  split
  · exact h
  · split
    · exact sendSegment_misses h _
    · exact endActive_misses h _ _
    · exact h

theorem handAbandon_misses : x.MissesKept ((t.handAbandon p).port p) := by
  unfold State.handAbandon
  split
  · exact modTe_misses (handToLine_misses h _) _
  · exact endAbandoned_misses h
  · exact h

theorem reportEnded_misses (id : Nat) (ok : Bool) : x.MissesKept ((t.reportEnded p id ok).port p) := by
  have h₁ := modPort_misses (f := fun x => { x with queries := x.queries.filter fun q => q.ort ≠ id }) h
  unfold State.reportEnded
  split
  · exact h
  · exact accessEnded_misses (ite_misses (handOver_misses h₁ _ _ _) (handOver_misses h₁ _ _ _))

/-! ### Requests at the port -/

theorem enablePort_misses (r : ReqRecord) (id : Nat) (hp : targetPort r = p) : x.MissesKept ((t.enablePort r id).port p) := by
  subst hp
  unfold State.enablePort
  dsimp only
  split
  · rename_i hd
    refine handOver_misses ?_ _ _ _
    rw [State.port_modPort_self]
    exact h.trans ⟨rfl, fun hx => ⟨hx.1, fun _ => hx.2 (by rw [hd]; rfl)⟩⟩
  all_goals exact handOver_misses h _ _ _

theorem disablePort_misses (r : ReqRecord) (id : Nat) (hp : targetPort r = p) :
    x.MissesKept ((t.disablePort r id).port p) := by
  subst hp
  have h₁ := modPort_misses_of_cleared (f := Port.disabled)
    (stopSequence_misses (endRequests_misses (leave_misses h) .portDisabled))
  unfold State.disablePort
  exact ite_misses (handOver_misses h₁ _ _ _) (setOrtState_misses (modPort_misses h₁) _ _)

theorem bringUpPort_misses (r : ReqRecord) (id : Nat) (hp : targetPort r = p) :
    x.MissesKept ((t.bringUpPort r id).port p) := by
  subst hp
  have h₁ : x.MissesKept (((t.modPort (targetPort r) fun x => { x with
      slot := some (.bringUp, id), state := .bringup,
      counters := { x.counters with misses := 0 } }).setOrtState id .active).port (targetPort r)) :=
    setOrtState_misses (modPort_misses_of_cleared h) _ _
  exact ite_misses (ite_misses (handOver_misses h _ _ _) (modSeq_misses (ite_misses (stopActive_misses h₁ _ _) h₁) _))
    (handOver_misses h _ _ _)

theorem arm_misses (id : Nat) (k : Sched) : x.MissesKept ((t.arm p id k).port p) := by
  unfold State.arm
  rw [State.port_setOrtState, State.port_modPort_self]
  exact h.linked

theorem startCycling_misses (r : ReqRecord) (id : Nat) (hp : targetPort r = p) :
    x.MissesKept ((t.startCycling r id).port p) := by
  subst hp
  unfold State.startCycling
  dsimp only
  split
  · refine ite_misses (handOver_misses h _ _ _) ?_
    split
    · split
      · refine handOver_misses ?_ _ _ _
        exact h
      · refine arm_misses ?_ _ _
        exact h
    · split
      · exact handOver_misses h _ _ _
      · exact arm_misses h _ _
  · exact handOver_misses h _ _ _

theorem stopCycling_misses (r : ReqRecord) (id : Nat) (hp : targetPort r = p) :
    x.MissesKept ((t.stopCycling r id).port p) := by
  subst hp
  unfold State.stopCycling
  dsimp only
  split
  · exact handOver_misses h _ _ _
  · exact handOver_misses (modPort_misses (leave_misses h)) _ _ _
  · exact handOver_misses (endSlot_misses (toReady_misses h) _ _) _ _ _
  · exact ite_misses (handOver_misses h _ _ _)
      (ite_misses (setOrtState_misses (modPort_misses h) _ _) (handOver_misses (toReady_misses h) _ _ _))
  all_goals exact handOver_misses h _ _ _

theorem queueTransfer_misses (w : Bool) (r : ReqRecord) (id : Nat) (hp : targetPort r = p) :
    x.MissesKept ((t.queueTransfer w r id).port p) := by
  subst hp
  exact ite_misses (handOver_misses h _ _ _) (ite_misses (handOver_misses h _ _ _) (setOrtState_misses (modPort_misses h) _ _))

theorem queryPort_misses (r : ReqRecord) (id : Nat) (hp : targetPort r = p) : x.MissesKept ((t.queryPort r id).port p) := by
  subst hp
  exact setOrtState_misses (modPort_misses h) _ _

theorem abortEntry_misses (e : OrtEntry) (hp : e.targetPort = p) : x.MissesKept ((t.abortEntry e).port p) := by
  subst hp
  exact ite_misses h (ite_misses ((abortTransfer_serves (.refl _ t) _).misses h) (ite_misses (abortBringUp_misses h)
    (ite_misses (endSlot_misses (toReady_misses h) _ _) h)))

theorem firstFire_misses (g : GroupId) (m : Member) (hp : m.port = p) : x.MissesKept ((t.firstFire g m).port p) := by
  subst hp
  exact ite_misses (setNext_misses h _) h

theorem refire_misses (g : GroupId) (m : Member) (hp : m.port = p) : x.MissesKept ((t.refire g m).port p) := by
  subst hp
  unfold State.refire
  dsimp only
  split
  · have h₁ := fun n => setNext_misses h (some n)
    refine ite_misses (post_misses (modCounters_misses ?_) _ _ _) ?_ <;>
      exact ite_misses h (ite_misses (cycleEnds_misses (discardSample_misses (h₁ _))) (h₁ _))
  · exact h

end chain

end Sys2Proof.Machine
end

section
/-! PROOFS. Every step keeps every miss count below its limit (R32) and what waits at a target validated (R127): each command
leaves the ports as `Port.MissesKept` says, or hands over a record that has passed its checks, or resets the part. -/

namespace Sys2Proof.Machine

/- Each proof waits for the kernel; checked one after another, they need no more threads than the rest of the package. -/
set_option Elab.async false

variable {p : PortId} {s t u : State}

/-! ### The whole part -/

/-- From `s` to `t` nothing was added to what waits at a target, and every miss count that was sound still is. -/
structure MissesSteady (s t : State) : Prop where
  unit : t.unitInbox = s.unitInbox
  ports : ∀ q, (s.port q).MissesKept (t.port q)

theorem MissesSteady.refl (s : State) : MissesSteady s s := ⟨rfl, fun _ => .refl _⟩

theorem MissesSteady.trans (h : MissesSteady s t) (k : MissesSteady t u) : MissesSteady s u :=
  ⟨k.unit.trans h.unit, fun q => (h.ports q).trans (k.ports q)⟩

/-- A step that touches one port, which the chain `k` carries from the port as it stood. -/
theorem At.steady (h : At p s t) (k : (s.port p).MissesKept (s.port p) → (s.port p).MissesKept (t.port p)) :
    MissesSteady s t := by
  refine ⟨congrArg Control.unitInbox h.control, fun q => ?_⟩
  by_cases hq : q = p
  · subst hq; exact k (.refl _)
  · rw [h.others q hq]; exact .refl _

theorem foldl_steady {α : Type} {f : State → α → State} (hf : ∀ u a, MissesSteady u (f u a)) (l : List α)
    (h : MissesSteady s t) : MissesSteady s (l.foldl f t) := by
  induction l generalizing t with
  | nil => exact h
  | cons a l ih => exact ih (h.trans (hf t a))

theorem ite_steady {c : Prop} [Decidable c] {a b : State} (ha : MissesSteady s a) (hb : MissesSteady s b) :
    MissesSteady s (if c then a else b) := by
  split
  · exact ha
  · exact hb

theorem handOver_steady (h : MissesSteady s t) (id : Nat) (st : Status) (r : Word) : MissesSteady s (t.handOver id st r) :=
  h.trans ⟨congrArg Control.unitInbox (handOver_control t id st r), fun q => by rw [handOver_port]; exact .refl _⟩

/-- Both invariants of this file: every miss count is sound, and every request that waits has passed its validation. -/
structure State.Sound (s : State) : Prop where
  misses : s.MissesBelow
  arrivals : s.ArrivalsValid

theorem MissesSteady.sound (h : MissesSteady s t) (hs : s.Sound) : t.Sound where
  misses q := (h.ports q).sound (hs.misses q)
  arrivals id k r hr := by
    refine hs.arrivals id k r (hr.imp (fun hu => by rwa [h.unit] at hu) fun ⟨q, hq⟩ => ⟨q, ?_⟩)
    rwa [(h.ports q).inbox] at hq

theorem State.Sound.congr (hs : s.Sound) (hp : t.ports = s.ports) (hu : t.unitInbox = s.unitInbox) : t.Sound :=
  MissesSteady.sound ⟨hu, fun q => by rw [State.port_congr hp q]; exact .refl _⟩ hs

/-- An operation that a sound state survives. -/
def KeepsSound (act : State → State) : Prop := ∀ u : State, u.Sound → (act u).Sound

theorem KeepsSound.of_steady {act : State → State} (h : ∀ u, MissesSteady u (act u)) : KeepsSound act :=
  fun u hu => (h u).sound hu

/-! ### Requests and aborts at their targets -/

theorem firstFailure_eq_none {l : List (Bool × Status)} : firstFailure l = none ↔ ∀ c ∈ l, c.1 = true := by
  simp [firstFailure, List.find?_eq_none]

/-- The configuration of a valid record has a miss limit (R133). -/
theorem missLimit_pos {r : ReqRecord} (h : checkPortConfig r = none) : 0 < (portConfigOf r).missLimit := by
  have hr : portConfigInRange r = true := firstFailure_eq_none.mp h (portConfigInRange r, .badParameter) (by simp)
  simp only [portConfigInRange, Bool.and_eq_true, and_assoc] at hr
  obtain ⟨-, -, -, hm, -⟩ := hr
  simp only [inRange, Bool.and_eq_true, decide_eq_true_eq] at hm
  exact hm.1

theorem configurePort_steady {r : ReqRecord} (h : checkPortConfig r = none) (id : Nat) (s : State) :
    MissesSteady s (s.configurePort r id) := by
  refine (configurePort_at r id s).steady fun hk => ?_
  by_cases hst : (s.port (targetPort r)).state = .disabled ∨ (s.port (targetPort r)).state = .idle
  · rw [configurePort_taken hst, handOver_port, State.port_modPort_self]
    have hl : (s.port (targetPort r)).state.hasLink = false := by
      rcases hst with hst | hst <;> rw [hst] <;> rfl
    refine ⟨rfl, fun hx => ⟨?_, fun _ => hx.2 hl⟩⟩
    change (s.port (targetPort r)).counters.misses < _
    rw [hx.2 hl]
    exact missLimit_pos h
  · rw [configurePort_refused hst, handOver_port]
    exact hk

theorem fire_steady (g : GroupId) (s : State) : MissesSteady s (s.fire g) := by
  unfold State.fire
  refine foldl_steady (fun u m => ?_) _ ((modGroup_at (At.refl 0 s) _ _).steady id)
  split
  · exact (refire_at g m u).steady fun h => refire_misses h g m rfl
  · exact (firstFire_at g m u).steady fun h => firstFire_misses h g m rfl

theorem syncFireGroups_steady (r : ReqRecord) (id : Nat) (s : State) : MissesSteady s (s.syncFireGroups r id) :=
  ite_steady (handOver_steady (.refl s) _ _ _)
    (handOver_steady (foldl_steady (fun u g => fire_steady g u) _ (.refl s)) _ _ _)

theorem configureGroup_steady (r : ReqRecord) (id : Nat) (s : State) : MissesSteady s (s.configureGroup r id) :=
  ite_steady (handOver_steady ((modGroup_at (At.refl 0 s) _ _).steady fun h => h) _ _ _) (handOver_steady (.refl s) _ _ _)

theorem abortArrives_steady (a id : Nat) (s : State) : MissesSteady s (s.abortArrives a id) := by
  unfold State.abortArrives
  split
  · rename_i e _
    exact ite_steady ((abortEntry_at e s).steady fun h => abortEntry_misses h e rfl) (.refl s)
  · exact .refl s

theorem requestArrives_steady {k : Byte} {r : ReqRecord} (hv : checkOf (rowOfKind k false r) = some none) (id : Nat)
    (s : State) : MissesSteady s (s.requestArrives k r id) := by
  unfold State.requestArrives
  split
  · subst k; exact configurePort_steady (Option.some.inj hv) id s
  · exact
      ite_steady ((enablePort_at r id s).steady fun h => enablePort_misses h r id rfl) <|
      ite_steady ((disablePort_at r id s).steady fun h => disablePort_misses h r id rfl) <|
      ite_steady ((bringUpPort_at r id s).steady fun h => bringUpPort_misses h r id rfl) <|
      ite_steady ((startCycling_at r id s).steady fun h => startCycling_misses h r id rfl) <|
      ite_steady ((stopCycling_at r id s).steady fun h => stopCycling_misses h r id rfl) <|
      ite_steady (configureGroup_steady r id s) <|
      ite_steady (syncFireGroups_steady r id s) <|
      ite_steady ((queueTransfer_at false r id s).steady fun h => queueTransfer_misses h false r id rfl) <|
      ite_steady ((queueTransfer_at true r id s).steady fun h => queueTransfer_misses h true r id rfl) <|
      ite_steady ((queryPort_at r id s).steady fun h => queryPort_misses h r id rfl) (.refl s)

theorem arrives_sound {a : Arrival} (hs : s.Sound)
    (ha : ∀ id k r, a = .request id k r → checkOf (rowOfKind k false r) = some none) : (s.arrives a).Sound := by
  cases a with
  | request id k r => exact (requestArrives_steady (ha id k r rfl) id s).sound hs
  | abort a id => exact (abortArrives_steady a id s).sound hs

/-! ### What waits at a target (R127, R134, R135) -/

/-- A port or the Schedule Unit takes the oldest of its arrivals. -/
theorem portArrival_keepsSound (p : PortId) : KeepsSound (State.portArrival p) := by
  intro u hu
  unfold State.portArrival
  split
  · rename_i a rest hx
    have hport : ∀ q, ((u.modPort p fun x => { x with inbox := rest }).port q).inbox ⊆ (u.port q).inbox := by
      intro q
      by_cases hq : q = p
      · subst hq
        rw [State.port_modPort_self, hx]
        exact List.subset_cons_self a rest
      · rw [State.port_modPort_ne u hq]
        exact List.Subset.refl _
    refine arrives_sound ⟨fun q => ?_, fun id k r hr => hu.arrivals id k r (hr.imp_right fun ⟨q, hq⟩ => ⟨q, hport q hq⟩)⟩
      fun id k r ha => hu.arrivals id k r (.inr ⟨p, by rw [hx, ha]; exact List.mem_cons_self⟩)
    by_cases hq : q = p
    · subst hq
      rw [State.port_modPort_self]
      exact hu.misses q
    · rw [State.port_modPort_ne u hq]
      exact hu.misses q
  · exact hu

theorem unitArrival_keepsSound : KeepsSound State.unitArrival := by
  intro u hu
  unfold State.unitArrival
  split
  · rename_i a rest hx
    refine arrives_sound ⟨hu.misses, fun id k r hr => hu.arrivals id k r (hr.imp_left fun h => ?_)⟩
      fun id k r ha => hu.arrivals id k r (.inl (by rw [hx, ha]; exact List.mem_cons_self))
    rw [hx]
    exact List.mem_cons_of_mem a h
  · exact hu

/-- An arrival may join those that wait at a port where it is no request, or a valid one. -/
theorem atPort_keepsSound {act : State → State} (h : KeepsSound act) (p : PortId) (late : Bool) {a : Arrival}
    (ha : ∀ id k r, a = .request id k r → checkOf (rowOfKind k false r) = some none) :
    KeepsSound (State.atPort p late a act) := by
  intro u hu
  unfold State.atPort
  split
  · refine ⟨fun q => ?_, fun id k r hr => ?_⟩
    · by_cases hq : q = p
      · subst hq
        rw [State.port_modPort_self]
        exact hu.misses q
      · rw [State.port_modPort_ne u hq]
        exact hu.misses q
    · obtain hr | ⟨q, hr⟩ := hr
      · exact hu.arrivals id k r (.inl hr)
      · by_cases hq : q = p
        · subst hq
          rw [State.port_modPort_self] at hr
          obtain hr | hr := List.mem_append.mp hr
          · exact hu.arrivals id k r (.inr ⟨q, hr⟩)
          · exact ha id k r (List.mem_singleton.mp hr).symm
        · rw [State.port_modPort_ne u hq] at hr
          exact hu.arrivals id k r (.inr ⟨q, hr⟩)
  · exact h u hu

theorem atUnit_keepsSound {act : State → State} (h : KeepsSound act) (late : Bool) {a : Arrival}
    (ha : ∀ id k r, a = .request id k r → checkOf (rowOfKind k false r) = some none) :
    KeepsSound (State.atUnit late a act) := by
  intro u hu
  unfold State.atUnit
  split
  · refine ⟨hu.misses, fun id k r hr => ?_⟩
    obtain hr | hr := hr
    · obtain hr | hr := List.mem_append.mp hr
      · exact hu.arrivals id k r (.inl hr)
      · exact ha id k r (List.mem_singleton.mp hr).symm
    · exact hu.arrivals id k r (.inr hr)
  · exact h u hu

theorem runAbort_keepsSound (r : ReqRecord) (late : Bool) (id : Nat) : KeepsSound (State.runAbort r late id) := by
  have hf : ∀ (l : List OrtEntry) (u : State), u.Sound →
      (l.foldl (fun s e => s.atPort e.targetPort late (.abort id e.id) (State.abortArrives id e.id)) u).Sound := by
    intro l
    induction l with
    | nil => exact fun u hu => hu
    | cons e l ih =>
      intro u hu
      exact ih _ (atPort_keepsSound (.of_steady (abortArrives_steady id e.id)) _ _ (fun _ _ _ h => by cases h) u hu)
  intro u hu
  unfold State.runAbort
  dsimp only
  split
  · exact (handOver_steady (.refl u) _ _ _).sound hu
  · exact hf _ _ (hu.congr rfl rfl)

/-! ### The take (R127) -/

/-- What a command answers from `s` is a sound state. -/
def AnswersSound (r : Result) : Prop := ∀ t, r = .next t → t.Sound

theorem AnswersSound.next (h : t.Sound) : AnswersSound (.next t) := by
  rintro _ ⟨⟩; exact h

theorem dropFetch_unitInbox (s : State) : s.dropFetch.unitInbox = s.unitInbox := by
  unfold State.dropFetch State.freeEntry
  split <;> rfl

theorem take_sound (hs : s.Sound) {k : Byte} {r : ReqRecord} {c : Option Status} {act : Nat → State → State}
    (h : c = none → ∀ id, KeepsSound (act id)) : AnswersSound (.next (s.take k r c act)) := by
  have ha : s.endFlight.advanceHead.Sound :=
    hs.congr (by unfold State.advanceHead; split <;> rfl) (by unfold State.advanceHead; split <;> rfl)
  refine .next ?_
  unfold State.take
  dsimp only
  split
  · split
    · split
      · exact hs.congr rfl rfl
      · split
        · exact (handOver_steady (.refl _) _ _ _).sound (ha.congr rfl rfl)
        · exact h rfl _ _ (ha.congr rfl rfl)
    · exact hs.congr (dropFetch_ports _) (dropFetch_unitInbox _)
  · exact hs

/-- The take of a request for a port: it waits, or acts, only where its record is valid. -/
theorem take_toPort_sound (hs : s.Sound) {k : Byte} {q : Routed} {c : Option Status} {act : Nat → State → State}
    (hk : checkOf (rowOfKind k false q.record) = some c) (h : c = none → ∀ id, KeepsSound (act id)) :
    AnswersSound (.next (s.take k q.record c (State.toPort k q act))) :=
  take_sound hs fun hc id => atPort_keepsSound (h hc id) _ _ fun _ _ _ ha => by
    cases ha; rw [hk, hc]

theorem take_toUnit_sound (hs : s.Sound) {k : Byte} {q : Routed} {c : Option Status} {act : Nat → State → State}
    (hk : checkOf (rowOfKind k false q.record) = some c) (h : ∀ id, KeepsSound (act id)) :
    AnswersSound (.next (s.take k q.record c (State.toUnit k q act))) :=
  take_sound hs fun hc id => atUnit_keepsSound (h id) _ fun _ _ _ ha => by
    cases ha; rw [hk, hc]

/-! ### Registers, halts and resets: what waits is kept, or dropped -/

theorem withdrawFetch_unitInbox (s : State) : s.withdrawFetch.unitInbox = s.unitInbox := by
  unfold State.withdrawFetch
  split
  · exact dropFetch_unitInbox _
  · rfl

theorem halt_unitInbox (s : State) (c : HaltCause) : (s.halt c).unitInbox = s.unitInbox :=
  withdrawFetch_unitInbox { s with part := .halted, haltCause := some c }

theorem halt_sound (hs : s.Sound) (c : HaltCause) : (s.halt c).Sound := hs.congr (halt_ports s c) (halt_unitInbox s c)

theorem ite_sound {c : Prop} [Decidable c] (ht : t.Sound) (hu : u.Sound) : (if c then t else u).Sound := by
  split
  · exact ht
  · exact hu

theorem writeReqTail_sound (hs : s.Sound) (v : Word) : (s.writeReqTail v).Sound :=
  have hs' : State.Sound { s with reqTailReg := v } := hs.congr rfl rfl
  ite_sound (ite_sound (halt_sound hs' _) (hs'.congr rfl rfl)) hs'

theorem writeCplHead_sound (hs : s.Sound) (v : Word) : (s.writeCplHead v).Sound :=
  have hs' : ({ s with cplHeadReg := v }.modCpl CompletionWriter.acknowledge).Sound := hs.congr rfl rfl
  ite_sound (ite_sound (halt_sound hs' _) (ite_sound (halt_sound hs' _) (hs'.congr rfl rfl))) hs'

theorem writeEnable_unitInbox (s : State) (v : Bool) : (s.writeEnable v).unitInbox = s.unitInbox := by
  unfold State.writeEnable State.enterStarting
  dsimp only
  split
  · rfl
  · split
    · split
      · split
        · exact halt_unitInbox _ _
        · rfl
      all_goals rfl
    · split
      · exact withdrawFetch_unitInbox _
      all_goals rfl

/-- Every port of a part whose blocks were reset is at its reset value, and nothing waits anywhere. -/
theorem cleared_sound (s : State) (a : Word) : (s.cleared a).Sound := by
  have hport : ∀ q, (s.cleared a).port q = Port.resetWith (s.port q).flt (s.port q).rxd := by
    intro q
    simp [State.cleared, State.port]
  refine ⟨fun q => ?_, ?_⟩
  · rw [hport]
    exact ⟨Nat.zero_lt_succ 2, fun _ => rfl⟩
  · rintro id k r (hr | ⟨q, hr⟩)
    · simp [State.cleared, State.reset] at hr
    · rw [hport] at hr
      simp [Port.resetWith] at hr

theorem softReset_sound (s : State) : s.softReset.Sound :=
  ite_sound ((cleared_sound s s.setupAddr).congr rfl rfl) (cleared_sound s s.setupAddr)

theorem writeCtrl_sound (hs : s.Sound) (v : Word) : (s.writeCtrl v).Sound :=
  ite_sound (softReset_sound s) (hs.congr (writeEnable_ports s _) (writeEnable_unitInbox s _))

theorem writeRegister_sound (hs : s.Sound) (o : Nat) (w : AccessWidth) (v : Word) : (s.writeRegister o w v).Sound :=
  ite_sound hs <| ite_sound (writeCtrl_sound hs v) <| ite_sound (hs.congr rfl rfl) <|
    ite_sound (writeReqTail_sound hs v) <| ite_sound (writeCplHead_sound hs v) hs

theorem setupRead_sound (hs : s.Sound) (d : Option ReadData) : (s.setupRead d).Sound := by
  unfold State.setupRead
  split
  · exact halt_sound hs _
  · split
    · exact halt_sound hs _
    · exact ite_sound (halt_sound hs _) (ite_sound (halt_sound hs _) (hs.congr rfl rfl))

theorem recordWritten_unitInbox (s : State) (u : Setup) (o : Option Nat) : (s.recordWritten u o).unitInbox = s.unitInbox := by
  unfold State.recordWritten State.freeEntry
  cases o with
  | none => rfl
  | some id =>
    dsimp only
    split <;> rfl

theorem takeBeat_unitInbox (s : State) (g : GroupId) : (s.takeBeat g).unitInbox = s.unitInbox := by
  unfold State.takeBeat
  split
  · rfl
  · dsimp only
    split <;> split <;> rfl

/-- A grant takes the claim it serves, and nothing else of a port (R164). -/
theorem grant_steady (s : State) : MissesSteady s s.grant := by
  have hmod : ∀ (p : PortId) {v : State}, v.ports = s.ports → v.unitInbox = s.unitInbox → ∀ (f : Port → Port)
      (g : Bus → Bus), ((s.port p).MissesKept (f (s.port p))) → MissesSteady s ((v.modPort p f).modBus g) := by
    intro p v hp hu f g hf
    refine ⟨hu, fun q => ?_⟩
    rw [State.port_modBus]
    by_cases hq : q = p
    · subst hq; rw [State.port_modPort_self, State.port_congr hp]; exact hf
    · rw [State.port_modPort_ne v hq, State.port_congr hp]; exact .refl _
  have hsame : ∀ {v : State}, v.ports = s.ports → v.unitInbox = s.unitInbox → MissesSteady s v :=
    fun hp hu => ⟨hu, fun q => by rw [State.port_congr hp]; exact .refl _⟩
  unfold State.grant
  split
  · unfold State.grantImage
    split
    · exact .refl s
    · exact hmod _ rfl rfl _ _ (Port.MissesKept.refl _).same
  · unfold State.grantTransfer
    split
    · exact .refl s
    · exact hmod _ rfl rfl _ _ (Port.MissesKept.refl _).same
  · unfold State.grantRecord
    dsimp only
    split <;> exact hsame rfl rfl
  all_goals exact hsame rfl rfl

/-! ### Instants -/

theorem onlyIf_sound (hs : s.Sound) {c : Bool} {act : State → State} (h : (act s).Sound) : AnswersSound (onlyIf c act s) :=
  .next (ite_sound h hs)

theorem exactlyAt_sound (hs : s.Sound) {n : Nat} {act : State → State} (h : ∀ v : State, MissesSteady v (act v)) :
    AnswersSound (exactlyAt n act s) := by
  unfold exactlyAt
  split
  · rename_i v hv
    rw [(reach_eq hv).1]
    exact .next ((h _).sound (hs.congr rfl rfl))
  · exact .next hs

theorem atInstant_sound (hs : s.Sound) {due : Option Nat} {act : State → State} (h : ∀ v : State, MissesSteady v (act v)) :
    AnswersSound (atInstant due act s) := by
  unfold atInstant
  split
  · exact exactlyAt_sound hs h
  · exact .next hs

/-- A step of port `p` at its instant. -/
theorem atInstant_sound_of_at (hs : s.Sound) {due : Option Nat} {act : State → State} (h : ∀ v : State, At p v (act v))
    (k : ∀ v : State, (v.port p).MissesKept (v.port p) → (v.port p).MissesKept ((act v).port p)) :
    AnswersSound (atInstant due act s) := atInstant_sound hs fun v => (h v).steady (k v)

theorem replyAt_sound (hs : s.Sound) {n : Nat} {act : State → State} (h : ∀ v : State, MissesSteady v (act v)) :
    AnswersSound (s.replyAt p n act) := by
  unfold State.replyAt
  split
  · rename_i v hv
    have hq : MissesSteady s (s.modLf p fun f => { f with timer := none, rx := none, candidate := none }) :=
      (modLf_at (At.refl p s) _).steady fun h => modLf_misses h _
    rw [(reach_eq hv).1]
    exact .next ((h _).sound ((hq.sound hs).congr rfl rfl))
  · exact .next hs

theorem endExchange_steady (p : PortId) (f : Frame) (o : Outcome) (n : Nat) (v : State) :
    MissesSteady v (v.endExchange p f o n) :=
  (endExchange_at (At.refl p v) f o n).steady fun h => endExchange_misses h f o n

theorem expire_sound (hs : s.Sound) (c : Cause) (due : Option Nat) (n : Nat) : AnswersSound (s.expire p c due n) := by
  unfold State.expire
  split
  · split
    · exact exactlyAt_sound hs fun v => endExchange_steady p _ _ _ v
    · exact .next hs
  · exact .next hs

theorem replyEffect_steady {f : Frame} {rx : Rx} {chars : List RxChar} {next : Option Nat} {n : Nat} {act : State → State}
    (h : s.replyEffect p f rx chars next = some (n, act)) (v : State) : MissesSteady v (act v) := by
  unfold State.replyEffect at h
  dsimp only at h
  split at h
  · cases h
  · split at h
    · split at h
      · cases h
      · cases h
        exact (received_at (At.refl p v) _ _ _ _ _).steady fun h => received_misses h _ _ _ _ _
    · cases h
      exact (replyEnds_at (At.refl p v) _ _ _ _ _).steady fun h => replyEnds_misses h _ _ _ _ _
    · cases h

/-! ### Every command -/

theorem execCollision_sound (hs : s.Sound) (p : PortId) (bit : Nat) : AnswersSound (execCollision p bit s) := by
  unfold execCollision
  split
  · split
    · refine exactlyAt_sound hs fun v => (collide_at (At.refl p v) _ bit).steady fun h => ?_
      exact endExchange_misses (modPort_misses h) _ _ _
    · exact .next hs
  · exact .next hs

theorem execReplyStartEdge_sound (hs : s.Sound) (p : PortId) (n : Nat) : AnswersSound (execReplyStartEdge p n s) := by
  unfold execReplyStartEdge
  dsimp only
  split
  · split
    · exact replyAt_sound hs fun v => (beginReply_at (At.refl p v) _ _).steady fun h => modLf_misses (lineIs_misses h _ _ _) _
    · exact .next hs
  · exact .next hs

theorem execStationReply_sound (hs : s.Sound) (p : PortId) (chars : List RxChar) (next : Option Nat) :
    AnswersSound (execStationReply p chars next s) := by
  unfold execStationReply
  split
  · split
    · exact replyAt_sound hs (replyEffect_steady ‹_›)
    · exact .next hs
  · exact .next hs

section flight

variable (hs : s.Sound)
include hs

theorem endFlight_sound : s.endFlight.Sound := hs.congr rfl rfl

/-- What the end of an access brings at port `p`. -/
theorem sound_of_endFlight (h : At p s.endFlight t)
    (k : (s.endFlight.port p).MissesKept (s.endFlight.port p) → (s.endFlight.port p).MissesKept (t.port p)) : t.Sound :=
  (h.steady k).sound (endFlight_sound hs)

theorem execSamplingReadEnd_sound (d : Option ReadData) : AnswersSound (execSamplingReadEnd d s) := by
  unfold execSamplingReadEnd
  split
  · dsimp only
    split
    · split
      · exact .next (sound_of_endFlight hs (imageFault_at (At.refl _ _) _) fun h => imageFault_misses h _)
      · exact .next (ite_sound (sound_of_endFlight hs (modCyc_at (At.refl _ _) _) fun h => modCyc_misses h _)
          (endFlight_sound hs))
    · exact .next (endFlight_sound hs)
  · exact .next hs

theorem execInputImageWriteEnd_sound (ok : Bool) : AnswersSound (execInputImageWriteEnd ok s) := by
  unfold execInputImageWriteEnd
  split
  · dsimp only
    split
    · exact .next (ite_sound (sound_of_endFlight hs (imageFault_at (At.refl _ _) _) fun h => imageFault_misses h _)
        (ite_sound (sound_of_endFlight hs (modCyc_at (At.refl _ _) _) fun h => modCyc_misses h _) (endFlight_sound hs)))
    · exact .next (endFlight_sound hs)
  · exact .next hs

theorem execTransferFetchEnd_sound (d : Option ReadData) : AnswersSound (execTransferFetchEnd d s) := by
  unfold execTransferFetchEnd
  split
  · exact .next (ite_sound
      (sound_of_endFlight hs (fetchEnded_at (At.refl _ _) _) fun h => (fetchEnded_serves (.refl _ _) d).misses h)
      (sound_of_endFlight hs (formerEnded_at (At.refl _ _)) fun h => formerEnded_misses h))
  · exact .next hs

theorem execTransferStoreEnd_sound (ok : Bool) : AnswersSound (execTransferStoreEnd ok s) := by
  unfold execTransferStoreEnd
  split
  · exact .next (ite_sound
      (sound_of_endFlight hs (storeEnded_at (At.refl _ _) _) fun h => (storeEnded_serves (.refl _ _) ok).misses h)
      (sound_of_endFlight hs (formerEnded_at (At.refl _ _)) fun h => formerEnded_misses h))
  · exact .next hs

theorem execPortReportWriteEnd_sound (ok : Bool) : AnswersSound (execPortReportWriteEnd ok s) := by
  unfold execPortReportWriteEnd
  split
  · exact .next (sound_of_endFlight hs (reportEnded_at (At.refl _ _) _ _) fun h => reportEnded_misses h _ _)
  · exact .next hs

theorem execReqBusError_sound : AnswersSound (execReqBusError s) :=
  onlyIf_sound hs (ite_sound (halt_sound (endFlight_sound hs) _)
    ((endFlight_sound hs).congr (dropFetch_ports _) (dropFetch_unitInbox _)))

theorem execRecordWriteEnd_sound (ok : Bool) : AnswersSound (execRecordWriteEnd ok s) := by
  have he := endFlight_sound hs
  unfold execRecordWriteEnd
  split
  · exact .next (ite_sound (he.congr (recordWritten_ports _ _ _) (recordWritten_unitInbox _ _ _))
      (ite_sound (halt_sound he _) he))
  · exact .next hs

theorem execSetupReadEnd_sound (d : Option ReadData) : AnswersSound (execSetupReadEnd d s) := by
  unfold execSetupReadEnd
  split
  · exact .next (ite_sound (setupRead_sound (endFlight_sound hs) d) (endFlight_sound hs))
  · exact .next hs

end flight

theorem execSyncIn_sound (hs : s.Sound) (high : Bool) : AnswersSound (execSyncIn high s) := by
  have h : MissesSteady s { s with syncInLevel := high } := ⟨rfl, fun _ => .refl _⟩
  exact onlyIf_sound hs (MissesSteady.sound (ite_steady (foldl_steady (fun u g => fire_steady g u) _ h) h) hs)

/-- Every command answers a sound state from a sound one. -/
theorem exec_sound (hs : s.Sound) (i : Instr) : AnswersSound (exec i s) := by
  cases i with
  | nop r => exact take_sound hs fun _ id => .of_steady fun u => handOver_steady (.refl u) _ _ _
  | portConfig q => exact take_toPort_sound hs rfl fun hc id => .of_steady (configurePort_steady hc id)
  | portEnable q =>
    exact take_toPort_sound hs rfl fun _ id => .of_steady fun u =>
      (enablePort_at _ id u).steady fun h => enablePort_misses h _ id rfl
  | portDisable q =>
    exact take_toPort_sound hs rfl fun _ id => .of_steady fun u =>
      (disablePort_at _ id u).steady fun h => disablePort_misses h _ id rfl
  | bringUp q =>
    exact take_toPort_sound hs rfl fun _ id => .of_steady fun u =>
      (bringUpPort_at _ id u).steady fun h => bringUpPort_misses h _ id rfl
  | cycleStart q =>
    exact take_toPort_sound hs rfl fun _ id => .of_steady fun u =>
      (startCycling_at _ id u).steady fun h => startCycling_misses h _ id rfl
  | cycleStop q =>
    exact take_toPort_sound hs rfl fun _ id => .of_steady fun u =>
      (stopCycling_at _ id u).steady fun h => stopCycling_misses h _ id rfl
  | groupConfig q => exact take_toUnit_sound hs rfl fun id => .of_steady (configureGroup_steady _ id)
  | syncFire q => exact take_toUnit_sound hs rfl fun id => .of_steady (syncFireGroups_steady _ id)
  | paramRead q =>
    exact take_toPort_sound hs rfl fun _ id => .of_steady fun u =>
      (queueTransfer_at false _ id u).steady fun h => queueTransfer_misses h false _ id rfl
  | paramWrite q =>
    exact take_toPort_sound hs rfl fun _ id => .of_steady fun u =>
      (queueTransfer_at true _ id u).steady fun h => queueTransfer_misses h true _ id rfl
  | abort q => exact take_sound hs fun _ id => runAbort_keepsSound _ _ id
  | portQuery q =>
    exact take_toPort_sound hs rfl fun _ id => .of_steady fun u =>
      (queryPort_at _ id u).steady fun h => queryPort_misses h _ id rfl
  | unknownRequestKind kind r =>
    exact onlyIf_sound hs (take_sound (k := kind) (r := r) (act := fun _ u => u) hs (fun _ _ _ hu => hu) _ rfl)
  | reqBusError => exact execReqBusError_sound hs
  | fetch => unfold exec execFetch; exact onlyIf_sound hs (hs.congr rfl rfl)
  | bmuGrant => exact onlyIf_sound hs ((grant_steady s).sound hs)
  | completionWriteClaim => unfold exec execCompletionWriteClaim; exact onlyIf_sound hs (hs.congr rfl rfl)
  | recordWriteEnd ok => exact execRecordWriteEnd_sound hs ok
  | holdoffExpiry => exact atInstant_sound hs fun v => ⟨rfl, fun _ => .refl _⟩
  | reqTail v => exact onlyIf_sound hs (writeReqTail_sound hs v)
  | cplHead v => exact onlyIf_sound hs (writeCplHead_sound hs v)
  | enable v => exact onlyIf_sound hs (writeCtrl_sound hs v)
  | softReset v => exact onlyIf_sound hs (writeCtrl_sound hs v)
  | softResetEnd => unfold exec execSoftResetEnd; exact onlyIf_sound hs (hs.congr rfl rfl)
  | intEnable v => exact onlyIf_sound hs (writeCtrl_sound hs v)
  | registerWrite o w v => exact onlyIf_sound hs (writeRegister_sound hs _ w v)
  | powerOnReset => exact .next ((cleared_sound s 0).congr rfl rfl)
  | resetNDeasserted => exact .next (hs.congr rfl rfl)
  | setupReadEnd d => exact execSetupReadEnd_sound hs d
  | syncIn high => exact execSyncIn_sound hs high
  | beat g =>
    exact atInstant_sound hs fun v =>
      ⟨takeBeat_unitInbox v g, fun q => by rw [State.port_congr (takeBeat_ports v g)]; exact .refl _⟩
  | syncOutPulseEnd => exact atInstant_sound hs fun v => ⟨rfl, fun _ => .refl _⟩
  | samplingInstant p =>
    exact atInstant_sound_of_at hs (fun v => sampleNow_at (.refl p v)) fun _ => sampleNow_misses
  | samplingReadEnd d => exact execSamplingReadEnd_sound hs d
  | startInstant p => exact atInstant_sound_of_at hs (fun v => startNow_at (.refl p v)) fun _ => startNow_misses
  | inputImageWriteEnd ok => exact execInputImageWriteEnd_sound hs ok
  | idleCheck p => exact atInstant_sound_of_at hs (fun v => startOnLine_at (.refl p v)) fun _ => startOnLine_misses
  | collision p bit => exact execCollision_sound hs p bit
  | masterFrameEnd p => exact atInstant_sound_of_at hs (fun v => frameSent_at (.refl p v)) fun _ => frameSent_misses
  | noReply p n => exact expire_sound hs _ _ n
  | gap p n => exact expire_sound hs _ _ n
  | stationReply p chars next => exact execStationReply_sound hs p chars next
  | guardEnd p => exact atInstant_sound_of_at hs (fun v => guardOver_at (.refl p v)) fun _ => guardOver_misses
  | wakeDominantEnd p =>
    exact atInstant_sound_of_at hs (fun v => pulseSent_at (.refl p v)) fun _ h => modLf_misses (modPort_misses h) _
  | quietTimeEnd p => exact atInstant_sound_of_at hs (fun v => pulseOver_at (.refl p v)) fun _ => pulseOver_misses
  | lineStuck p =>
    exact atInstant_sound_of_at hs (fun v => enterFault_at (.refl p v) _) fun _ h => enterFault_misses h _
  | fltNAsserted p => exact .next (((modPort_at (.refl p s) _).steady fun h => modPort_misses h).sound hs)
  | fltNDeasserted p => exact .next (((modPort_at (.refl p s) _).steady fun h => modPort_misses h).sound hs)
  | overcurrent p =>
    exact atInstant_sound_of_at hs (fun v => enterFault_at (.refl p v) _) fun _ h => enterFault_misses h _
  | attempt p => exact atInstant_sound_of_at hs (fun v => beginAttempt_at (.refl p v)) fun _ => beginAttempt_misses
  | backoffExpiry p =>
    exact atInstant_sound_of_at hs (fun v => modSeq_at (.refl p v) _) fun _ h => modSeq_misses h _
  | activation p =>
    exact atInstant_sound_of_at hs (fun v => activateHead_at (.refl p v)) fun v h =>
      (activateHead_serves (.refl p v)).misses h
  | segmentHandOver p => exact atInstant_sound_of_at hs (fun v => handSegment_at (.refl p v)) fun _ => handSegment_misses
  | svcAbandon p => exact atInstant_sound_of_at hs (fun v => handAbandon_at (.refl p v)) fun _ => handAbandon_misses
  | transferFetchEnd d => exact execTransferFetchEnd_sound hs d
  | transferStoreEnd ok => exact execTransferStoreEnd_sound hs ok
  | portReportWriteEnd ok => exact execPortReportWriteEnd_sound hs ok
  | replyStartEdge p n => exact execReplyStartEdge_sound hs p n
  | rxdLevelChange p b =>
    exact onlyIf_sound hs (((lineLevel_at (.refl p s) b).steady fun h => modPort_misses h).sound hs)

theorem tick_unitInbox (s : State) : s.tick.unitInbox = s.unitInbox := by
  unfold State.tick
  split
  · rfl
  · cases h : s.reach (s.time + 1) with
    | none => rfl
    | some v => rw [Option.getD_some, (reach_eq h).1]

theorem step_sound (hs : s.Sound) (h : step s = .next t) : t.Sound := by
  unfold step idleStep at h
  split at h
  · rename_i c rest _
    exact exec_sound (s := { s with pending := rest }) (hs.congr rfl rfl) c t h
  · split at h
    · exact exec_sound (s := s.chosen) (hs.congr rfl rfl) _ t h
    · cases h; exact portArrival_keepsSound _ _ (hs.congr rfl rfl)
    · cases h; exact unitArrival_keepsSound _ (hs.congr rfl rfl)
    · cases h; exact hs.congr (tick_ports s) (tick_unitInbox s)

/-- Settles O8: a step is a command, an arrival or a tick, and each answers a sound state from a sound one. -/
theorem everyStepKeepsMissesBelow : Obligations.EveryStepKeepsMissesBelow := fun _ _ hm ha h =>
  have ht := step_sound ⟨hm, ha⟩ h
  ⟨ht.misses, ht.arrivals⟩

end Sys2Proof.Machine
end

section
/-! PROOFS. The end of an access that ended requests waited for (R30, R31), and the end of a report write (R31, R41). -/

namespace Sys2Proof.Machine

/- Each proof waits for the kernel; checked one after another, they need no more threads than the rest of the package. -/
set_option Elab.async false

variable {p : PortId} {s t : State}

/-! ### The end of an access (R30, R31) -/

/-- The PORT_DISABLEs that waited are handed over with their counts. -/
def State.handDisables (s : State) (l : List DisableWait) : State :=
  l.foldl (fun s w => s.handOver w.ort .ok (BitVec.ofNat 32 w.count)) s

theorem accessEnded_eq (s : State) (p : PortId) : s.accessEnded p =
    ((s.handEnded p false).modPort p fun x => { x with disables := [] }).handDisables (s.port p).disables := by
  have hd : ((s.handEnded p false).port p).disables = (s.port p).disables := by rw [handEnded_port]
  unfold State.accessEnded
  dsimp only
  rw [hd]
  rfl

theorem handDisables_port (s : State) (l : List DisableWait) (q : PortId) : (s.handDisables l).port q = s.port q := by
  induction l generalizing s with
  | nil => rfl
  | cons w l ih => exact (ih _).trans (handOver_port s w.ort .ok _ q)

theorem handDisables_bus (s : State) (l : List DisableWait) : (s.handDisables l).bus = s.bus := by
  induction l generalizing s with
  | nil => rfl
  | cons w l ih => exact (ih _).trans (handOver_bus s w.ort .ok _)

theorem handEnded_bus (s : State) (p : PortId) (x : Bool) : (s.handEnded p x).bus = s.bus := by
  rw [handEnded_eq]
  have h : ∀ (l : List Transfer) (u : State), (l.foldl State.handOne u).bus = u.bus := by
    intro l
    induction l with
    | nil => exact fun _ => rfl
    | cons b l ih =>
      intro u
      rw [List.foldl_cons, ih]
      unfold State.handOne
      split
      · exact handOver_bus u _ _ _
      · rfl
  rw [h, State.modPort_bus]

theorem accessEnded_port (s : State) (p : PortId) : (s.accessEnded p).port p = { s.port p with
    queue := (s.port p).queue.filter fun b => !b.due false, disables := [] } := by
  rw [accessEnded_eq, handDisables_port, State.port_modPort_self, handEnded_port]

theorem accessEnded_bus (s : State) (p : PortId) : (s.accessEnded p).bus = s.bus := by
  rw [accessEnded_eq, handDisables_bus, State.modPort_bus, handEnded_bus]

theorem accessEnded_lists (h : ListsKept s t) : ListsKept s (t.accessEnded p) := by
  rw [accessEnded_eq]
  exact foldl_lists (fun u w => handOver_lists (.refl u) _ _ _) _ (modPort_lists (handEnded_lists h false) _)

theorem accessEnded_doneKept (h : DoneKept s (s.handEnded p false)) : DoneKept s (s.accessEnded p) := by
  have hm : DoneKept s ((s.handEnded p false).modPort p fun x => { x with disables := [] }) := h.trans (.of_ort rfl)
  rw [accessEnded_eq]
  exact hm.trans (foldl_doneKept (fun u (w : DisableWait) => handOver_doneKept u w.ort _ _) _ _)

/-- What waited for the access is handed over, where no PORT_DISABLE waited with it. -/
theorem accessEnded_hands {l : List (OrtEntry × Status × Word)} (hd : (s.port p).disables = [])
    (h : Hands s (s.handEnded p false) l) : Hands s (s.accessEnded p) l := by
  rw [accessEnded_eq, hd]
  exact h.trans_nil (.of_eq rfl rfl rfl)

/-- A PORT_DISABLE that waited is handed over last, with its count (R31). -/
theorem accessEnded_hands_disable {l : List (OrtEntry × Status × Word)} {d : OrtEntry} {n : Nat}
    (hd : (s.port p).disables = [{ ort := d.id, count := n }]) (h : Hands s (s.handEnded p false) l) (hp : s.Pends d)
    (hl : ∀ x ∈ l, x.1.id ≠ d.id) : Hands s (s.accessEnded p) (l ++ [(d, .ok, BitVec.ofNat 32 n)]) := by
  rw [accessEnded_eq, hd]
  have hm : Hands s ((s.handEnded p false).modPort p fun x => { x with disables := [] }) l := h.trans_nil (.of_eq rfl rfl rfl)
  exact hm.trans (handOver_hands (hm.pends d hp hl) .ok (BitVec.ofNat 32 n))

/-- Nothing waits for an access where no transfer of the queue has ended. -/
theorem due_eq_nil {l : List Transfer} (h : ∀ b ∈ l, b.ending = none) (x : Bool) : l.filter (Transfer.due x) = [] :=
  List.filter_eq_nil_iff.mpr fun b hb => by simp [Transfer.due, h b hb]

theorem filter_not_due_eq_self {l : List Transfer} (h : ∀ b ∈ l, b.ending = none) (x : Bool) :
    (l.filter fun b => !b.due x) = l :=
  List.filter_eq_self.mpr fun b hb => by simp [Transfer.due, h b hb]

/-! ### The end of a report write (R31, R41) -/

/-- The port without the query `id`. -/
def Port.reported (x : Port) (id : Nat) : Port := { x with queries := x.queries.filter fun q => q.ort ≠ id }

theorem reportEnded_eq {q : Query} (hq : ((s.port p).queries.find? fun r => r.ort = q.ort) = some q) (ok : Bool) :
    s.reportEnded p q.ort ok = ((s.withPort p ((s.port p).reported q.ort)).handOver q.ort
      (if ok then .ok else .bufferFault) (if ok then q.state.code.setWidth 32 else 0)).accessEnded p := by
  unfold State.reportEnded
  rw [hq]
  cases ok <;> rfl

/-- Settles O60. -/
theorem aReportWriteEndsItsQuery : Obligations.AReportWriteEndsItsQuery := by
  intro ok p a l f q e s x hf ha hq hqueue he hst hna answer
  have hid : e.id = q.ort := by simpa using List.find?_some he
  have hexec : exec (.portReportWriteEnd ok) s = .next (s.endFlight.reportEnded p q.ort ok) := by
    rcases f with ⟨access, live, wanted⟩
    subst ha
    change execPortReportWriteEnd ok s = _
    simp only [execPortReportWriteEnd, hf]
  refine ⟨_, hexec, (reportEnded_at (endFlight_at (.refl p s)) q.ort ok).onlyPort, ?_⟩
  rw [reportEnded_eq (s := s.endFlight) hq, ← hid]
  generalize hst' : (if ok then Status.ok else Status.bufferFault) = st
  generalize hres : (if ok then q.state.code.setWidth 32 else (0 : Word)) = res
  generalize hv : s.endFlight.withPort p ((s.endFlight.port p).reported e.id) = v
  have hvp : v.port p = x.reported e.id := by rw [← hv, port_withPort]; rfl
  have hsv : Hands s v [] := by subst hv; exact .of_eq rfl rfl rfl
  have hpends : ∀ w, s.ortFind w.id = some w → w.st ≠ .done → s.Pends w := fun w hw hd => ⟨⟨w.st, hd, hw⟩, hna w.id⟩
  have hfirst : Hands s (v.handOver e.id st res) [(e, st, res)] := hsv.handOver (hpends e (by rw [hid]; exact he) hst) st res
  generalize hu : v.handOver e.id st res = u at hfirst
  have hup : u.port p = x.reported e.id := by rw [← hu, handOver_port, hvp]
  have hends : ∀ b ∈ (u.port p).queue, b.ending = none := by rw [hup]; exact hqueue
  have hnone : Hands u (u.handEnded p false) [] := by
    rw [handEnded_of_nil (due_eq_nil hends false)]
    exact .of_eq rfl rfl rfl
  have hlists : ListsKept s (u.accessEnded p) := by
    have hsv : ListsKept s v := by subst hv; exact ⟨rfl, rfl⟩
    exact accessEnded_lists (hu ▸ handOver_lists hsv _ _ _)
  refine ⟨hlists.groupsKept, ?_, hlists.events, ?_, ?_, fun hd => ?_, fun w g hd hwq hg hgst => ?_⟩
  · rw [accessEnded_bus, ← hu, handOver_bus, ← hv]
    rfl
  · rw [accessEnded_port, filter_not_due_eq_self hends, hup]
    rfl
  · exact accessEnded_doneKept hnone.kept _ (hfirst.handed _ (List.mem_singleton_self _))
  · have hall := hfirst.trans_nil (accessEnded_hands (by rw [hup]; exact hd) hnone)
    rw [hall.done]
    simp [answer, OrtEntry.completion, hid, ← hst', ← hres]
  · have hgid : g.id = w.ort := by simpa using List.find?_some hg
    have hall := hfirst.trans (accessEnded_hands_disable (d := g) (n := w.count) (by rw [hup, hgid]; exact hd) hnone
      (hfirst.pends g (hpends g (by rw [hgid]; exact hg) hgst) fun y hy => by
        obtain rfl := List.mem_singleton.mp hy
        exact fun hn => hwq (hgid.symm.trans hn.symm)) (by simp))
    rw [hall.done]
    simp [answer, OrtEntry.completion, hid, hgid, ← hst', ← hres]

end Sys2Proof.Machine
end

section
/-! PROOFS. CYCLE_STOP and CYCLE_START within their take (R24, R25, R60, R66, R70 to R73, R79 to R81, R98, R99). -/

namespace Sys2Proof.Machine

/- Each proof waits for the kernel; checked one after another, they need no more threads than the rest of the package. -/
set_option Elab.async false

variable {p : PortId} {s t : State} {u : Setup} {e w : OrtEntry} {k : Byte} {r : ReqRecord}

/-! ### The table after a take (R127) -/

/-- What a take makes of an entry, that of the take at the place `id`. -/
def OrtEntry.takenAt (k : Byte) (r : ReqRecord) (id : Nat) (x : OrtEntry) : OrtEntry :=
  if x.id = id then { x.filled k r with st := .routed } else x

theorem takenAt_id (id : Nat) (x : OrtEntry) : (x.takenAt k r id).id = x.id := by
  unfold OrtEntry.takenAt
  split <;> rfl

theorem takenAt_awaited (id : Nat) (x : OrtEntry) : (x.takenAt k r id).awaited = x.awaited := by
  unfold OrtEntry.takenAt
  split <;> rfl

theorem routed_ort (s : State) (u : Setup) (e : OrtEntry) (k : Byte) (r : ReqRecord) :
    (s.routed u e k r).ort = s.ort.map (OrtEntry.takenAt k r e.id) := rfl

theorem routed_notAwaited {i : Nat} (h : s.NotAwaited i) : (s.routed u e k r).NotAwaited i :=
  notAwaited_map (fun x _ hi => by rwa [takenAt_awaited] at hi) (routed_ort s u e k r) h

/-- The entry of the take is ROUTED, and pends where no ABORT waits for it. -/
theorem routed_pends (hf : s.Fetched u e) (hn : s.TableSound e) (ha : s.NotAwaited e.id) :
    (s.routed u e k r).Pends (e.filled k r) :=
  ⟨⟨.routed, by decide, routed_find s u e k r hf hn⟩, routed_notAwaited ha⟩

/-- What stands at another place pends as before. -/
theorem routed_pends_ne (h : s.Pends w) (hne : w.id ≠ e.id) : (s.routed u e k r).Pends w := by
  obtain ⟨⟨st, hst, hfind⟩, hna⟩ := h
  refine ⟨⟨st, hst, ?_⟩, routed_notAwaited hna⟩
  rw [ortFind_map (takenAt_id e.id) (routed_ort s u e k r), hfind, Option.map_some]
  exact congrArg some (if_neg hne)

/-- A further request that pends is handed over behind those before it. -/
theorem Hands.answered {l : List (OrtEntry × Status × Word)} (h : Hands s t l) (hp : s.Pends w)
    (hl : ∀ x ∈ l, x.1.id ≠ w.id) (st : Status) (x : Word) : Hands s (t.handOver w.id st x) (l ++ [(w, st, x)]) :=
  h.trans (handOver_hands (h.pends w hp hl) st x)

/-! ### CYCLE_STOP (R25, R60, R98, R99) -/

/-- The schedule ends in READY, and what waits in the control slot is handed over with `st` (R99, R100). -/
def State.stopSchedule (p : PortId) (st : Status) (s : State) : State := (s.toReady p).endSlot p (fun _ => st) 0

theorem stopSchedule_port (s : State) (p : PortId) (st : Status) : (s.stopSchedule p st).port p = (s.port p).stopped := by
  rw [State.stopSchedule, endSlot_port, toReady_port]
  simp [Port.slotEnded, Port.stopped]

theorem toReady_groupsLeft (s : State) (p : PortId) : GroupsLeft p s (s.toReady p) :=
  (leave_groupsLeft s p).of_groups rfl

theorem stopSchedule_groupsLeft (s : State) (p : PortId) (st : Status) : GroupsLeft p s (s.stopSchedule p st) :=
  (toReady_groupsLeft s p).of_groups (endSlot_lists (.refl (s.toReady p)) _ _).groups

theorem stopSchedule_events (s : State) (p : PortId) (st : Status) : (s.stopSchedule p st).cpl.events = s.cpl.events :=
  (endSlot_lists (.refl (s.toReady p)) _ _).events

/-- What waits in the control slot, where something does, is handed over. -/
theorem stopSchedule_hands {slot : List OrtEntry} (hs : slot.map (·.id) = ((s.port p).slot.map (·.2)).toList)
    (hp : ∀ w ∈ slot, s.Pends w) (st : Status) : Hands s (s.stopSchedule p st) (slot.map fun n => (n, st, 0)) := by
  have h := toReady_hands s p
  refine h.nil_trans (endSlot_hands (by rw [toReady_port]; exact hs) (fun w hw => h.pends w (hp w hw) (by simp)) _ 0
    fun _ _ _ => rfl)

theorem toReady_stopped (hs : (s.port p).slot = none) : (s.toReady p).port p = (s.port p).stopped := by
  rw [toReady_port, Port.stopped, ← hs]

/-- The schedule ends in RECOVERY, and is not taken up again (R60). -/
def State.unresumed (p : PortId) (s : State) : State := (s.leave p).modPort p fun x => { x with resume := false }

theorem unresumed_port (s : State) (p : PortId) :
    (s.unresumed p).port p = { s.port p with sched := none, resume := false } := by
  rw [State.unresumed, State.port_modPort_self, leave_port]

theorem unresumed_hands (s : State) (p : PortId) : Hands s (s.unresumed p) [] := .of_eq rfl rfl rfl

theorem stopCycling_of_recovery (h : (s.port (targetPort r)).state = .recovery) (id : Nat) :
    s.stopCycling r id = (s.unresumed (targetPort r)).handOver id .ok 0 := by
  simp only [State.stopCycling, h]
  rfl

theorem stopCycling_of_armed (h : (s.port (targetPort r)).state = .armed) (id : Nat) :
    s.stopCycling r id = (s.stopSchedule (targetPort r) .cancelled).handOver id .ok 0 := by
  simp only [State.stopCycling, h]
  rfl

theorem stopCycling_of_cyclic_busy (h : (s.port (targetPort r)).state = .cyclic)
    (hs : (s.port (targetPort r)).slot ≠ none) (id : Nat) : s.stopCycling r id = s.handOver id .busy 0 := by
  simp only [State.stopCycling, h, Option.isSome_iff_ne_none.mpr hs, if_true]

theorem stopCycling_of_cyclic_waits (h : (s.port (targetPort r)).state = .cyclic)
    (hs : (s.port (targetPort r)).slot = none) (hb : (s.port (targetPort r)).cyc.busy = true) (id : Nat) :
    s.stopCycling r id = (s.modPort (targetPort r) fun x =>
      { x with slot := some (.cycleStop, id), stopPending := true }).setOrtState id .waiting := by
  simp only [State.stopCycling, h, hs, hb, Option.isSome_none, Bool.false_eq_true, if_false, if_true]

theorem stopCycling_of_cyclic_ends (h : (s.port (targetPort r)).state = .cyclic)
    (hs : (s.port (targetPort r)).slot = none) (hb : ¬ (s.port (targetPort r)).cyc.busy = true) (id : Nat) :
    s.stopCycling r id = (s.toReady (targetPort r)).handOver id .ok 0 := by
  simp only [State.stopCycling, h, hs, hb, Option.isSome_none, Bool.false_eq_true, if_false]

/-- Settles O19. -/
theorem cycleStopEndsTheSchedule : Obligations.CycleStopEndsTheSchedule := by
  intro r u e s hc hf hn hx hslot ha
  refine completes_of_take (act := State.stopCycling r) rfl hc hf hx ?_
  obtain ⟨hcontrol, hothers⟩ := (stopCycling_at r e.id (s.routed u e kindCycleStop r)).taken
  refine ⟨hcontrol, hothers, ?_⟩
  have hp : (s.routed u e kindCycleStop r).Pends (e.filled kindCycleStop r) := routed_pends hf hn ha
  have hanswer : ∀ st, HandedInOrder s ((s.routed u e kindCycleStop r).handOver e.id st 0)
      [(e.filled kindCycleStop r, st, 0)] := fun st => (handOver_hands hp st 0).inOrder_of rfl
  have hkept : ∀ st, ListsKept (s.routed u e kindCycleStop r) ((s.routed u e kindCycleStop r).handOver e.id st 0) :=
    fun st => handOver_lists (.refl _) e.id st 0
  cases hst : (s.port (targetPort r)).state with
  | ready =>
    simp only [State.stopCycling, routed_port, hst]
    exact ⟨(hkept _).events, handOver_port _ _ _ _ _, (hkept _).groupsKept, hanswer _⟩
  | recovery =>
    rw [stopCycling_of_recovery (s := s.routed u e kindCycleStop r) hst]
    dsimp only
    refine ⟨handOver_events _ _ _ _, ?_, (leave_groupsLeft (s.routed u e kindCycleStop r) _).of_groups
      (handOver_groups _ _ _ _), ((unresumed_hands _ _).handOver hp .ok 0).inOrder_of rfl⟩
    rw [handOver_port, unresumed_port, routed_port, ← hst]
  | armed =>
    rw [stopCycling_of_armed (s := s.routed u e kindCycleStop r) hst]
    dsimp only
    have hport : (((s.routed u e kindCycleStop r).stopSchedule (targetPort r) .cancelled).handOver e.id .ok 0).port
        (targetPort r) = (s.port (targetPort r)).stopped := by rw [handOver_port, stopSchedule_port]; rfl
    refine ⟨(handOver_events _ _ _ _).trans (stopSchedule_events _ _ _),
      (stopSchedule_groupsLeft (s.routed u e kindCycleStop r) _ _).of_groups (handOver_groups _ _ _ _),
      fun hnone => ⟨hport, ?_⟩, fun id hs => ⟨hport, fun c hc ho => ?_⟩⟩
    · have h := stopSchedule_hands (s := s.routed u e kindCycleStop r) (p := targetPort r) (slot := [])
        (by rw [routed_port, hnone]; rfl) (by simp) .cancelled
      exact (h.handOver hp .ok 0).inOrder_of rfl
    · have hce : c.id ≠ e.id := hc ▸ hslot _ id hs
      have h := stopSchedule_hands (s := s.routed u e kindCycleStop r) (p := targetPort r) (slot := [c])
        (by rw [routed_port, hs, ← hc]; rfl)
        (fun w hw => by
          obtain rfl := List.mem_singleton.mp hw
          exact routed_pends_ne (ho.pends hw) hce) .cancelled
      refine (h.answered hp (fun x hx => ?_) .ok 0).inOrder_of rfl
      obtain rfl := List.mem_singleton.mp hx
      exact hce
  | cyclic =>
    dsimp only
    by_cases hs : (s.port (targetPort r)).slot = none
    · rw [if_neg (not_not.mpr hs)]
      by_cases hb : ((s.port (targetPort r)).cyc.admitted || (s.port (targetPort r)).cyc.underWay.isSome ||
          (s.port (targetPort r)).cyc.startWait.isSome) = true
      · rw [if_pos hb, stopCycling_of_cyclic_waits (s := s.routed u e kindCycleStop r) hst hs hb]
        refine ⟨rfl, ?_, fun _ => rfl, routed_entryState hf hn _, rfl⟩
        rw [State.port_setOrtState, State.port_modPort_self, routed_port, ← hst]
      · rw [if_neg hb, stopCycling_of_cyclic_ends (s := s.routed u e kindCycleStop r) hst hs hb]
        refine ⟨handOver_events _ _ _ _, ?_, (toReady_groupsLeft (s.routed u e kindCycleStop r) _).of_groups
          (handOver_groups _ _ _ _), ((toReady_hands _ _).handOver hp .ok 0).inOrder_of rfl⟩
        rw [handOver_port]
        exact toReady_stopped hs
    · rw [if_pos hs, stopCycling_of_cyclic_busy (s := s.routed u e kindCycleStop r) hst hs]
      exact ⟨(hkept _).events, handOver_port _ _ _ _ _, (hkept _).groupsKept, hanswer _⟩
  | disabled | idle | bringup | fault =>
    simp only [State.stopCycling, routed_port, hst]
    exact ⟨(hkept _).events, handOver_port _ _ _ _ _, (hkept _).groupsKept, hanswer _⟩

end Sys2Proof.Machine
end

section
/-! PROOFS. The first instant of a member's schedule: what `firstIndex` and `firstStart` answer (R70, R72). -/

namespace Sys2Proof.Machine

/- Each proof waits for the kernel; checked one after another, they need no more threads than the rest of the package. -/
set_option Elab.async false

variable {s : State} {g : GroupId} {b : Beats} {d phase period number bound n k origin : Nat} {x lo j : Int}

theorem neg_ediv_le_iff (hp : 1 ≤ period) : -((phase - x) / period) ≤ j ↔ x ≤ j * period + phase := by
  have h := Int.le_ediv_iff_mul_le (a := -j) (b := phase - x) (c := period) (by omega)
  rw [Int.neg_mul] at h
  omega

/-- The index is legal: not below `lo`, at or after `x`, and of a beat whose number is a multiple of `d`. -/
theorem firstIndex_legal (hp : 1 ≤ period) (hd : 1 ≤ d) :
    lo ≤ firstIndex number period d phase x lo ∧ x ≤ firstIndex number period d phase x lo * period + phase ∧
      (d : Int) ∣ number + firstIndex number period d phase x lo := by
  have hstep := Int.emod_nonneg (-(number + max lo (-((phase - x) / period)))) (by omega : (d : Int) ≠ 0)
  refine ⟨?_, (neg_ediv_le_iff hp).mp ?_, ?_⟩ <;> unfold firstIndex <;> dsimp only
  · omega
  · omega
  · generalize max lo (-((phase - x) / (period : Int))) = i
    exact ⟨-(-(number + i) / d), by rw [Int.emod_def]; ring⟩

/-- No legal index is smaller. -/
theorem firstIndex_le (hp : 1 ≤ period) (hlo : lo ≤ j) (hx : x ≤ j * period + phase)
    (hj : (d : Int) ∣ number + j) : firstIndex number period d phase x lo ≤ j := by
  have hi : max lo (-((phase - x) / period)) ≤ j := max_le hlo ((neg_ediv_le_iff hp).mpr hx)
  unfold firstIndex
  dsimp only
  generalize max lo (-((phase - x) / (period : Int))) = i at hi
  obtain ⟨c, hc⟩ := hj
  have hstep : -(number + i) % (d : Int) = (j - i) % d := by
    rw [show -((number : Int) + i) = j - i - d * c by omega, Int.sub_mul_emod_self_left]
  have hle : (j - i) % (d : Int) ≤ j - i := by
    have := Int.mul_nonneg (Int.natCast_nonneg d) (Int.ediv_nonneg (by omega : 0 ≤ j - i) (Int.natCast_nonneg d))
    rw [Int.emod_def]
    omega
  omega

theorem ceilUs_le_iff (bound n : Nat) : ceilUs bound ≤ n ↔ bound ≤ 32 * n := by
  have h : Config.unitsPerUs = 32 := rfl
  unfold ceilUs
  rw [h]
  omega

theorem dvd_mod_add_iff (hd : d ∣ 720720) (hn : number = n % 720720) (j : Int) :
    (d : Int) ∣ number + j ↔ (d : Int) ∣ n + j := by
  have h : (d : Int) ∣ (n + j) - (number + j) := by
    have h720720 : (n : Int) - number = 720720 * (n / 720720 : Nat) := by omega
    rw [show ((n : Int) + j) - (number + j) = n - number by omega, h720720]
    exact Dvd.dvd.mul_right (by exact_mod_cast hd) _
  exact (dvd_iff_dvd_of_dvd_sub h).symm

/-- Counted from the group's origin, the index is that of the first instant not earlier than the bound (R70, R72). -/
theorem firstIndex_eq (hp : 1 ≤ period) (hd : 1 ≤ d) (hdvd : d ∣ 720720) (hn : number = n % 720720) (hlo : 0 ≤ n + lo)
    (hk : FirstInstant (origin + phase) (d * period) bound k) (hkd : n + lo ≤ (k * d : Nat)) :
    firstIndex number period d phase (ceilUs bound - (origin + n * period : Nat)) lo = k * d - n := by
  obtain ⟨hreach, hfirst⟩ := hk
  have hspan : ∀ m : Nat, ((m * (d * period) : Nat) : Int) = (m * d - n) * period + (n * period : Nat) := fun m => by
    push_cast
    ring
  apply le_antisymm
  · refine firstIndex_le hp (by omega) ?_ ((dvd_mod_add_iff hdvd hn _).mpr ⟨k, by ring⟩)
    have hreach := (ceilUs_le_iff _ _).mpr hreach
    have hspan := hspan k
    omega
  · obtain ⟨hlow, hx, hdiv⟩ := firstIndex_legal (number := number) (phase := phase)
      (x := ceilUs bound - (origin + n * period : Nat)) (lo := lo) hp hd
    generalize firstIndex number period d phase (ceilUs bound - (origin + n * period : Nat)) lo = i at *
    obtain ⟨c, hc⟩ := (dvd_mod_add_iff hdvd hn _).mp hdiv
    have hc0 : 0 ≤ c := nonneg_of_mul_nonneg_right (a := (d : Int)) (by omega) (by omega)
    obtain ⟨m, rfl⟩ := Int.eq_ofNat_of_zero_le hc0
    rw [Int.mul_comm] at hc
    have hlate : bound ≤ 32 * (origin + phase + m * (d * period)) := by
      have hspan := hspan m
      rw [show ((m : Int) * d - n) = i by omega] at hspan
      rw [← ceilUs_le_iff]
      omega
    have hkm : k ≤ m := not_lt.mp fun hmk => by have := hfirst m hmk; omega
    have := Int.mul_le_mul_of_nonneg_right (Int.ofNat_le.mpr hkm) (Int.natCast_nonneg d)
    omega

/-- A bound 64 µs from now leaves no instant of the schedule before the last beat (R72). -/
theorem FirstInstant.le_beat (hk : FirstInstant (origin + phase) (d * period) bound k) (hphase : phase < period)
    (hbound : 32 * (s.micros + 64) ≤ bound) (hbeat : origin + n * period ≤ s.micros + period) : n ≤ k * d + 1 := by
  obtain ⟨hreach, -⟩ := hk
  by_contra hlt
  have h := Nat.mul_le_mul_right period (show k * d + 2 ≤ n by omega)
  have hspan : (k * d + 2) * period = k * (d * period) + 2 * period := by ring
  omega

/-- In a RUNNING group the first start is the first instant of the member's schedule not earlier than the bound (R70, R72). -/
theorem firstStart_eq (hb : (s.group g).running = some b) (hperiod : 1 ≤ (s.group g).period) (hd : 1 ≤ d)
    (hdvd : d ∣ 720720) (hnext : s.timeOf b.next = 32 * (origin + n * (s.group g).period))
    (hnumber : (s.group g).beatNumber = n % 720720) (hfresh : b.fresh = true ↔ n = 0)
    (hk : FirstInstant (origin + phase) (d * (s.group g).period) bound k) (hkd : n ≤ k * d + 1) :
    (s.firstStart g d phase bound).map (·.1) = some (BitVec.ofNat 32 (origin + phase + k * (d * (s.group g).period))) := by
  obtain ⟨hlow, hbeat⟩ : (0 : Int) ≤ n + (if b.fresh = true then 0 else -1) ∧ n +
      (if b.fresh = true then 0 else -1) ≤ ((k * d : Nat) : Int) := by
    split
    · rename_i h
      have := hfresh.mp h
      omega
    · rename_i h
      have := mt hfresh.mpr h
      omega
  have hindex := firstIndex_eq hperiod hd hdvd hnumber hlow hk hbeat
  have hus : s.timeOf b.next / Config.unitsPerUs = origin + n * (s.group g).period := by
    rw [hnext]
    exact Nat.mul_div_cancel_left _ (by decide)
  simp only [State.firstStart, hb, Option.map_some, hus, hindex]
  congr 1
  rw [← BitVec.ofInt_natCast]
  congr 1
  push_cast
  ring

end Sys2Proof.Machine
end

section
/-! PROOFS. CYCLE_START within its take (R66, R70 to R73, R79 to R81). -/

namespace Sys2Proof.Machine

/- Each proof waits for the kernel; checked one after another, they need no more threads than the rest of the package. -/
set_option Elab.async false

variable {p : PortId} {s t : State} {u : Setup} {e : OrtEntry} {k : Byte} {r : ReqRecord} {g : GroupId}
  {d phase id : Nat} {l : Link}

/-! ### The join of a group (R66) -/

/-- A group that has no member of the port holds it, no longer tentative, once the join is confirmed. -/
theorem join_confirmed (h : ∀ m ∈ (s.group g).members, m.port ≠ p) (d phase : Nat) :
    ((s.join g p d phase).confirmJoin g p).group g = { s.group g with
      members := (s.group g).members ++ [{ port := p, divisor := d, phase := phase, tentative := false }] } := by
  have hmap : (s.group g).members.map (fun m => if m.port = p then { m with tentative := false } else m) =
      (s.group g).members := List.map_congr_left (fun m hm => if_neg (h m hm)) |>.trans (List.map_id _)
  simp [State.join, State.confirmJoin, hmap]

theorem join_confirmed_ne {h : GroupId} (hne : h ≠ g) (d phase : Nat) :
    ((s.join g p d phase).confirmJoin g p).group h = s.group h := by
  rw [State.confirmJoin, State.group_modGroup_ne _ hne, State.join, State.group_modGroup_ne _ hne]

theorem join_confirmed_port (s : State) (g : GroupId) (d phase : Nat) (q : PortId) :
    ((s.join g p d phase).confirmJoin g p).port q = s.port q := rfl

theorem join_withdrawn (h : ∀ m ∈ (s.group g).members, m.port ≠ p) (d phase : Nat) :
    GroupsKept s ((s.join g p d phase).withdrawJoin g p) := fun i => by
  have hfilter : (s.group g).members.filter (fun m => !decide (m.port = p)) = (s.group g).members :=
    List.filter_eq_self.mpr fun m hm => by simpa using h m hm
  by_cases hi : i = g
  · subst hi
    simp [State.join, State.withdrawJoin, hfilter]
  · rw [State.withdrawJoin, State.group_modGroup_ne _ hi, State.join, State.group_modGroup_ne _ hi]

theorem join_period (s : State) (g : GroupId) (p : PortId) (d phase : Nat) :
    ((s.join g p d phase).group g).period = (s.group g).period := by
  simp [State.join]

/-- A first start rests on the beats of the group and the time. -/
theorem firstStart_congr (hg : (t.group g).running = (s.group g).running ∧ (t.group g).period = (s.group g).period ∧
    (t.group g).beatNumber = (s.group g).beatNumber) (ht : t.time = s.time) (d phase bound : Nat) :
    t.firstStart g d phase bound = s.firstStart g d phase bound := by
  obtain ⟨hrunning, hperiod, hnumber⟩ := hg
  unfold State.firstStart State.timeOf State.timebase State.micros
  rw [hrunning, hperiod, hnumber, ht]

/-- A first start right after a take is that of the state before it, its bound the statement's. -/
theorem routed_firstStart (s : State) (u : Setup) (e : OrtEntry) (k : Byte) (r : ReqRecord) (g : GroupId) (d phase : Nat)
    (p : PortId) :
    (s.routed u e k r).firstStart g d phase ((s.routed u e k r).startBound ((s.routed u e k r).lineFree p)) =
      s.firstStart g d phase (max (s.lineFree p) (32 * (s.micros + 64))) := by
  have hbound : s.startBound (s.lineFree p) = max (s.lineFree p) (32 * (s.micros + 64)) := by
    unfold State.startBound
    rw [usUnits, Nat.mul_comm]
    rfl
  rw [← hbound]
  exact firstStart_congr ⟨rfl, rfl, rfl⟩ rfl d phase _

/-! ### The tests of a CYCLE_START (R79) -/

theorem checkCycleStart_divisor (hc : checkCycleStart r = none) (hg : cycleGroup r = some g) :
    1 ≤ cycleDivisor r ∧ cycleDivisor r ≤ 16 := by
  have hgroup : (recOctet r 4 == 0xFF#8) = false := by
    unfold cycleGroup at hg
    split at hg <;> simp_all
  have h : inRange (cycleDivisor r) 1 16 = true := by
    unfold checkCycleStart firstFailure at hc
    simp only [Option.map_eq_none_iff, List.find?_eq_none, hgroup] at hc
    simpa using hc _ (List.mem_cons_of_mem _ (List.mem_cons_of_mem _ (List.mem_cons_self)))
  simpa [inRange] using h

theorem phase_lt_of_cycleStartFailure {x : Port} {period n : Nat} (h : cycleStartFailure x l n (phase < period) = none) :
    phase < period := by
  unfold cycleStartFailure firstFailure at h
  simp only [Option.map_eq_none_iff, List.find?_eq_none] at h
  simpa using h _ (List.mem_cons_of_mem _ (List.mem_cons_self))

/-- The numbers a group's divisor divides the number at which its beats count anew (R70). -/
theorem divisor_dvd (hpos : 1 ≤ d) (hle : d ≤ 16) : d ∣ 720720 := by
  interval_cases d <;> decide

theorem startCycling_of_not_ready (hst : (s.port (targetPort r)).state ≠ .ready) (id : Nat) :
    s.startCycling r id = s.handOver id .badPortState 0 := by
  unfold State.startCycling
  dsimp only
  split
  · contradiction
  · rfl

section
variable (hst : (s.port (targetPort r)).state = .ready) (hl : (s.port (targetPort r)).link = some l)

include hst hl

theorem startCycling_of_occupied (hs : (s.port (targetPort r)).slot.isSome = true) (id : Nat) :
    s.startCycling r id = s.handOver id .busy 0 := by
  simp only [State.startCycling, hst, hl, hs, if_true]

variable (hs : ¬ (s.port (targetPort r)).slot.isSome = true)

include hs

theorem startCycling_of_free_refused {st : Status} (hg : cycleGroup r = none)
    (h : cycleStartFailure (s.port (targetPort r)) l (cycleFreePeriod r) true = some st) (id : Nat) :
    s.startCycling r id = s.handOver id st 0 := by
  simp only [State.startCycling, hst, hl, hs, hg, h, Bool.false_eq_true, if_false]

theorem startCycling_of_free (hg : cycleGroup r = none)
    (h : cycleStartFailure (s.port (targetPort r)) l (cycleFreePeriod r) true = none) (id : Nat) :
    s.startCycling r id = s.arm (targetPort r) id
      { kind := .free, period := cycleFreePeriod r, delivered := false
        next := some (freeStart (max (usUnits (s.micros + 100))
          (s.lineFree (targetPort r) + usUnits Config.samplingLead))) } := by
  simp only [State.startCycling, hst, hl, hs, hg, h, Bool.false_eq_true, if_false]

theorem startCycling_of_grouped_refused {st : Status} (hg : cycleGroup r = some g)
    (h : cycleStartFailure (s.port (targetPort r)) l (cycleDivisor r * (s.group g).period)
      (cyclePhase r < (s.group g).period) = some st) (id : Nat) :
    s.startCycling r id =
      ((s.join g (targetPort r) (cycleDivisor r) (cyclePhase r)).withdrawJoin g (targetPort r)).handOver id st 0 := by
  simp only [State.startCycling, hst, hl, hs, hg, join_period, h, Bool.false_eq_true, if_false]

theorem startCycling_of_grouped (hg : cycleGroup r = some g) (hm : ∀ m ∈ (s.group g).members, m.port ≠ targetPort r)
    (h : cycleStartFailure (s.port (targetPort r)) l (cycleDivisor r * (s.group g).period)
      (cyclePhase r < (s.group g).period) = none) (id : Nat) :
    s.startCycling r id =
      ((s.join g (targetPort r) (cycleDivisor r) (cyclePhase r)).confirmJoin g (targetPort r)).arm (targetPort r) id
        { kind := .grouped g (cycleDivisor r) (cyclePhase r), period := cycleDivisor r * (s.group g).period
          delivered := false
          next := (s.firstStart g (cycleDivisor r) (cyclePhase r) (s.startBound (s.lineFree (targetPort r)))).map (·.1) } := by
  have hfirst := firstStart_congr (s := s) (g := g)
    (t := (s.join g (targetPort r) (cycleDivisor r) (cyclePhase r)).confirmJoin g (targetPort r))
    (by rw [join_confirmed hm]; exact ⟨rfl, rfl, rfl⟩) rfl (cycleDivisor r) (cyclePhase r)
    (s.startBound (s.lineFree (targetPort r)))
  rw [← hfirst]
  simp only [State.startCycling, hst, hl, hs, hg, join_period, h, Bool.false_eq_true, if_false]
  rfl

end

/-- The port armed: the slot, the schedule entry, ARMED, no accepted sample; the entry waits (R81). -/
theorem arm_port (s : State) (p : PortId) (id : Nat) (k : Sched) :
    (s.arm p id k).port p = { s.port p with
      slot := some (.cycleStart, id), sched := some k, state := .armed
      cyc := { (s.port p).cyc with lastGen := none, lastData := none } } := by
  rw [State.arm, State.port_setOrtState, State.port_modPort_self]

theorem arm_group (s : State) (p : PortId) (id : Nat) (k : Sched) (g : GroupId) : (s.arm p id k).group g = s.group g := rfl

/-- A start armed at the port of a take: its entry waits, the port is armed, nothing is reported (R81). -/
theorem arm_armed (hf : s.Fetched u e) (hn : s.TableSound e) (hort : t.ort = (s.routed u e k r).ort)
    (hcpl : t.cpl = s.cpl) (hport : t.port p = s.port p) (c : Sched) :
    (t.arm p e.id c).entryState e.id = some .waiting ∧ (t.arm p e.id c).cpl = s.cpl ∧
      (t.arm p e.id c).port p = { s.port p with
        slot := some (.cycleStart, e.id), sched := some c, state := .armed
        cyc := { (s.port p).cyc with lastGen := none, lastData := none } } := by
  refine ⟨(entryState_congr ?_ e.id).trans (routed_entryState (p := p) (k := k) (r := r) hf hn id), hcpl, ?_⟩
  · rw [State.arm, setOrtState_ort, setOrtState_ort, State.modPort_ort, State.modPort_ort, hort]
  · rw [arm_port, hport]

/-- Settles O18. -/
theorem cycleStartArmsThePort : Obligations.CycleStartArmsThePort := by
  intro r u e s hc hf hn hx
  refine completes_of_take (act := State.startCycling r) rfl hc hf hx ?_
  obtain ⟨hcontrol, hothers⟩ := (startCycling_at r e.id (s.routed u e kindCycleStart r)).taken
  refine ⟨hcontrol, hothers, ?_⟩
  have hrefused : ∀ st, GroupsKept s ((s.routed u e kindCycleStart r).handOver e.id st 0) ∧
      ((s.routed u e kindCycleStart r).handOver e.id st 0).port (targetPort r) = s.port (targetPort r) ∧
      Reported s ((s.routed u e kindCycleStart r).handOver e.id st 0) e kindCycleStart r st 0 :=
    fun st => ⟨handOver_groupsKept rfl _ _ _, handOver_port _ _ _ _ _, routed_reported s u e _ r _ _ hf hn⟩
  by_cases hst : (s.port (targetPort r)).state = .ready
  · rw [if_neg (not_not.mpr hst)]
    intro l hl
    by_cases hs : (s.port (targetPort r)).slot.isSome = true
    · rw [if_pos hs, startCycling_of_occupied (s := s.routed u e kindCycleStart r) hst hl hs]
      exact hrefused _
    · rw [if_neg hs]
      intro hmembers
      cases hg : cycleGroup r with
      | none =>
        cases hfail : cycleStartFailure (s.port (targetPort r)) l (cycleFreePeriod r) true with
        | some st =>
          rw [startCycling_of_free_refused (s := s.routed u e kindCycleStart r) hst hl hs hg hfail]
          exact hrefused _
        | none =>
          rw [startCycling_of_free (s := s.routed u e kindCycleStart r) hst hl hs hg hfail]
          exact ⟨fun _ => rfl, arm_armed (k := kindCycleStart) (r := r) hf hn rfl rfl rfl _⟩
      | some g =>
        dsimp only
        cases hfail : cycleStartFailure (s.port (targetPort r)) l (cycleDivisor r * (s.group g).period)
            (cyclePhase r < (s.group g).period) with
        | some st =>
          rw [startCycling_of_grouped_refused (s := s.routed u e kindCycleStart r) hst hl hs hg hfail]
          refine ⟨fun h => (handOver_group _ _ _ _ h).trans (join_withdrawn (s := s.routed u e kindCycleStart r)
            (hmembers g) _ _ h), handOver_port _ _ _ _ _, ?_⟩
          exact handOver_done (s := (((s.routed u e kindCycleStart r).join g (targetPort r) (cycleDivisor r)
            (cyclePhase r)).withdrawJoin g (targetPort r))) st 0 (routed_find s u e _ r hf hn) (by simp)
        | none =>
          rw [startCycling_of_grouped (s := s.routed u e kindCycleStart r) hst hl hs hg (hmembers g) hfail,
            routed_firstStart]
          obtain ⟨hpos, hle⟩ := checkCycleStart_divisor hc hg
          refine ⟨fun h hne => ?_, ?_, ?_, fun hnone => ?_, fun b origin n k hb hperiod hnext hnumber hfresh hbeat hk => ?_⟩
          · rw [arm_group]
            exact join_confirmed_ne hne _ _
          · rw [arm_group]
            exact join_confirmed (s := s.routed u e kindCycleStart r) (hmembers g) _ _
          · exact arm_armed (k := kindCycleStart) (r := r) hf hn rfl rfl rfl _
          · rw [State.firstStart, hnone]
            rfl
          · exact firstStart_eq hb hperiod hpos (divisor_dvd hpos hle) hnext hnumber hfresh hk
              (hk.le_beat (phase_lt_of_cycleStartFailure hfail) (le_max_right _ _) hbeat)
  · rw [if_pos hst, startCycling_of_not_ready (s := s.routed u e kindCycleStart r) hst]
    exact hrefused _

end Sys2Proof.Machine
end

section
/-! PROOFS. BRING_UP at its port: the sequence it starts and the fate of the active transfer (R24, R25, R43, R117, R120). -/

namespace Sys2Proof.Machine

/- Each proof waits for the kernel; checked one after another, they need no more threads than the rest of the package. -/
set_option Elab.async false

variable {p : PortId} {s t u : State} {e w : OrtEntry} {b : Transfer} {k : Byte} {r : ReqRecord} {id i : Nat} {x : Port}

/-! ### An entry that other hand-overs leave alone (R131, R139) -/

theorem setOrtState_entryState_ne (h : i ≠ id) (s : State) (st : OrtState) :
    (s.setOrtState i st).entryState id = s.entryState id := by
  rw [State.entryState, ortFind_map (moved_id i st) (setOrtState_ort s i st), State.entryState]
  cases hf : s.ortFind id with
  | none => rfl
  | some x =>
    have hx : x.id = id := by simpa using List.find?_some hf
    simp [OrtEntry.moved, hx, h.symm]

theorem complete_entryState_ne (h : i ≠ id) (s : State) (st : Status) (v : Word) :
    (s.complete i st v).entryState id = s.entryState id := by
  unfold State.complete
  split
  · rfl
  · split
    · rfl
    · exact setOrtState_entryState_ne h s .done

theorem counted_entryState (s : State) (i id : Nat) : (s.counted i).entryState id = s.entryState id := by
  rw [State.entryState, ortFind_map (g := fun e => { e with awaited := e.awaited.filter (· ≠ i) }) (fun _ => rfl) rfl,
    Option.map_map]
  rfl

/-- The hand-over of another request leaves an entry that waits for nothing as it is. -/
theorem handOver_entryState_ne (h : i ≠ id) (hw : ∀ x ∈ s.ort, x.id = id → x.st ≠ .waiting) (st : Status) (v : Word) :
    (s.handOver i st v).entryState id = s.entryState id := by
  have hfold : ∀ (l : List OrtEntry) (u : State), (∀ x ∈ l, x.id ≠ id) →
      (l.foldl State.completeAbort u).entryState id = u.entryState id := by
    intro l
    induction l with
    | nil => exact fun _ _ => rfl
    | cons x l ih =>
      intro u hl
      rw [List.foldl_cons, ih _ fun y hy => hl y (List.mem_cons_of_mem x hy)]
      exact complete_entryState_ne (hl x List.mem_cons_self) u _ _
  rw [handOver_eq_foldl, hfold, counted_entryState, complete_entryState_ne h]
  intro x hx hid
  obtain ⟨hmem, hset⟩ := List.mem_filter.mp hx
  simp only [Bool.and_eq_true, decide_eq_true_eq] at hset
  exact hw x hmem hid hset.1.1

/-! ### The active transfer at a BRING_UP (R43, R117, R120) -/

/-- Its fate at a BRING_UP, as the state has it. -/
def State.bringUpFate (s : State) (p : PortId) : Fate := (s.port p).te.fate (s.flightOf Access.transferPort p) true false

/-- No access of the port in flight: nothing to give up. -/
theorem disown_of_not_flightOf (h : s.flightOf Access.transferPort p = false) : s.disown Access.transferPort p = s := by
  have hflight : (s.bus.flight.map fun f => if f.access.transferPort = some p then { f with live := false } else f) =
      s.bus.flight := by
    cases hf : s.bus.flight with
    | none => rfl
    | some f =>
      refine congrArg some ?_
      dsimp only
      split
      · rename_i ha
        have hlive : f.live = false := by simpa [State.flightOf, hf, ha] using h
        rw [← hlive]
      · rfl
  unfold State.disown State.modBus
  dsimp only
  rw [hflight]

/-- A BRING_UP does to the active transfer what its fate says, and in each case its access is given up. -/
theorem stopActive_of_bringUpFate (s : State) (p : PortId) :
    match s.bringUpFate p with
    | .kept => s.stopActive p true false = s.returnActive p
    | .handed st v => s.stopActive p true false = (s.disown Access.transferPort p).endActive p st v
    | .waits e => s.stopActive p true false = s.deferActive p e := by
  unfold State.bringUpFate TransferEngine.fate State.stopActive State.endTransfer TransferEngine.abandonedAs
  dsimp only
  cases hc : (s.port p).te.cause with
  | some c =>
    by_cases hx : (s.port p).te.phase = .abandonExchange
    · simp [hx, abandonResult]
    · simp [hx, abandonResult, State.endAbandoned, hc]
  | none =>
    cases hs : (s.port p).te.sent <;> cases hf : s.flightOf Access.transferPort p <;>
      simp [disown_of_not_flightOf, hf]

/-- With no transfer active at most an access is given up. -/
theorem bringUp_stopActive_of_none (h : (s.port p).te.transfer = none) :
    s.stopActive p true false = s ∨ s.stopActive p true false = s.disown Access.transferPort p := by
  have hs := stopActive_of_bringUpFate s p
  cases hf : s.bringUpFate p with
  | kept =>
    rw [hf] at hs
    exact .inl (hs.trans (returnActive_of_none h))
  | handed st v =>
    rw [hf] at hs
    exact .inr (hs.trans (endActive_of_none (by rwa [State.port_disown]) st v))
  | waits e =>
    rw [hf] at hs
    exact .inl (hs.trans (deferActive_of_none h e))

/-- The port after a BRING_UP has met the active transfer. -/
theorem bringUp_stopActive_port (h : (s.port p).te.transfer = some b) :
    (s.stopActive p true false).port p = (s.port p).transferOver ((s.bringUpFate p).queue b (s.port p).queue) := by
  have hs := stopActive_of_bringUpFate s p
  cases hf : s.bringUpFate p with
  | kept =>
    rw [hf] at hs
    rw [hs, returnActive_port h]
    rfl
  | handed st v =>
    rw [hf] at hs
    rw [hs, endActive_port (by rwa [State.port_disown]), State.port_disown]
    rfl
  | waits e =>
    rw [hf] at hs
    rw [hs, deferActive_port h]
    rfl

theorem bringUp_stopActive_hands (h : (s.port p).te.transfer = some b) (hw : w.id = b.ort) (hp : s.Pends w) :
    Hands s (s.stopActive p true false) ((s.bringUpFate p).handedNow w) := by
  have hs := stopActive_of_bringUpFate s p
  cases hf : s.bringUpFate p with
  | kept =>
    rw [hf] at hs
    rw [hs]
    exact returnActive_hands s p
  | handed st v =>
    rw [hf] at hs
    rw [hs]
    have hend := endActive_hands (s := s.disown Access.transferPort p) (p := p) (by rwa [State.port_disown]) hw
      (pends_congr rfl hp) st v
    have hdisown : Hands s (s.disown Access.transferPort p) [] := .of_eq rfl rfl rfl
    exact hdisown.nil_trans hend
  | waits e =>
    rw [hf] at hs
    rw [hs]
    exact deferActive_hands s p e

theorem bringUp_stopActive_queued (h : (s.port p).te.transfer = some b) (hw : w.id = b.ort) (hp : s.Pends w)
    (hk : s.bringUpFate p = .kept) : (s.stopActive p true false).entryState w.id = some .queued := by
  have hs := stopActive_of_bringUpFate s p
  rw [hk] at hs
  rw [hs, State.returnActive, h]
  dsimp only
  rw [← hw]
  exact setOrtState_entryState (s := s.clearTransfer p) (pends_congr rfl hp)

/-- In the queue that it leaves, a transfer that waits carries its ending. -/
theorem mem_waits_ending {c : Transfer} {e : Ending} {l : List Transfer} (hc : c ∈ (Fate.waits e).queue b l)
    (hb : c.ort = b.ort) : c.ending = some e := by
  obtain ⟨a, -, rfl⟩ := List.mem_map.mp hc
  by_cases ha : a.ort = b.ort
  · rw [if_pos ha]
  · rw [if_neg ha] at hb
    exact absurd hb ha

/-- In each case the access of the port in flight is given up. -/
theorem bringUp_stopActive_flight {f : BusFlight} (h : (s.port p).te.transfer = some b) (hf : s.bus.flight = some f)
    (ha : f.access.transferPort = some p) : (s.stopActive p true false).bus.flight = some { f with live := false } := by
  have hs := stopActive_of_bringUpFate s p
  cases hfate : s.bringUpFate p with
  | kept =>
    rw [hfate] at hs
    rw [hs]
    simp [State.returnActive, h, State.clearTransfer, State.disown, State.modBus, hf, ha]
  | handed st v =>
    rw [hfate] at hs
    rw [hs, State.endActive, State.port_disown, h]
    dsimp only
    rw [handOver_bus]
    simp [State.clearTransfer, State.disown, State.modBus, hf, ha]
  | waits e =>
    rw [hfate] at hs
    rw [hs, deferActive_flight h hf ha]

/-- The entry of another request stays where it waits for nothing. -/
theorem bringUp_stopActive_entryState (h : (s.port p).te.transfer.map (·.ort) ≠ some id)
    (hw : ∀ x ∈ s.ort, x.id = id → x.st ≠ .waiting) :
    (s.stopActive p true false).entryState id = s.entryState id := by
  cases ht : (s.port p).te.transfer with
  | none =>
    obtain hs | hs := bringUp_stopActive_of_none ht
    · rw [hs]
    · rw [hs]
      rfl
  | some b =>
    have hb : b.ort ≠ id := by
      rw [ht] at h
      simpa using h
    have hs := stopActive_of_bringUpFate s p
    cases hfate : s.bringUpFate p with
    | kept =>
      rw [hfate] at hs
      rw [hs, State.returnActive, ht]
      exact (setOrtState_entryState_ne hb (s.clearTransfer p) .queued)
    | handed st v =>
      rw [hfate] at hs
      rw [hs, State.endActive, State.port_disown, ht]
      dsimp only
      rw [handOver_entryState_ne hb]
      · rfl
      · exact hw
    | waits e =>
      rw [hfate] at hs
      rw [hs, State.deferActive, ht]
      rfl

/-! ### An access given up (R43, R120, R164) -/

theorem any_not_onExchange : (fun b : Transfer => b.ending.any fun d => !d.onExchange) = Transfer.due false := by
  funext b
  unfold Transfer.due
  cases b.ending <;> simp

/-- The end of an access given up leaves the port as it is where nothing waits for it and no claim stands but reports. -/
theorem accessDropped_of
    (hb : ∀ f, s.bus.flight = some f → f.access.transferPort = some p → t.bus.flight = some { f with live := false })
    (hc : ∀ c ∈ (t.port p).xclaims, c.isReport = true) : AccessDropped p s t := by
  intro f hf ha
  have hflight := hb f hf ha
  refine ⟨hflight, fun hd hdue i hi => ⟨_, exec_of_dropped hflight ha hi, ?_⟩⟩
  rw [any_not_onExchange] at hdue
  have hreclaimed : (t.port p).reclaimed = t.port p := by
    have hreports : (t.port p).xclaims.filter (·.isReport) = (t.port p).xclaims := List.filter_eq_self.mpr hc
    have hothers : (t.port p).xclaims.filter (!·.isReport) = [] :=
      List.filter_eq_nil_iff.mpr fun c hm => by simp [hc c hm]
    unfold Port.reclaimed
    rw [hreports, hothers, List.append_nil]
  have hstay : (t.port p).queue.filter (fun b => !b.due false) = (t.port p).queue :=
    List.filter_eq_self.mpr fun b hm => by simpa using List.filter_eq_nil_iff.mp hdue b hm
  have hport : (t.endFlight.withPort p (t.endFlight.port p).reclaimed).port p = t.port p := by
    rw [port_withPort]
    exact hreclaimed
  rw [formerEnded_eq (s := t.endFlight) hd, handEnded_of_nil (by rw [hport]; exact hdue)]
  refine ⟨?_, rfl, rfl⟩
  rw [State.port_modPort_self, State.port_modPort_self, hport, hstay, ← hd]

/-! ### BRING_UP (R24, R25, R43) -/

/-- The control slot entered, the port in BRINGUP, its misses cleared (R43). -/
def Port.bringingUp (x : Port) (id : Nat) : Port :=
  { x with slot := some (.bringUp, id), state := .bringup, counters := { x.counters with misses := 0 } }

def State.slotTaken (p : PortId) (id : Nat) (s : State) : State :=
  (s.modPort p fun x => x.bringingUp id).setOrtState id .active

/-- A BRING_UP accepted, the transfer active in READY stopped. -/
def State.bringUp (p : PortId) (id : Nat) (s : State) : State :=
  State.startSequence p .bringUp (if (s.port p).state = .ready then (s.slotTaken p id).stopActive p true false
    else s.slotTaken p id)

theorem bringUpPort_taken (h : (s.port (targetPort r)).state = .idle ∨ (s.port (targetPort r)).state = .ready)
    (hs : (s.port (targetPort r)).slot = none) (id : Nat) : s.bringUpPort r id = s.bringUp (targetPort r) id := by
  simp only [State.bringUpPort, Bool.or_eq_true, decide_eq_true_eq, if_pos h, hs, Option.isSome_none, Bool.false_eq_true,
    if_false]
  rfl

theorem bringUpPort_busy (h : (s.port (targetPort r)).state = .idle ∨ (s.port (targetPort r)).state = .ready)
    (hs : (s.port (targetPort r)).slot ≠ none) (id : Nat) : s.bringUpPort r id = s.handOver id .busy 0 := by
  simp only [State.bringUpPort, Bool.or_eq_true, decide_eq_true_eq, if_pos h, Option.isSome_iff_ne_none.mpr hs, if_true]

theorem bringUpPort_refused (h : ¬ ((s.port (targetPort r)).state = .idle ∨ (s.port (targetPort r)).state = .ready))
    (id : Nat) : s.bringUpPort r id = s.handOver id .badPortState 0 := by
  simp only [State.bringUpPort, Bool.or_eq_true, decide_eq_true_eq, if_neg h]
  rfl

theorem slotTaken_port (s : State) (p : PortId) (id : Nat) : (s.slotTaken p id).port p = (s.port p).bringingUp id := by
  rw [State.slotTaken, State.port_setOrtState, State.port_modPort_self]

theorem slotTaken_hands (s : State) (p : PortId) (id : Nat) : Hands s (s.slotTaken p id) [] := by
  have h : Hands s (s.modPort p fun x => x.bringingUp id) [] := .of_eq rfl rfl rfl
  exact h.trans_nil (setOrtState_hands (by decide) _ id)

/-- The entry of the BRING_UP is ACTIVE, and nothing at its place waits. -/
theorem slotTaken_not_waiting (s : State) (p : PortId) (id : Nat) :
    ∀ x ∈ (s.slotTaken p id).ort, x.id = id → x.st ≠ .waiting := by
  intro x hx hid
  rw [State.slotTaken, setOrtState_ort] at hx
  obtain ⟨y, -, rfl⟩ := List.mem_map.mp hx
  rw [moved_id] at hid
  subst hid
  by_cases hd : y.st = .done
  · rw [moved_done hd, hd]
    decide
  · rw [moved_open hd]
    exact OrtState.noConfusion

theorem slotTaken_entryState (h : s.ortFind id = some e) (hd : e.st ≠ .done) (p : PortId) :
    (s.slotTaken p id).entryState id = some .active := by
  have hid : e.id = id := by simpa using List.find?_some h
  subst hid
  have hfind : (s.modPort p fun x => x.bringingUp e.id).ortFind e.id = some e := h
  rw [State.slotTaken, State.entryState, ortFind_map (moved_id e.id .active) (setOrtState_ort _ e.id .active), hfind,
    Option.map_some, moved_open hd, Option.map_some]

theorem slotTaken_bringUpFate (s : State) (p : PortId) (id : Nat) : (s.slotTaken p id).bringUpFate p = s.bringUpFate p := by
  have hte : ((s.slotTaken p id).port p).te = (s.port p).te := by rw [slotTaken_port]; rfl
  unfold State.bringUpFate
  rw [hte]
  rfl

/-- With no transfer to stop, the sequence starts at the port entered. -/
theorem bringUp_unserved (h : (s.port p).state ≠ .ready ∨ (s.port p).te.transfer = none) (id : Nat) :
    ∃ v : State, s.bringUp p id = v.startSequence p .bringUp ∧ v.port p = (s.port p).bringingUp id ∧ v.cpl = s.cpl ∧
      v.ort = (s.slotTaken p id).ort := by
  unfold State.bringUp
  by_cases hr : (s.port p).state = .ready
  · have ht : ((s.slotTaken p id).port p).te.transfer = none := by
      rw [slotTaken_port]
      exact h.resolve_left (not_not.mpr hr)
    rw [if_pos hr]
    refine ⟨_, rfl, ?_⟩
    obtain hs | hs := bringUp_stopActive_of_none ht
    · rw [hs]
      exact ⟨slotTaken_port s p id, rfl, rfl⟩
    · rw [hs]
      exact ⟨slotTaken_port s p id, rfl, rfl⟩
  · rw [if_neg hr]
    exact ⟨_, rfl, slotTaken_port s p id, rfl, rfl⟩

theorem bringUp_lists (s : State) (p : PortId) (id : Nat) : ListsKept s (s.bringUp p id) := by
  have h : ListsKept s (s.slotTaken p id) := setOrtState_lists (modPort_lists (.refl s) _) _ _
  have hs : ListsKept s (if (s.port p).state = .ready then (s.slotTaken p id).stopActive p true false
      else s.slotTaken p id) := ite_lists (stopActive_lists h true false) h
  exact ⟨hs.groups, hs.events⟩

/-- The state a BRING_UP acts on at its port: as `s`, its own entry there to be moved, what else was open still open. -/
structure BringUpFrom (p : PortId) (id : Nat) (x : Port) (s u : State) : Prop where
  port : u.port p = x
  cpl : u.cpl = s.cpl
  inFlight : u.flightOf Access.transferPort p = s.flightOf Access.transferPort p
  flight : ∀ f, s.bus.flight = some f → f.access.transferPort = some p → u.bus.flight = some f
  place : ∃ e, u.ortFind id = some e ∧ e.st ≠ .done
  pends : ∀ w, w.id ≠ id → s.Open [w] → u.Pends w

theorem bringUp_bringUpTaken (h : BringUpFrom p id x s u) (ht : x.te.transfer.map (·.ort) ≠ some id)
    (hst : x.state = .idle ∨ x.state = .ready) : BringUpTaken p id x s (u.bringUp p id) := by
  obtain ⟨rfl, hcpl, hin, hflight, ⟨e, he, hd⟩, hpends⟩ := h
  have hevents : (u.bringUp p id).cpl.events = s.cpl.events := by rw [(bringUp_lists u p id).events, hcpl]
  by_cases hserved : (u.port p).state ≠ .ready ∨ (u.port p).te.transfer = none
  · obtain ⟨v, hv, hport, hvcpl, hort⟩ := bringUp_unserved hserved id
    rw [hv] at hevents ⊢
    have hentry : (v.startSequence p .bringUp).entryState id = some .active :=
      (entryState_congr (s := u.slotTaken p id) hort id).trans (slotTaken_entryState he hd p)
    refine ⟨hentry, hevents, ?_, fun _ => ?_, fun b w hr hb => ?_⟩
    · rw [startSequence_port, hport]
      rfl
    · rw [startSequence_port, hport]
      exact ⟨rfl, rfl, rfl, hvcpl.trans hcpl⟩
    · exact absurd hserved (by simp [hr, hb])
  · obtain ⟨hr, hb⟩ := not_or.mp hserved
    rw [not_not] at hr
    obtain ⟨b, hb⟩ := Option.ne_none_iff_exists'.mp hb
    have hv : u.bringUp p id = ((u.slotTaken p id).stopActive p true false).startSequence p .bringUp := by
      rw [State.bringUp, if_pos hr]
    have hvb : ((u.slotTaken p id).port p).te.transfer = some b := by rw [slotTaken_port]; exact hb
    have hfate : (u.slotTaken p id).bringUpFate p = (u.port p).te.fate (s.flightOf Access.transferPort p) true false := by
      rw [slotTaken_bringUpFate, State.bringUpFate, hin]
    have hport := bringUp_stopActive_port hvb
    have hvhands := fun w (hw : w.id = b.ort) (hp : (u.slotTaken p id).Pends w) => bringUp_stopActive_hands hvb hw hp
    have hvflight := fun f (hf : s.bus.flight = some f) ha =>
      bringUp_stopActive_flight (f := f) hvb (hflight f hf ha) ha
    have hentry := (bringUp_stopActive_entryState (id := id) (by rw [hvb, ← hb]; exact ht)
      (slotTaken_not_waiting u p id)).trans (slotTaken_entryState he hd p)
    have hqueued := fun w (hw : w.id = b.ort) (hp : (u.slotTaken p id).Pends w) => bringUp_stopActive_queued hvb hw hp
    rw [hv] at hevents ⊢
    rw [hfate] at hvhands hport hqueued
    rw [slotTaken_port] at hport
    generalize (u.slotTaken p id).stopActive p true false = v at *
    refine ⟨hentry, hevents, ?_, fun h => ?_, fun b' w _ hb' hw ho => ?_⟩
    · rw [startSequence_port, hport]
      rfl
    · exact absurd h (by simp [hr, hb])
    · obtain rfl : b = b' := Option.some.inj (hb.symm.trans hb')
      have hne : w.id ≠ id := fun hi => ht (by rw [hb, Option.map_some, ← hw, hi])
      have hp : (u.slotTaken p id).Pends w := (slotTaken_hands u p id).pends w (hpends w hne ho) (by simp)
      rw [startSequence_port, hport]
      refine ⟨rfl, rfl, rfl, ?_, fun hk => ?_, fun _ => ?_, fun e he hon => ?_⟩
      · exact (hvhands w hw hp).inOrder_of (congrArg (·.done) hcpl)
      · exact hqueued w hw hp hk
      · refine accessDropped_of hvflight fun c hc => ?_
        rw [startSequence_port, hport] at hc
        exact (List.mem_filter.mp hc).2
      · refine handedAtAccessEnd_of hon hvflight (fun c hc hcw => ?_) ((hvhands w hw hp).pends w hp ?_)
        · rw [startSequence_port, hport, he] at hc
          exact mem_waits_ending hc (hcw.trans hw)
        · rw [he]
          simp [Fate.handedNow]

/-! ### The two ways of a request to its port (R127, R134, R135) -/

theorem step_portArrival (hp : s.pending = []) (hd : s.dueStep = some (.portArrival p)) :
    step s = .next (s.chosen.portArrival p) := by
  simp only [step, hp, idleStep, hd]

/-- The oldest arrival has left the port's inbox. -/
def State.inboxLeft (p : PortId) (rest : List Arrival) (s : State) : State := s.modPort p fun x => { x with inbox := rest }

theorem inboxLeft_port (s : State) (p : PortId) (rest : List Arrival) :
    (s.inboxLeft p rest).port p = { s.port p with inbox := rest } := State.port_modPort_self s p _

theorem inboxLeft_at (s : State) (p : PortId) (rest : List Arrival) : At p s (s.inboxLeft p rest) :=
  modPort_at (.refl p s) _

theorem At.onlyPort_after (h : At p s t) (k : At p t u) : OnlyPort p s u :=
  ⟨k.control.trans h.control, fun q hq => (k.others q hq).trans (h.others q hq)⟩

theorem portArrival_request {rest : List Arrival} (h : (s.port p).inbox = .request id k r :: rest) :
    s.portArrival p = (s.inboxLeft p rest).requestArrives k r id := by
  simp only [State.portArrival, h]
  rfl

theorem requestArrives_bringUp (s : State) (r : ReqRecord) (id : Nat) :
    s.requestArrives kindBringUp r id = s.bringUpPort r id := rfl

theorem requestArrives_portDisable (s : State) (r : ReqRecord) (id : Nat) :
    s.requestArrives kindPortDisable r id = s.disablePort r id := rfl

/-- The access in flight at a take is its own fetch. -/
theorem fetched_transferPort {v : Setup} {f : BusFlight} (hf : s.Fetched v e) (h : s.bus.flight = some f) :
    f.access.transferPort = none := by
  obtain ⟨hfly, -⟩ := hf
  unfold State.fetchFlying at hfly
  rw [h] at hfly
  obtain ⟨a, live, wanted⟩ := f
  cases a <;> simp_all [Access.transferPort]

theorem fetched_not_flightOf {v : Setup} (hf : s.Fetched v e) (p : PortId) : s.flightOf Access.transferPort p = false := by
  unfold State.flightOf
  split
  · rename_i f h
    rw [fetched_transferPort hf h]
    simp
  · rfl

/-- A BRING_UP at its take. -/
theorem bringUpFrom_routed {v : Setup} (hf : s.Fetched v e) (hn : s.TableSound e) (p : PortId) (k : Byte) (r : ReqRecord) :
    BringUpFrom p e.id (s.port p) s (s.routed v e k r) where
  port := rfl
  cpl := rfl
  inFlight := (fetched_not_flightOf hf p).symm
  flight f h ha := by
    rw [fetched_transferPort hf h] at ha
    cases ha
  place := ⟨_, routed_find s v e k r hf hn, by simp⟩
  pends w hne ho := routed_pends_ne (ho.pends (List.mem_singleton_self w)) hne

/-- A BRING_UP that its port takes from its arrivals. -/
theorem bringUpFrom_inboxLeft (hf : s.ortFind id = some e) (hd : e.st ≠ .done) (p : PortId) (rest : List Arrival) :
    BringUpFrom p id { s.port p with inbox := rest } s (s.chosen.inboxLeft p rest) where
  port := inboxLeft_port s.chosen p rest
  cpl := rfl
  inFlight := rfl
  flight _ h _ := h
  place := ⟨e, hf, hd⟩
  pends w _ ho := pends_congr rfl (ho.pends (List.mem_singleton_self w))

/-- Settles O17. -/
theorem bringUpStartsASequence : Obligations.BringUpStartsASequence := by
  intro p r s htarget
  subst htarget
  refine ⟨fun u e hc hf hn hx ht => ?_, fun d rest hpend hdue hbox hfind hd ht hst hslot => ?_⟩
  · refine completes_of_take (act := State.bringUpPort r) rfl hc hf hx ?_
    obtain ⟨hcontrol, hothers⟩ := (bringUpPort_at r e.id (s.routed u e kindBringUp r)).taken
    refine ⟨hcontrol, hothers, ?_⟩
    have hrefused : ∀ st, ((s.routed u e kindBringUp r).handOver e.id st 0).port (targetPort r) = s.port (targetPort r) ∧
        Reported s ((s.routed u e kindBringUp r).handOver e.id st 0) e kindBringUp r st 0 :=
      fun st => ⟨handOver_port _ _ _ _ _, routed_reported s u e _ r _ _ hf hn⟩
    by_cases hst : (s.port (targetPort r)).state = .idle ∨ (s.port (targetPort r)).state = .ready
    · rw [if_pos hst]
      by_cases hs : (s.port (targetPort r)).slot = none
      · rw [if_pos hs, bringUpPort_taken (s := s.routed u e kindBringUp r) hst hs]
        have hkept := (bringUp_lists (s.routed u e kindBringUp r) (targetPort r) e.id).groupsKept
        exact ⟨hkept, bringUp_bringUpTaken (bringUpFrom_routed hf hn _ _ _) ht hst⟩
      · rw [if_neg hs, bringUpPort_busy (s := s.routed u e kindBringUp r) hst hs]
        exact ⟨handOver_groupsKept rfl _ _ _, hrefused _⟩
    · rw [if_neg hst, bringUpPort_refused (s := s.routed u e kindBringUp r) hst]
      exact ⟨handOver_groupsKept rfl _ _ _, hrefused _⟩
  · have harrives : s.chosen.portArrival (targetPort r) =
        (s.chosen.inboxLeft (targetPort r) rest).bringUp (targetPort r) d.id := by
      rw [portArrival_request (s := s.chosen) hbox, requestArrives_bringUp, bringUpPort_taken]
      · rwa [inboxLeft_port]
      · rwa [inboxLeft_port]
    refine ⟨_, (step_portArrival hpend hdue).trans (congrArg _ harrives), ?_, ?_, ?_⟩
    · rw [← harrives, portArrival_request (s := s.chosen) hbox]
      exact (inboxLeft_at s.chosen _ rest).onlyPort_after (bringUpPort_at r d.id _)
    · have hkept := (bringUp_lists (s.chosen.inboxLeft (targetPort r) rest) (targetPort r) d.id).groupsKept
      exact hkept
    · exact bringUp_bringUpTaken (bringUpFrom_inboxLeft hfind hd _ rest) ht hst

end Sys2Proof.Machine
end

section
/-! PROOFS. PORT_DISABLE at its port, and what it leaves to the end of an access (R22, R29 to R31). -/

namespace Sys2Proof.Machine

/- Each proof waits for the kernel; checked one after another, they need no more threads than the rest of the package. -/
set_option Elab.async false

variable {p : PortId} {s t : State} {u : Setup} {e w d : OrtEntry} {b : Transfer} {r : ReqRecord} {id n : Nat}
  {f : BusFlight} {x : Port}

/-! ### The port out of service (R29, R30) -/

/-- A port that a PORT_DISABLE has cleared, `queue` and `queries` awaiting their accesses and `waits` these ends. -/
def Port.turnedOff (x : Port) (queue : List Transfer) (queries : List Query) (waits : List DisableWait) : Port := { x with
  state := .disabled, link := none, slot := none, queue := queue, sched := none, resume := false, stopPending := false
  faultCause := none, counters := Counters.reset, lf := Framer.reset, cyc := CycleEngine.reset
  te := TransferEngine.reset, queries := queries, disables := waits, xclaims := [], blank := none
  seq := x.seq.ended }

/-- The port cleared, its requests handed over but for those that await an access. -/
def State.turnOff (p : PortId) (s : State) : State :=
  (((s.leave p).endRequests p .portDisabled).stopSequence p).modPort p Port.disabled

theorem leave_awaitsAccess (s : State) (p : PortId) : (s.leave p).awaitsAccess p = s.awaitsAccess p :=
  awaitsAccess_congr rfl (by rw [leave_port])

theorem turnOff_port (s : State) (p : PortId) : (s.turnOff p).port p = (s.port p).turnedOff
    (((s.port p).queue.filter (s.awaitsAccess p)).map (Transfer.endedWith .portDisabled))
    ((s.port p).queries.filter fun q => !(s.port p).reportClaims.contains q.ort) (s.port p).disables := by
  rw [State.turnOff, State.port_modPort_self, stopSequence_port, endRequests_port, leave_port, leave_awaitsAccess]
  rfl

theorem turnOff_groupsLeft (s : State) (p : PortId) : GroupsLeft p s (s.turnOff p) := by
  have h := (leave_groupsLeft s p).of_groups (endRequests_lists (s.leave p) p .portDisabled).groups
  unfold State.turnOff
  generalize (s.leave p).endRequests p .portDisabled = v at h ⊢
  exact h.of_groups rfl

theorem turnOff_events (s : State) (p : PortId) : (s.turnOff p).cpl.events = s.cpl.events :=
  (endRequests_lists (s.leave p) p .portDisabled).events

theorem turnOff_hands {ended : List OrtEntry} (he : ended.map (·.id) = (s.port p).endedIds (s.awaitsAccess p))
    (hn : (ended.map (·.id)).Nodup) (hp : ∀ w ∈ ended, s.Pends w) :
    Hands s (s.turnOff p) (ended.map fun w => (w, .portDisabled, 0)) := by
  have hleave : Hands s (s.leave p) [] := .of_eq rfl rfl rfl
  have hids : ended.map (·.id) = ((s.leave p).port p).endedIds ((s.leave p).awaitsAccess p) := by
    rw [he, leave_awaitsAccess, leave_port]
    rfl
  have h := hleave.nil_trans (endRequests_hands hids hn (fun w hw => pends_congr rfl (hp w hw)) .portDisabled)
  unfold State.turnOff
  generalize (s.leave p).endRequests p .portDisabled = v at h ⊢
  exact h.trans_nil (.of_eq rfl rfl rfl)

theorem turnOff_flight (hf : s.bus.flight = some f) (ha : f.access.transferPort = some p) :
    (s.turnOff p).bus.flight = some { f with live := false } :=
  endRequests_flight (s := s.leave p) hf ha .portDisabled

/-- Nothing awaits an access: the PORT_DISABLE is handed over at once with its count (R31). -/
theorem disablePort_at_once (hp : targetPort r = p) (hq : ((s.turnOff p).port p).queue = [])
    (hr : ((s.turnOff p).port p).queries = []) (hd : ((s.turnOff p).port p).disables = []) (id : Nat) :
    s.disablePort r id = (s.turnOff p).handOver id .ok (BitVec.ofNat 32 (s.port p).outstanding) := by
  subst hp
  unfold State.disablePort
  dsimp only
  change (if ((s.turnOff _).port _).queue.isEmpty && ((s.turnOff _).port _).queries.isEmpty &&
    ((s.turnOff _).port _).disables.isEmpty then _ else _) = _
  rw [hq, hr, hd]
  rfl

/-- A PORT_DISABLE that waits for the ends of accesses (R31). -/
def State.disableWaits (p : PortId) (id n : Nat) (s : State) : State :=
  (s.modPort p fun x => { x with disables := x.disables ++ [{ ort := id, count := n }] }).setOrtState id .waiting

theorem disablePort_waits (hp : targetPort r = p)
    (hq : ((s.turnOff p).port p).queue ≠ [] ∨ ((s.turnOff p).port p).queries ≠ []) (id : Nat) :
    s.disablePort r id = (s.turnOff p).disableWaits p id (s.port p).outstanding := by
  subst hp
  have hne : ¬ (((s.turnOff (targetPort r)).port (targetPort r)).queue.isEmpty &&
      ((s.turnOff (targetPort r)).port (targetPort r)).queries.isEmpty &&
      ((s.turnOff (targetPort r)).port (targetPort r)).disables.isEmpty) = true := by
    simp only [Bool.and_eq_true, List.isEmpty_iff]
    tauto
  unfold State.disablePort
  dsimp only
  exact if_neg hne

/-! ### What awaits an access (R30) -/

/-- A transfer awaits no access where it is not the active one with an access in flight and has not ended. -/
theorem awaitsAccess_eq_false {c : Transfer} (hc : ∀ d, c.ending = some d → d.onExchange = true)
    (h : s.flightOf Access.transferPort p = false ∨ (s.port p).te.transfer.map (·.ort) ≠ some c.ort) :
    s.awaitsAccess p c = false := by
  unfold State.awaitsAccess
  cases he : c.ending with
  | some d => simp [hc d he]
  | none => obtain h | h := h <;> simp [h]

theorem awaitsAccess_active (hb : b.ending = none) (hf : s.flightOf Access.transferPort p = true)
    (ht : (s.port p).te.transfer = some b) : s.awaitsAccess p b = true := by
  simp [State.awaitsAccess, hb, hf, ht]

/-- Every query has its report claimed and not granted: none stays. -/
theorem queries_claimed (l : List Query) : (l.filter fun q => !(l.map (·.ort)).contains q.ort) = [] :=
  List.filter_eq_nil_iff.mpr fun q hq => by simpa using ⟨q, hq, rfl⟩

theorem outstanding_eq_length (h : x.disables = []) : x.outstanding = x.requestIds.length := by
  unfold Port.outstanding Port.requestIds
  cases x.slot with
  | none => simp [h]
  | some v =>
    simp [h]
    omega

/-- With no access in flight, every request of the port is handed over at once. -/
theorem endedIds_none_awaits {awaits : Transfer → Bool} (h : ∀ b ∈ x.queue, awaits b = false)
    (hc : x.reportClaims = x.queries.map (·.ort)) (hd : x.disables = []) : x.endedIds awaits = x.requestIds := by
  have hall : x.queue.filter (fun b => !awaits b) = x.queue := List.filter_eq_self.mpr fun b hb => by simp [h b hb]
  simp [Port.endedIds, Port.requestIds, hall, hc, hd]

theorem turnOff_port_none_awaits (h : ∀ b ∈ (s.port p).queue, s.awaitsAccess p b = false)
    (hc : (s.port p).reportClaims = (s.port p).queries.map (·.ort)) (hd : (s.port p).disables = []) :
    (s.turnOff p).port p = (s.port p).turnedOff [] [] [] := by
  rw [turnOff_port, List.filter_eq_nil_iff.mpr fun b hb => by simp [h b hb], hc, queries_claimed, hd]
  rfl

/-- The active transfer whose access is in flight stays for its end (R30). -/
theorem turnOff_active {more : List Transfer} (hq : (s.port p).queue = b :: more) (hb : b.ending = none)
    (hf : s.flightOf Access.transferPort p = true) (ht : (s.port p).te.transfer = some b)
    (hends : ∀ c ∈ more, ∀ d, c.ending = some d → d.onExchange = true) (hne : ∀ c ∈ more, c.ort ≠ b.ort)
    (hc : (s.port p).reportClaims = (s.port p).queries.map (·.ort)) (hd : (s.port p).disables = []) :
    (s.turnOff p).port p = (s.port p).turnedOff
      [{ b with ending := some { status := .portDisabled, result := 0, onExchange := false } }] [] [] ∧
    (s.port p).endedIds (s.awaitsAccess p) =
      ((s.port p).slot.map (·.2)).toList ++ more.map (·.ort) ++ (s.port p).queries.map (·.ort) := by
  have hactive := awaitsAccess_active hb hf ht
  have hmore : ∀ c ∈ more, s.awaitsAccess p c = false := fun c hm =>
    awaitsAccess_eq_false (hends c hm) (.inr (by rw [ht]; simpa using (hne c hm).symm))
  have hstays : (b :: more).filter (s.awaitsAccess p) = [b] := by
    rw [List.filter_cons_of_pos hactive, List.filter_eq_nil_iff.mpr fun c hm => by simp [hmore c hm]]
  have hgoes : (b :: more).filter (fun c => !s.awaitsAccess p c) = more := by
    rw [List.filter_cons_of_neg (by simp [hactive]), List.filter_eq_self.mpr fun c hm => by simp [hmore c hm]]
  constructor
  · rw [turnOff_port, hq, hstays, hc, queries_claimed, hd]
    simp [Transfer.endedWith, hb]
  · rw [Port.endedIds, hq, hgoes, hc]

/-- The query whose report write has been granted stays for its end (R30). -/
theorem turnOff_granted {q : Query} {claimed : List Query} (hq : (s.port p).queries = q :: claimed)
    (hf : s.flightOf Access.transferPort p = false)
    (hends : ∀ c ∈ (s.port p).queue, ∀ d, c.ending = some d → d.onExchange = true) (hne : ∀ c ∈ claimed, c.ort ≠ q.ort)
    (hc : (s.port p).reportClaims = claimed.map (·.ort)) (hd : (s.port p).disables = []) :
    (s.turnOff p).port p = (s.port p).turnedOff [] [q] [] ∧
    (s.port p).endedIds (s.awaitsAccess p) =
      ((s.port p).slot.map (·.2)).toList ++ (s.port p).queue.map (·.ort) ++ claimed.map (·.ort) := by
  have hnone : ∀ c ∈ (s.port p).queue, s.awaitsAccess p c = false := fun c hm => awaitsAccess_eq_false (hends c hm) (.inl hf)
  have hgoes : (s.port p).queue.filter (fun c => !s.awaitsAccess p c) = (s.port p).queue :=
    List.filter_eq_self.mpr fun c hm => by simp [hnone c hm]
  have hgranted : (!(claimed.map (·.ort)).contains q.ort) = true := by
    simpa using fun c hm => hne c hm
  have hstays : ((q :: claimed).filter fun c => !(claimed.map (·.ort)).contains c.ort) = [q] := by
    rw [List.filter_cons, if_pos hgranted, queries_claimed]
  constructor
  · rw [turnOff_port, List.filter_eq_nil_iff.mpr fun c hm => by simp [hnone c hm], hq, hc, hstays, hd]
    rfl
  · rw [Port.endedIds, hgoes, hc]

/-- The access `f` in flight is that of the transfer, or of the query, with table entry `i`: it stays, as `stay` or `held`
tells, before the other transfers `more` and queries `claimed` of the port (R30). -/
def HoldsAccess (p : PortId) (x : Port) (f : BusFlight) (i : Nat) (more stay : List Transfer) (claimed held : List Query) :
    Prop :=
  (∃ b, f.access.transferPort = some p ∧ x.te.transfer = some b ∧ b.ort = i ∧ b.ending = none ∧ x.queue = b :: more ∧
      stay = [{ b with ending := some { status := .portDisabled, result := 0, onExchange := false } }] ∧
      x.queries = claimed ∧ held = []) ∨
    ∃ q a l, f.access = .reportWrite p i a l ∧ q.ort = i ∧ x.queries = q :: claimed ∧ held = [q] ∧ x.queue = more ∧ stay = []

/-- The table entries of the requests that do not stay. -/
def Port.leftIds (x : Port) (more : List Transfer) (claimed : List Query) : List Nat :=
  (x.slot.map (·.2)).toList ++ more.map (·.ort) ++ claimed.map (·.ort)

theorem turnOff_holdsAccess {i : Nat} {more stay : List Transfer} {claimed held : List Query}
    (h : HoldsAccess p (s.port p) f i more stay claimed held) (hf : s.bus.flight = some f) (hlive : f.live = true)
    (hends : ∀ c ∈ (s.port p).queue, ∀ d, c.ending = some d → d.onExchange = true)
    (hc : (s.port p).reportClaims = claimed.map (·.ort)) (hd : (s.port p).disables = [])
    (hi : i ∉ (s.port p).leftIds more claimed) :
    (s.turnOff p).port p = (s.port p).turnedOff stay held [] ∧
      (s.port p).endedIds (s.awaitsAccess p) = (s.port p).leftIds more claimed ∧ (stay ≠ [] ∨ held ≠ []) ∧
      (s.port p).outstanding = ((s.port p).endedIds (s.awaitsAccess p)).length + 1 := by
  have hflightOf : s.flightOf Access.transferPort p = (f.access.transferPort == some p) := by
    simp [State.flightOf, hf, hlive]
  have hcount : ∀ l, l = (s.port p).leftIds more claimed → more.length + claimed.length + 1 =
      (s.port p).queue.length + (s.port p).queries.length → (s.port p).outstanding = l.length + 1 := fun l hl hn => by
    rw [outstanding_eq_length hd, hl]
    simp [Port.requestIds, Port.leftIds, hd]
    omega
  obtain ⟨b, ha, ht, rfl, hb, hq, rfl, rfl, rfl⟩ | ⟨q, a, l, ha, rfl, hq, rfl, rfl, rfl⟩ := h
  · have hmore : ∀ c ∈ more, c.ort ≠ b.ort := fun c hm he => hi
      (List.mem_append_left _ (List.mem_append_right _ (he ▸ List.mem_map_of_mem hm)))
    obtain ⟨hport, hids⟩ := turnOff_active hq hb (by rw [hflightOf, ha]; simp) ht
      (fun c hm => hends c (hq ▸ List.mem_cons_of_mem b hm)) hmore hc hd
    refine ⟨hport, hids, .inl (List.cons_ne_nil _ _), hcount _ hids ?_⟩
    rw [hq, List.length_cons]
    omega
  · have hclaimed : ∀ c ∈ claimed, c.ort ≠ q.ort := fun c hm he => hi (List.mem_append_right _ (he ▸ List.mem_map_of_mem hm))
    obtain ⟨hport, hids⟩ := turnOff_granted hq (by rw [hflightOf, ha]; rfl) hends hclaimed hc hd
    refine ⟨hport, hids, .inr (List.cons_ne_nil _ _), hcount _ hids ?_⟩
    rw [hq, List.length_cons]
    omega

/-- A PORT_DISABLE that finds no access of its port in flight: the requests are handed over, and it after them (R30, R31). -/
theorem disablePort_of_none_awaits {ended : List OrtEntry} (htarget : targetPort r = p)
    (h : ∀ b ∈ (s.port p).queue, s.awaitsAccess p b = false)
    (hc : (s.port p).reportClaims = (s.port p).queries.map (·.ort)) (hd : (s.port p).disables = [])
    (hids : ended.map (·.id) = (s.port p).requestIds) (hn : (ended.map (·.id)).Nodup) (hp : ∀ w ∈ ended, s.Pends w)
    (he : s.Pends e) (hne : ∀ w ∈ ended, w.id ≠ e.id) :
    (s.disablePort r e.id).port p = (s.port p).turnedOff [] [] [] ∧ GroupsLeft p s (s.disablePort r e.id) ∧
      (s.disablePort r e.id).cpl.events = s.cpl.events ∧
      Hands s (s.disablePort r e.id)
        ((ended.map fun w => (w, .portDisabled, 0)) ++ [(e, .ok, BitVec.ofNat 32 ended.length)]) := by
  have hport := turnOff_port_none_awaits h hc hd
  have hhands := turnOff_hands (hids.trans (endedIds_none_awaits h hc hd).symm) hn hp
  have hcount : (s.port p).outstanding = ended.length := by
    rw [outstanding_eq_length hd, ← hids, List.length_map]
  rw [disablePort_at_once htarget (by rw [hport]; rfl) (by rw [hport]; rfl) (by rw [hport]; rfl), hcount]
  refine ⟨(handOver_port _ _ _ _ _).trans hport, (turnOff_groupsLeft s p).of_groups (handOver_groups _ _ _ _),
    (handOver_events _ _ _ _).trans (turnOff_events s p), hhands.answered he (fun x hx => ?_) _ _⟩
  obtain ⟨w, hw, rfl⟩ := List.mem_map.mp hx
  exact hne w hw

/-- A PORT_DISABLE that finds an access of its port in flight waits for its end, `held` being what stays (R30, R31). -/
theorem disablePort_of_awaits {ended : List OrtEntry} {queue : List Transfer} {queries : List Query}
    (htarget : targetPort r = p) (hport : (s.turnOff p).port p = (s.port p).turnedOff queue queries [])
    (hstay : queue ≠ [] ∨ queries ≠ []) (hcount : (s.port p).outstanding = n)
    (hids : ended.map (·.id) = (s.port p).endedIds (s.awaitsAccess p)) (hn : (ended.map (·.id)).Nodup)
    (hp : ∀ w ∈ ended, s.Pends w) (he : s.Pends e) (hne : ∀ w ∈ ended, w.id ≠ e.id) :
    (s.disablePort r e.id).port p = (s.port p).turnedOff queue queries [{ ort := e.id, count := n }] ∧
      GroupsLeft p s (s.disablePort r e.id) ∧ (s.disablePort r e.id).entryState e.id = some .waiting ∧
      (s.disablePort r e.id).bus = (s.turnOff p).bus ∧
      Hands s (s.disablePort r e.id) (ended.map fun w => (w, .portDisabled, 0)) := by
  have hhands := turnOff_hands hids hn hp
  have hgroups := turnOff_groupsLeft s p
  have hpend : (s.turnOff p).Pends e := hhands.pends e he fun x hx => by
    obtain ⟨w, hw, rfl⟩ := List.mem_map.mp hx
    exact hne w hw
  rw [disablePort_waits htarget (by rw [hport]; exact hstay), hcount]
  generalize s.turnOff p = v at *
  have hw : Hands v (v.modPort p fun x => { x with disables := x.disables ++ [{ ort := e.id, count := n }] }) [] :=
    .of_eq rfl rfl rfl
  refine ⟨?_, hgroups.of_groups rfl, setOrtState_entryState (hw.pends e hpend (by simp)), rfl,
    hhands.trans_nil (hw.trans_nil (setOrtState_hands (by decide) _ _))⟩
  rw [State.disableWaits, State.port_setOrtState, State.port_modPort_self, hport]
  rfl

/-- The end of the access given up: the transfer that stayed is handed over, and the PORT_DISABLE after it (R31). -/
theorem turnedOff_accessEnds {i : Instr} {c : Transfer} (hport : s.port p = x.turnedOff [c] [] [{ ort := d.id, count := n }])
    (hc : c.ending = some { status := .portDisabled, result := 0, onExchange := false }) (hw : w.id = c.ort)
    (hf : s.bus.flight = some { f with live := false }) (ha : f.access.transferPort = some p) (hi : EndsAccess f.access i)
    (hp : s.Pends w) (hd : s.Pends d) (hne : w.id ≠ d.id) :
    Completes i s fun v => v.port p = x.turnedOff [] [] [] ∧
      HandedInOrder s v [(w, .portDisabled, 0), (d, .ok, BitVec.ofNat 32 n)] := by
  refine ⟨_, exec_of_dropped hf ha hi, ?_⟩
  have hdue : [c].filter (Transfer.due false) = [c] := by simp [Transfer.due, hc]
  change (State.accessEnded p (s.endFlight.withPort p (s.endFlight.port p).reclaimed)).port p = _ ∧
    HandedInOrder s (State.accessEnded p (s.endFlight.withPort p (s.endFlight.port p).reclaimed)) _
  generalize hv : s.endFlight.withPort p (s.endFlight.port p).reclaimed = v
  have hvp : v.port p = x.turnedOff [c] [] [{ ort := d.id, count := n }] := by
    rw [← hv, port_withPort, show s.endFlight.port p = s.port p from rfl, hport]
    rfl
  have hsv : Hands s v [] := by
    subst hv
    exact .of_eq rfl rfl rfl
  have hfirst : Hands v (v.handEnded p false) [(w, .portDisabled, 0)] :=
    handEnded_hands (by rw [hvp]; exact hdue) hc hw (hsv.pends w hp (by simp))
  have hall := accessEnded_hands_disable (d := d) (n := n) (by rw [hvp]; rfl) hfirst (hsv.pends d hd (by simp))
    (by simpa using hne)
  refine ⟨?_, (hsv.nil_trans hall).inOrder⟩
  have hgone : [c].filter (fun b => !b.due false) = [] := by simp [Transfer.due, hc]
  rw [accessEnded_port, hvp]
  change { x.turnedOff ([c].filter fun b => !b.due false) [] [] with disables := [] } = _
  rw [hgone]
  rfl

/-- Settles O16. -/
theorem portDisableClearsThePort : Obligations.PortDisableClearsThePort := by
  intro p r ended s htarget x off slot handed hdis hends
  refine ⟨fun u e hc hf hn hx hclaims hids hnodup ho hna => ?_, ?_⟩
  · subst htarget
    refine completes_of_take (act := State.disablePort r) rfl hc hf hx ?_
    obtain ⟨hcontrol, hothers⟩ := (disablePort_at r e.id (s.routed u e kindPortDisable r)).taken
    have hne : ∀ w ∈ ended, w.id ≠ e.id := fun w hw hwe =>
      (List.nodup_cons.mp hnodup).1 (hwe ▸ hids ▸ List.mem_map_of_mem hw)
    obtain ⟨hport, hgroups, hevents, hhands⟩ := disablePort_of_none_awaits (s := s.routed u e kindPortDisable r)
      (e := e.filled kindPortDisable r) rfl (fun b hb => awaitsAccess_eq_false (hends b hb) (.inl rfl)) hclaims hdis hids
      (hids ▸ hnodup.of_cons) (fun w hw => routed_pends_ne (ho.pends hw) (hne w hw)) (routed_pends hf hn hna) hne
    exact ⟨hcontrol, hothers, hgroups, hevents, hport, hhands.inOrder_of rfl,
      hhands.handed (e.filled kindPortDisable r, .ok, BitVec.ofNat 32 ended.length) (by simp),
      fun w hw => hhands.handed (w, .portDisabled, 0) (List.mem_append_left _ (List.mem_map_of_mem hw))⟩
  · intro f w d rest more stay claimed held hpend hdue hbox hflight hlive hcase hclaims hids hnodup ho
    have harrives : s.chosen.portArrival p = (s.chosen.inboxLeft p rest).disablePort r d.id := by
      rw [portArrival_request (s := s.chosen) hbox, requestArrives_portDisable]
    have hsp : (s.chosen.inboxLeft p rest).port p = { x with inbox := rest } := inboxLeft_port s.chosen p rest
    have honly := (inboxLeft_at s.chosen p rest).onlyPort_after (htarget ▸ disablePort_at r d.id (s.chosen.inboxLeft p rest))
    have hsu : Hands s (s.chosen.inboxLeft p rest) [] := .of_eq rfl rfl rfl
    have hbus : (s.chosen.inboxLeft p rest).bus = s.bus := rfl
    have hgroups : (s.chosen.inboxLeft p rest).groups = s.groups := rfl
    generalize s.chosen.inboxLeft p rest = u at *
    obtain ⟨hwd, hdn, hn⟩ : w.id ∉ d.id :: ended.map (·.id) ∧ d.id ∉ ended.map (·.id) ∧ (ended.map (·.id)).Nodup := by
      rw [List.map_cons, List.map_cons, List.nodup_cons, List.nodup_cons] at hnodup
      exact hnodup
    have hwid : w.id ∉ x.leftIds more claimed := fun h => hwd (List.mem_cons_of_mem _ (hids.symm ▸ h))
    obtain ⟨hport, hended, hstay, hcount⟩ := turnOff_holdsAccess (s := u) (p := p) (f := f) (i := w.id) (more := more)
      (stay := stay) (claimed := claimed) (held := held) (by rw [hsp]; exact hcase) (by rw [hbus, hflight]) hlive
      (by rw [hsp]; exact hends) (by rw [hsp]; exact hclaims) (by rw [hsp]; exact hdis)
      (by rw [hsp]; exact hwid)
    have hended : ended.map (·.id) = (u.port p).endedIds (u.awaitsAccess p) := by rw [hended, hsp]; exact hids
    rw [← hended, List.length_map] at hcount
    obtain ⟨hport, hgroupsLeft, hentry, hbus', hhands⟩ := disablePort_of_awaits htarget hport hstay hcount hended hn
      (fun v hv => hsu.pends v (ho.pends (by simp [hv])) (by simp)) (hsu.pends d (ho.pends (by simp)) (by simp))
      fun v hv he => hdn (he ▸ List.mem_map_of_mem hv)
    rw [hsp] at hport
    have hhands := hsu.nil_trans hhands
    have hpends : ∀ v ∈ w :: d :: ended, v.id ∉ ended.map (·.id) → (u.disablePort r d.id).Pends v := fun v hv hne =>
      hhands.pends v (ho.pends hv) fun y hy he => by
        obtain ⟨z, hz, rfl⟩ := List.mem_map.mp hy
        exact hne (he ▸ List.mem_map_of_mem hz)
    refine ⟨_, (step_portArrival hpend hdue).trans (congrArg _ harrives), harrives ▸ honly, hgroupsLeft.after hgroups,
      hhands.inOrder, hentry, hport, fun i hi => ?_⟩
    have hiends : EndsAccess f.access i ∧ f.access.transferPort = some p := by
      obtain ⟨a, m, v, ha, rfl⟩ | ⟨a, l, ok, ha, rfl⟩ := hi
      · exact ⟨.inl ⟨p, a, m, v, ha, rfl⟩, by rw [ha]; rfl⟩
      · exact ⟨.inr ⟨p, a, l, ok, ha, rfl⟩, by rw [ha]; rfl⟩
    obtain ⟨hi, ha⟩ := hiends
    obtain ⟨b, -, -, hbw, -, -, rfl, -, rfl⟩ | ⟨q, a, l, hreport, -⟩ := hcase
    · exact turnedOff_accessEnds hport rfl hbw.symm (by rw [hbus']; exact turnOff_flight (hbus ▸ hflight) ha) ha hi
        (hpends w (by simp) fun h => hwd (List.mem_cons_of_mem _ h)) (hpends d (by simp) hdn)
        fun he => hwd (he ▸ List.mem_cons_self)
    · rw [hreport] at ha
      cases ha

end Sys2Proof.Machine
end

section
/-! PROOFS. The invariants right after reset (R163). -/

namespace Sys2Proof.Machine

/- Each proof waits for the kernel; checked one after another, they need no more threads than the rest of the package. -/
set_option Elab.async false

theorem reset_port (q : PortId) : State.reset.port q = Port.resetWith false true := by
  simp [State.reset, State.port]

theorem reset_missesBelow : State.reset.MissesBelow := by
  intro q
  rw [reset_port]
  exact ⟨by decide, fun _ => rfl⟩

theorem reset_lineSafe : State.reset.LineSafe := by
  intro q _
  rw [reset_port]
  rfl

theorem reset_arrivalsValid : State.reset.ArrivalsValid := by
  rintro id k r (h | ⟨q, h⟩)
  · simp [State.reset] at h
  · rw [reset_port] at h
    simp [Port.resetWith] at h

/-- Nothing is outstanding, and no setup block is in force. -/
theorem reset_credit : State.reset.Credit :=
  ⟨by simp [State.reset], by simp [State.reset, CompletionWriter.reset, Bus.reset],
    by simp [State.reset, CompletionWriter.reset, Bus.reset], by decide, fun _ => ⟨rfl, rfl⟩, fun _ hu => nomatch hu⟩

/-- Settles O10. -/
theorem invariantsHoldAtReset : Obligations.InvariantsHoldAtReset :=
  ⟨⟨rfl, Nat.zero_le _⟩, reset_credit, List.Pairwise.nil, (fun _ hu => nomatch hu),
    ⟨fun _ => ⟨rfl, rfl, rfl, rfl⟩, fun _ => rfl⟩, reset_missesBelow, reset_arrivalsValid, reset_lineSafe⟩

end Sys2Proof.Machine
end

section
/-! PROOFS. An attempt and a backoff that expires (R44, R45, R49). -/

namespace Sys2Proof.Machine

/- Each proof waits for the kernel; checked one after another, they need no more threads than the rest of the package. -/
set_option Elab.async false

variable {p : PortId} {s s' : State}

/-- The speeds of a mask, fastest first, as the claims write them: eight masks (R44). -/
theorem maskLadder_eq_filterMap (m : BitVec 3) : maskLadder m =
    [(2, Speed.l3), (1, .l2), (0, .l1)].filterMap fun c => if m.getLsbD c.1 then some c.2 else none := by
  revert m
  decide

/-- The ladder of an attempt, as the claims tell it: that of the mask in BRING_UP, the kept speed in RECOVERY (R44). -/
theorem buildLadder_eq {ladder : List Speed}
    (hb : (s.port p).seq.mode = .bringUp → ladder = [(2, Speed.l3), (1, .l2), (0, .l1)].filterMap fun c =>
      if (s.port p).config.speedMask.getLsbD c.1 then some c.2 else none)
    (hr : (s.port p).seq.mode = .recovery → ∃ l, (s.port p).link = some l ∧ ladder = [l.speed]) :
    s.buildLadder p = ladder := by
  unfold State.buildLadder
  cases hm : (s.port p).seq.mode with
  | bringUp => exact (maskLadder_eq_filterMap _).trans (hb hm).symm
  | recovery =>
    obtain ⟨l, hl, rfl⟩ := hr hm
    simp [hl]

theorem attemptDue_eq (hp : (s.port p).seq.phase = .lineWait) (hs : (s.port p).seq.stopRequested = false)
    (hf : (s.port p).lf.state = .free) : s.attemptDue p = some s.time := by
  simp [State.attemptDue, State.nowIf, hp, hs, hf]

theorem backoffDue_eq {n : Nat} (hp : (s.port p).seq.phase = .backoff) (hb : (s.port p).seq.backoff = some n) :
    s.backoffDue p = some n := by
  simp [State.backoffDue, hp, hb]

/-- The port once an attempt has begun on its free line (R44, R45). -/
theorem beginAttempt_eq (hf : (s.port p).lf.state = .free) :
    s.beginAttempt p = s.withPort p { s.port p with
      seq := { (s.port p).seq with
        attempts := (s.port p).seq.attempts + 1, ladder := s.buildLadder p, rung := 1, phase := .wake }
      lf := { (s.port p).lf with
        state := .waiting, held := some (.pulse ((s.buildLadder p).getLastD .l1)), waitSince := s.time } } := by
  unfold State.beginAttempt State.modSeq
  simp only [modPort_eq_withPort, handToLine_withPort, Framer.taking, hf]
  rfl

/-- Settles O56. -/
theorem anAttemptHandsOverTheWakePulse : Obligations.AnAttemptHandsOverTheWakePulse := by
  intro p s x
  refine ⟨fun ladder hphase hstop hfree hbringUp hrecovery => ?_, fun n s' hphase hbackoff hreach => ?_⟩
  · change atInstant (s.attemptDue p) (State.beginAttempt p) s = _
    rw [attemptDue_eq hphase hstop hfree, atInstant_next _ (reaches_now (Nat.le_refl _)), beginAttempt_eq hfree,
      buildLadder_eq hbringUp hrecovery]
  · change atInstant (s.backoffDue p) _ s = _
    rw [backoffDue_eq hphase hbackoff, atInstant_next _ hreach, State.modSeq, modPort_eq_withPort, reaches_port hreach p]

end Sys2Proof.Machine
end

section
/-! PROOFS. The hand-over of a request for which an ABORT waits: the ABORT counts it, and follows its last match at once
(R131, R139, R148). -/

namespace Sys2Proof.Machine

/- Each proof waits for the kernel; checked one after another, they need no more threads than the rest of the package. -/
set_option Elab.async false

variable {p : PortId} {s t : State} {a m w : OrtEntry} {i id : Nat} {l l' : List (OrtEntry × Status × Word)}

/-! ### Completions -/

/-- A claim about hand-overs in order rests on what their records show, and not on the entries otherwise. -/
theorem HandedInOrder.of_completions (h : HandedInOrder s t l)
    (hl : (l'.map fun x => x.1.completion x.2.1 x.2.2) = l.map fun x => x.1.completion x.2.1 x.2.2) :
    HandedInOrder s t l' := by
  obtain ⟨n, hn⟩ := h
  refine ⟨n, hn.trans (congrArg _ (List.ext_getElem? fun i => ?_))⟩
  have hi := congrArg (fun cs => cs[i]?.map fun f => f (n + i)) hl
  simpa [List.getElem?_mapIdx, Function.comp_def] using hi.symm

/-! ### The table -/

theorem setOrtState_ortFind_ne (h : i ≠ id) (s : State) (st : OrtState) : (s.setOrtState i st).ortFind id = s.ortFind id := by
  rw [ortFind_map (moved_id i st) (setOrtState_ort s i st)]
  cases hf : s.ortFind id with
  | none => rfl
  | some x =>
    have hx : x.id = id := by simpa using List.find?_some hf
    rw [Option.map_some, moved_ne (hx.trans_ne h.symm)]

theorem complete_ortFind_ne (h : i ≠ id) (s : State) (st : Status) (v : Word) :
    (s.complete i st v).ortFind id = s.ortFind id := by
  unfold State.complete
  split
  · rfl
  · split
    · rfl
    · exact setOrtState_ortFind_ne h s .done

/-- An entry that counts the hand-over of the request at `id` (R139). -/
def OrtEntry.counting (id : Nat) (e : OrtEntry) : OrtEntry := { e with awaited := e.awaited.filter (· ≠ id) }

theorem counted_ort (s : State) (id : Nat) : (s.counted id).ort = s.ort.map (OrtEntry.counting id) := rfl

theorem counted_ortFind (s : State) (i id : Nat) : (s.counted i).ortFind id = (s.ortFind id).map (OrtEntry.counting i) :=
  ortFind_map (g := OrtEntry.counting i) (fun _ => rfl) (counted_ort s i) id

theorem counting_of_notMem (h : id ∉ w.awaited) : w.counting id = w := by
  have hf : w.awaited.filter (· ≠ id) = w.awaited :=
    List.filter_eq_self.mpr fun i hi => by
      have hne : i ≠ id := fun hn => h (hn ▸ hi)
      simpa using hne
  rw [OrtEntry.counting, hf]

theorem counted_notAwaited (s : State) (id : Nat) : (s.counted id).NotAwaited id := by
  intro e he hi
  obtain ⟨x, -, rfl⟩ := List.mem_map.mp he
  simpa using (List.mem_filter.mp hi).2

theorem complete_counted (s : State) (id : Nat) (st : Status) (v : Word) :
    (s.complete id st v).counted id = (s.counted id).complete id st v := by
  have hmoved : ∀ e : OrtEntry, (e.moved id .done).counting id = (e.counting id).moved id .done := fun e => by
    unfold OrtEntry.moved OrtEntry.counting
    by_cases hi : e.id = id <;> by_cases hd : e.st = .done <;> simp [hi, hd]
  have hort : ((s.setOrtState id .done).counted id).ort = ((s.counted id).setOrtState id .done).ort := by
    rw [counted_ort, setOrtState_ort, setOrtState_ort, counted_ort, List.map_map, List.map_map]
    exact List.map_congr_left fun e _ => hmoved e
  unfold State.complete
  rw [counted_ortFind]
  cases s.ortFind id with
  | none => rfl
  | some e =>
    by_cases hd : e.st = .done
    · simp [hd, OrtEntry.counting]
    · simp only [hd, OrtEntry.counting, Option.map_some, if_false]
      exact congrArg (fun o => { s with
        ort := o
        cpl := { s.cpl with done := s.cpl.done ++ [{ e.completion st v s.arrivals with ort := id }] }
        arrivals := s.arrivals + 1 }) hort

/-- A hand-over is that of a request for which no ABORT waits any more, and then the ABORTs that it settles follow. -/
theorem handOver_eq_counted (s : State) (id : Nat) (st : Status) (v : Word) : s.handOver id st v =
    (s.settledBy id).foldl State.completeAbort ((s.counted id).handOver id st v) := by
  have hn : ((s.counted id).complete id st v).NotAwaited id := by
    rw [← complete_counted]
    exact counted_notAwaited _ id
  rw [handOver_eq_foldl, handOver_eq_foldl, settledBy_eq_nil (counted_notAwaited s id), List.foldl_nil,
    counted_eq_self hn, complete_counted]

/-- A hand-over that settles no ABORT is counted at the other places of the table, and changes nothing else there. -/
theorem handOver_ortFind_ne (h : i ≠ id) (hs : s.settledBy i = []) (st : Status) (v : Word) :
    (s.handOver i st v).ortFind id = (s.ortFind id).map (OrtEntry.counting i) := by
  rw [handOver_eq_foldl, hs, List.foldl_nil, counted_ortFind, complete_ortFind_ne h]

/-- Each entry of the table after such a hand-over is one counted, and at another place nothing else has changed in it. -/
theorem handOver_mem_ort (hs : s.settledBy i = []) {st : Status} {v : Word} (hw : w ∈ (s.handOver i st v).ort) :
    ∃ x ∈ s.ort, w.awaited = (x.counting i).awaited ∧ (x.id ≠ i → w = x.counting i) := by
  have hcomplete : ∀ y ∈ (s.complete i st v).ort, ∃ x ∈ s.ort, y.awaited = x.awaited ∧ (x.id ≠ i → y = x) := by
    unfold State.complete
    split
    · exact fun y hy => ⟨y, hy, rfl, fun _ => rfl⟩
    · split
      · exact fun y hy => ⟨y, hy, rfl, fun _ => rfl⟩
      · intro y hy
        obtain ⟨x, hx, rfl⟩ := List.mem_map.mp hy
        exact ⟨x, hx, moved_awaited i .done x, fun hne => moved_ne hne⟩
  rw [handOver_eq_foldl, hs, List.foldl_nil, counted_ort] at hw
  obtain ⟨y, hy, rfl⟩ := List.mem_map.mp hw
  obtain ⟨x, hx, ha, hmoved⟩ := hcomplete y hy
  exact ⟨x, hx, by simp only [OrtEntry.counting, ha], fun hne => by rw [hmoved hne]⟩

/-- Hand-overs of entries that pend leave the other places of the table. -/
theorem handAll_ortFind_ne {l : List OrtEntry} (hn : (l.map (·.id)).Nodup) (hp : ∀ w ∈ l, s.Pends w)
    (hl : ∀ w ∈ l, w.id ≠ id) (st : Status) : (s.handAll (l.map (·.id)) st).ortFind id = s.ortFind id := by
  induction l generalizing s with
  | nil => rfl
  | cons w l ih =>
    have hw := hp w List.mem_cons_self
    obtain ⟨hne, hn⟩ := List.nodup_cons.mp hn
    have hpends : ∀ v ∈ l, (s.handOver w.id st 0).Pends v := fun v hv =>
      (handOver_hands hw st 0).pends v (hp v (List.mem_cons_of_mem _ hv)) fun x hx => by
        obtain rfl := List.mem_singleton.mp hx
        exact fun he => hne (List.mem_map.mpr ⟨v, hv, he.symm⟩)
    change ((s.handOver w.id st 0).handAll (l.map (·.id)) st).ortFind id = _
    rw [ih hn hpends fun v hv => hl v (List.mem_cons_of_mem _ hv), handOver_of_pends hw]
    exact setOrtState_ortFind_ne (hl w List.mem_cons_self) s .done

/-! ### An ABORT that a hand-over settles -/

theorem complete_of_done (h : s.entryState id = some .done) (st : Status) (v : Word) : s.complete id st v = s := by
  obtain ⟨e, he, hst⟩ := Option.map_eq_some_iff.mp h
  simp [State.complete, he, hst]

/-- The completion of an entry that stands in the table and is not DONE, whatever waits for it. -/
theorem complete_hands {x : OrtState} {b : List Nat} (h : s.ortFind w.id = some { w with st := x, awaited := b })
    (hx : x ≠ .done) (st : Status) (v : Word) : Hands s (s.complete w.id st v) [(w, st, v)] := by
  have hc : s.complete w.id st v = { s.setOrtState w.id .done with
      cpl := { s.cpl with done := s.cpl.done ++ [w.completion st v s.arrivals] }
      arrivals := s.arrivals + 1 } := by
    unfold State.complete
    rw [h]
    exact if_neg hx
  have hd : (s.setOrtState w.id .done).entryState w.id = some .done := by
    rw [State.entryState, ortFind_map (moved_id w.id .done) (setOrtState_ort s w.id .done), h, Option.map_some]
    exact congrArg (fun e => some (OrtEntry.st e)) (moved_open (e := { w with st := x, awaited := b }) hx)
  rw [hc]
  refine ⟨by simp, rfl, fun y hy hne => ?_, fun i hi => ?_, (setOrtState_doneKept s w.id .done).trans (.of_ort rfl),
    fun y hy => ?_⟩
  · exact pends_congr rfl (setOrtState_pends_ne (st := .done) (hne _ (List.mem_singleton_self _)) hy)
  · exact setOrtState_notAwaited w.id .done hi
  · obtain rfl := List.mem_singleton.mp hy
    exact hd

/-- An ABORT is handed over once, however often a list names it (R131). -/
theorem foldl_completeAbort_of_done {l : List OrtEntry} (h : ∀ w ∈ l, w = a) (hd : s.entryState a.id = some .done) :
    l.foldl State.completeAbort s = s := by
  induction l with
  | nil => rfl
  | cons w l ih =>
    obtain rfl := h w List.mem_cons_self
    rw [List.foldl_cons, State.completeAbort, complete_of_done hd, ih fun v hv => h v (List.mem_cons_of_mem _ hv)]

/-! ### One ABORT and one of its matches -/

/-- In the table of `s` the ABORT `a` waits for the entry `m`, which is not DONE. -/
structure State.AbortWaits (s : State) (a m : OrtEntry) : Prop where
  entry : s.ortFind m.id = some m
  notDone : m.st ≠ .done
  abort : s.ortFind a.id = some a
  waiting : a.st = .waiting
  awaits : m.id ∈ a.awaited
  apart : a.id ≠ m.id

theorem State.AbortWaits.of_ort (h : s.AbortWaits a m) (ht : t.ort = s.ort) : t.AbortWaits a m := by
  obtain ⟨h₁, h₂, h₃, h₄, h₅, h₆⟩ := h
  exact ⟨by rw [State.ortFind, ht]; exact h₁, h₂, by rw [State.ortFind, ht]; exact h₃, h₄, h₅, h₆⟩

/-- No entry of the table waits for the entry `id` but the ABORT `a`. -/
def State.OnlyAwaitedBy (s : State) (a : OrtEntry) (id : Nat) : Prop := ∀ w ∈ s.ort, id ∈ w.awaited → w = a

/-- What the ABORT `a` still waits for once the entry `id` has been handed over. -/
def OrtEntry.still (a : OrtEntry) (id : Nat) : List Nat := a.awaited.filter (· ≠ id)

/-- The answer of the ABORT `a` right after its match `id`: OK with its number, where that was the last (R139). -/
def OrtEntry.answer (a : OrtEntry) (id : Nat) : List (OrtEntry × Status × Word) :=
  if a.still id = [] then [(a, .ok, BitVec.ofNat 32 a.matched)] else []

theorem settledBy_of_still (ho : s.OnlyAwaitedBy a id) (hs : a.still id ≠ []) : s.settledBy id = [] := by
  refine List.filter_eq_nil_iff.mpr fun w hw hset => hs ?_
  simp only [Bool.and_eq_true, decide_eq_true_eq, List.contains_iff_mem, List.isEmpty_iff] at hset
  obtain ⟨⟨-, hmem⟩, hnil⟩ := hset
  rwa [ho w hw hmem] at hnil

theorem settledBy_of_last (h : s.AbortWaits a m) (ho : s.OnlyAwaitedBy a m.id) (hs : a.still m.id = []) :
    a ∈ s.settledBy m.id ∧ ∀ w ∈ s.settledBy m.id, w = a := by
  refine ⟨List.mem_filter.mpr ⟨List.mem_of_find?_eq_some h.abort, ?_⟩, fun w hw => ?_⟩
  · simp only [Bool.and_eq_true, decide_eq_true_eq, List.contains_iff_mem, List.isEmpty_iff]
    exact ⟨⟨h.waiting, h.awaits⟩, hs⟩
  · obtain ⟨hmem, hset⟩ := List.mem_filter.mp hw
    simp only [Bool.and_eq_true, List.contains_iff_mem] at hset
    exact ho w hmem hset.1.2

theorem counted_pends_entry (h : s.AbortWaits a m) (ho : s.OnlyAwaitedBy a m.id) : (s.counted m.id).Pends m := by
  refine ⟨⟨m.st, h.notDone, ?_⟩, counted_notAwaited s m.id⟩
  have hm : m.id ∉ m.awaited := fun hi =>
    h.apart (congrArg OrtEntry.id (ho m (List.mem_of_find?_eq_some h.entry) hi)).symm
  rw [counted_ortFind, h.entry, Option.map_some, counting_of_notMem hm]

/-- What pends, the ABORT apart, does so when the match is counted. -/
theorem counted_pends (ho : s.OnlyAwaitedBy a id) (hw : s.Pends w) (hne : w.id ≠ a.id) : (s.counted id).Pends w := by
  obtain ⟨⟨x, hx, hf⟩, hn⟩ := hw
  have hid : id ∉ w.awaited := fun hi => by
    have ha : { w with st := x } = a := ho _ (List.mem_of_find?_eq_some hf) hi
    subst ha
    exact hne rfl
  refine ⟨⟨x, hx, ?_⟩, notAwaited_map (fun e i hi => (List.mem_filter.mp hi).1) (counted_ort s id) hn⟩
  rw [counted_ortFind, hf, Option.map_some]
  exact congrArg some (counting_of_notMem (w := { w with st := x }) hid)

/-- The match is handed over and, where it was the last, its ABORT right after it (R139). -/
theorem handOver_hands_of_abortWaits (h : s.AbortWaits a m) (ho : s.OnlyAwaitedBy a m.id) (st : Status) (v : Word) :
    Hands (s.counted m.id) (s.handOver m.id st v) ((m, st, v) :: a.answer m.id) := by
  have hm := counted_pends_entry h ho
  have hands := handOver_hands hm st v
  rw [handOver_eq_counted, OrtEntry.answer]
  by_cases hs : a.still m.id = []
  · rw [if_pos hs]
    obtain ⟨hmem, hall⟩ := settledBy_of_last h ho hs
    obtain ⟨w, l, hl⟩ := List.exists_cons_of_ne_nil (List.ne_nil_of_mem hmem)
    rw [hl] at hall
    obtain rfl := hall w List.mem_cons_self
    have habort : ((s.counted m.id).handOver m.id st v).ortFind w.id = some { w with awaited := w.still m.id } := by
      rw [handOver_of_pends hm]
      refine (setOrtState_ortFind_ne h.apart.symm _ .done).trans ?_
      rw [counted_ortFind, h.abort]
      rfl
    have hanswer := complete_hands (w := w) (x := w.st) habort (by rw [h.waiting]; decide) .ok (BitVec.ofNat 32 w.matched)
    rw [hl, List.foldl_cons, State.completeAbort, foldl_completeAbort_of_done
      (fun y hy => hall y (List.mem_cons_of_mem _ hy)) (hanswer.handed _ (List.mem_singleton_self _))]
    exact hands.trans hanswer
  · rw [if_neg hs, settledBy_of_still ho hs]
    exact hands

/-- An ABORT that waits for more has counted the match. -/
theorem handOver_abort_still (h : s.AbortWaits a m) (ho : s.OnlyAwaitedBy a m.id) (hs : a.still m.id ≠ []) (st : Status)
    (v : Word) : (s.handOver m.id st v).ortFind a.id = some { a with awaited := a.still m.id } := by
  rw [handOver_ortFind_ne h.apart.symm (settledBy_of_still ho hs), h.abort]
  rfl

end Sys2Proof.Machine
end

section
/-! PROOFS. What an abort does at the port of the entry it aborts (R52, R87, R100, R118, R138). -/

namespace Sys2Proof.Machine

/- Each proof waits for the kernel; checked one after another, they need no more threads than the rest of the package. -/
set_option Elab.async false

variable {p : PortId} {s t u v : State} {a m w : OrtEntry} {i id other : Nat} {x y : Port} {f : Bool} {rest : List Arrival}

/-! ### The active transfer (R118) -/

/-- A transfer that an abort reaches is abandoned for it. -/
def TransferEngine.aborted (te : TransferEngine) : TransferEngine := { te with cause := some .aborted }

theorem abortActive_of_cause (h : (s.port p).te.cause.isSome = true) : s.abortActive p = s := if_pos h

/-- An abort that finds no cause set marks the transfer, and goes on by what is in flight and what has been sent. -/
theorem abortActive_of_none (hc : (s.port p).te.cause = none) : s.abortActive p =
    let marked := s.withPort p { s.port p with te := (s.port p).te.aborted }
    if s.flightOf Access.transferPort p = true ∨ (s.port p).te.phase = .exchange then marked
    else if (s.port p).te.sent = true then marked.abandonNow p
    else marked.endAbandoned p := by
  simp only [State.abortActive, hc, Option.isSome_none, Bool.false_eq_true, if_false, Bool.or_eq_true, decide_eq_true_eq]
  rfl

theorem abortActive_of_busy (hc : (s.port p).te.cause = none)
    (hb : s.flightOf Access.transferPort p = true ∨ (s.port p).te.phase = .exchange) :
    s.abortActive p = s.withPort p { s.port p with te := (s.port p).te.aborted } := by
  rw [abortActive_of_none hc]
  exact if_pos hb

/-- An active transfer whose cause is an abort, and that has sent nothing, is handed over, and leaves the queue. -/
theorem withPort_endAbandoned {b : Transfer} (hb : y.te.transfer = some b) (hc : y.te.cause = some .aborted) :
    (s.withPort p y).endAbandoned p =
      (s.withPort p (y.transferOver (y.queue.filter fun q => q.ort ≠ b.ort))).handOver b.ort .aborted 0 := by
  rw [endAbandoned_of (c := .aborted) (by rw [port_withPort]; exact hc), State.endActive, port_withPort, hb]
  simp only [State.clearTransfer, modPort_withPort, Port.transferOver]
  rfl

section idle

variable (hc : (s.port p).te.cause = none)
  (hb : ¬ (s.flightOf Access.transferPort p = true ∨ (s.port p).te.phase = .exchange))

include hc hb

theorem abortActive_of_sent (hs : (s.port p).te.sent = true) : s.abortActive p = s.withPort p { s.port p with
    te := (s.port p).te.aborted.abandoning, xclaims := (s.port p).xclaims.filter (·.isReport) } := by
  rw [abortActive_of_none hc]
  dsimp only
  rw [if_neg hb, if_pos hs, abandonNow_eq, port_withPort, withPort_withPort]

theorem abortActive_of_unsent (ha : (s.port p).te.transfer.map (·.ort) = some id) (hs : (s.port p).te.sent = false) :
    s.abortActive p =
      (s.withPort p ((s.port p).transferOver ((s.port p).queue.filter fun q => q.ort ≠ id))).handOver id .aborted 0 := by
  obtain ⟨b, hb', rfl⟩ := Option.map_eq_some_iff.mp ha
  rw [abortActive_of_none hc]
  dsimp only
  rw [if_neg hb, if_neg (by simp [hs])]
  exact withPort_endAbandoned (y := { s.port p with te := (s.port p).te.aborted }) hb' rfl

end idle

/-! ### An entry by where it stands (R138) -/

/-- The kind of a transfer, PARAM_READ or PARAM_WRITE. -/
def OrtEntry.isTransfer (e : OrtEntry) : Prop := e.kind = kindParamRead ∨ e.kind = kindParamWrite

theorem abortEntry_of_done (h : m.st = .done) (s : State) : s.abortEntry m = s := if_pos h

section entry

variable (hp : m.targetPort = p) (hd : m.st ≠ .done)

include hp hd

theorem abortEntry_of_transfer (hk : m.isTransfer) : s.abortEntry m = s.abortTransfer p m.id := by
  subst hp
  unfold State.abortEntry
  dsimp only
  rw [if_neg hd, if_pos (by simpa [OrtEntry.isTransfer] using hk)]

theorem abortEntry_of_control (hk : ¬ m.isTransfer) : s.abortEntry m =
    if (s.port p).slot = some (.bringUp, m.id) then s.abortBringUp p
    else if (s.port p).slot = some (.cycleStart, m.id) then s.stopSchedule p .aborted
    else s := by
  subst hp
  unfold State.abortEntry
  dsimp only
  rw [if_neg hd, if_neg (by simpa [OrtEntry.isTransfer] using hk)]
  rfl

theorem abortEntry_of_active (hk : m.isTransfer) (ha : (s.port p).te.transfer.map (·.ort) = some m.id) :
    s.abortEntry m = s.abortActive p := by
  rw [abortEntry_of_transfer hp hd hk, State.abortTransfer]
  exact if_pos ha

theorem abortEntry_of_queued (hk : m.isTransfer) (ha : (s.port p).te.transfer.map (·.ort) ≠ some m.id)
    (hq : ∃ b ∈ (s.port p).queue, b.ort = m.id ∧ b.ending = none) : s.abortEntry m =
      (s.withPort p { s.port p with queue := (s.port p).queue.filter fun q => q.ort ≠ m.id }).handOver m.id .aborted 0 := by
  rw [abortEntry_of_transfer hp hd hk, State.abortTransfer]
  rw [if_neg ha, if_pos (by simpa using hq)]
  rfl

theorem abortEntry_of_gone (hk : m.isTransfer) (ha : (s.port p).te.transfer.map (·.ort) ≠ some m.id)
    (hq : ¬ ∃ b ∈ (s.port p).queue, b.ort = m.id ∧ b.ending = none) : s.abortEntry m = s := by
  rw [abortEntry_of_transfer hp hd hk, State.abortTransfer]
  rw [if_neg ha, if_neg (by simpa using hq)]

end entry

/-! ### A BRING_UP (R52) -/

/-- The sequence of the port has nothing on the line. -/
def Port.offLine (x : Port) : Prop := x.seq.phase = .backoff ∨ (x.seq.phase = .lineWait ∧ x.lf.state = .free)

theorem abortBringUp_of_offLine (h : (s.port p).offLine) : s.abortBringUp p = s.abortSequence p := by
  unfold State.abortBringUp
  dsimp only
  obtain hb | ⟨hl, hf⟩ := h
  · rw [hb]
  · rw [hl]
    exact if_pos hf

theorem abortBringUp_of_onLine (h : ¬ (s.port p).offLine) (hs : (s.port p).seq.phase ≠ .stopped) :
    s.abortBringUp p = s.withPort p { s.port p with seq := { (s.port p).seq with stopRequested := true } } := by
  obtain ⟨hb, hl⟩ := not_or.mp h
  unfold State.abortBringUp
  dsimp only
  split
  · exact absurd ‹_› hb
  · exact if_neg fun hf => hl ⟨‹_›, hf⟩
  · rfl
  · rfl
  · exact absurd ‹_› hs

/-! ### What is handed over, and to whom it counts (R137, R139) -/

/-- The abort of the entry drops the sample of a CYCLE_START that waits at its port (R87, R100). -/
def OrtEntry.dropsSample (m : OrtEntry) (x : Port) : Prop := ¬ m.isTransfer ∧ x.slot = some (.cycleStart, m.id)

theorem answer_id {y : OrtEntry × Status × Word} (h : y ∈ a.answer id) : y.1.id = a.id := by
  unfold OrtEntry.answer at h
  split at h
  · obtain rfl := List.mem_singleton.mp h
    rfl
  · cases h

theorem handQueue_bus (s : State) (p : PortId) (st : Status) : (s.handQueue p st).bus = s.bus := by
  unfold State.handQueue
  rw [handAll_bus, State.modPort_bus]

/-- From `s`, where its port stood as `x`, to `t` the entry `m` has been handed over ABORTED, its ABORT `a` after it where it
was the last, and then the entries `behind`. -/
structure AbortEnds (p : PortId) (a m : OrtEntry) (x : Port) (behind : List (OrtEntry × Status × Word)) (s t : State) :
    Prop where
  events : t.cpl.events = s.cpl.events
  bus : ¬ m.dropsSample x → t.bus = s.bus
  dropped : m.dropsSample x → t.bus = (s.unwantSample p).bus
  order : HandedInOrder s t ((m, .aborted, 0) :: a.answer m.id ++ behind)
  waits : a.still m.id ≠ [] → t.ortFind a.id = some { a with awaited := a.still m.id }

/-- A match that is handed over, its port having changed before. -/
theorem handOver_abortEnds (h : s.AbortWaits a m) (ho : s.OnlyAwaitedBy a m.id) (hort : u.ort = s.ort) (hcpl : u.cpl = s.cpl)
    (hbus : ¬ m.dropsSample x → u.bus = s.bus) (hdrop : m.dropsSample x → u.bus = (s.unwantSample p).bus) :
    AbortEnds p a m x [] s (u.handOver m.id .aborted 0) := by
  have hu := h.of_ort hort
  have ho' : u.OnlyAwaitedBy a m.id := fun w hw => ho w (hort ▸ hw)
  refine ⟨?_, fun hn => ?_, fun hd => ?_, ?_, fun hs => handOver_abort_still hu ho' hs _ _⟩
  · rw [handOver_events, hcpl]
  · rw [handOver_bus, hbus hn]
  · rw [handOver_bus, hdrop hd]
  · rw [List.append_nil]
    exact (handOver_hands_of_abortWaits hu ho' _ _).inOrder_of (congrArg (·.done) hcpl)

/-- As `handOver_abortEnds`, for one port replaced. -/
theorem withPort_abortEnds (h : s.AbortWaits a m) (ho : s.OnlyAwaitedBy a m.id) (hk : m.isTransfer) (y : Port) :
    AbortEnds p a m x [] s ((s.withPort p y).handOver m.id .aborted 0) :=
  handOver_abortEnds h ho rfl rfl (fun _ => rfl) fun hd => absurd hk hd.1

/-- A CYCLE_START that waits is handed over, and its schedule ends in READY (R100). -/
theorem stopSchedule_abortEnds (h : s.AbortWaits a m) (ho : s.OnlyAwaitedBy a m.id)
    (hd : m.dropsSample (s.port p)) : AbortEnds p a m (s.port p) [] s (s.stopSchedule p .aborted) := by
  have hslot : ((s.toReady p).port p).slot = some (.cycleStart, m.id) := by
    rw [toReady_port]
    exact hd.2
  unfold State.stopSchedule State.endSlot
  rw [hslot]
  refine handOver_abortEnds h ho ?_ ?_ (fun hn => absurd hd hn) fun _ => ?_
  · simp [State.toReady, State.discardSample]
  · simp [State.toReady, State.discardSample]
  · rfl

/-- The sequence has stopped in IDLE, and the control slot is empty. -/
def State.slotCleared (p : PortId) (s : State) : State :=
  (s.idleWithoutLink p).modPort p fun x => { x with slot := none, stopPending := false }

/-- The BRING_UP has been handed over for its abort, the queue not yet. -/
def State.bringUpAborted (p : PortId) (s : State) : State := (s.idleWithoutLink p).endSlot p (fun _ => .aborted) 0

theorem abortSequence_eq (s : State) (p : PortId) : s.abortSequence p = (s.bringUpAborted p).handQueue p .noLink := rfl

theorem bringUpAborted_eq {k : ControlKind} (hs : (s.port p).slot = some (k, id)) :
    s.bringUpAborted p = (s.slotCleared p).handOver id .aborted 0 := by
  have hslot : ((s.idleWithoutLink p).port p).slot = some (k, id) := by rwa [idleWithoutLink_port]
  rw [State.bringUpAborted, State.endSlot, hslot]
  rfl

theorem bringUpAborted_queuedIds (s : State) (p : PortId) :
    ((s.bringUpAborted p).port p).queuedIds = (s.port p).queuedIds := by
  rw [State.bringUpAborted, endSlot_port, idleWithoutLink_port]
  rfl

theorem handQueue_ortFind_ne {behind : List OrtEntry} (hb : behind.map (·.id) = (s.port p).queuedIds)
    (hn : (behind.map (·.id)).Nodup) (hp : ∀ w ∈ behind, s.Pends w) (hne : ∀ w ∈ behind, w.id ≠ id) (st : Status) :
    (s.handQueue p st).ortFind id = s.ortFind id := by
  unfold State.handQueue
  unfold Port.queuedIds at hb
  dsimp only
  rw [← hb]
  exact handAll_ortFind_ne (s := s.modPort p _) hn (fun w hw => pends_congr rfl (hp w hw)) hne st

section bringUp

variable (h : s.AbortWaits a m) (ho : s.OnlyAwaitedBy a m.id) (hs : (s.port p).slot = some (.bringUp, m.id))

include h ho hs

theorem bringUpAborted_abortEnds : AbortEnds p a m (s.port p) [] s (s.bringUpAborted p) := by
  rw [bringUpAborted_eq hs]
  refine handOver_abortEnds h ho rfl rfl (fun _ => rfl) fun ⟨_, hd⟩ => ?_
  rw [hs] at hd
  cases hd

theorem bringUpAborted_hands :
    Hands ((s.slotCleared p).counted m.id) (s.bringUpAborted p) ((m, .aborted, 0) :: a.answer m.id) := by
  rw [bringUpAborted_eq hs]
  exact handOver_hands_of_abortWaits (s := s.slotCleared p) (h.of_ort rfl) ho .aborted 0

theorem bringUpAborted_pends (hw : s.Pends w) (hna : w.id ≠ a.id) (hnm : w.id ≠ m.id) : (s.bringUpAborted p).Pends w := by
  have hcounted : ((s.slotCleared p).counted m.id).Pends w := counted_pends (s := s.slotCleared p) ho (pends_congr rfl hw) hna
  refine (bringUpAborted_hands h ho hs).pends w hcounted fun x hx => ?_
  rcases List.mem_cons.mp hx with rfl | hx
  · exact hnm.symm
  · rw [answer_id hx]
    exact hna.symm

/-- A BRING_UP with nothing on the line is handed over, and then the queue (R52). -/
theorem abortSequence_abortEnds {behind : List OrtEntry} (hb : behind.map (·.id) = (s.port p).queuedIds)
    (hn : (behind.map (·.id)).Nodup) (hp : ∀ w ∈ behind, s.Pends w ∧ w.id ≠ a.id ∧ w.id ≠ m.id) :
    AbortEnds p a m (s.port p) (behind.map fun n => (n, .noLink, 0)) s (s.abortSequence p) := by
  obtain ⟨hevents, hbus, hdropped, -, hwaits⟩ := bringUpAborted_abortEnds h ho hs
  have hqueue : behind.map (·.id) = ((s.bringUpAborted p).port p).queuedIds := hb.trans (bringUpAborted_queuedIds s p).symm
  have hpends : ∀ w ∈ behind, (s.bringUpAborted p).Pends w := fun w hw =>
    have ⟨hw, hna, hnm⟩ := hp w hw
    bringUpAborted_pends h ho hs hw hna hnm
  have hands := (bringUpAborted_hands h ho hs).trans (handQueue_hands hqueue hn hpends .noLink)
  rw [abortSequence_eq]
  refine ⟨((handQueue_lists (.refl _) .noLink).events).trans hevents, fun hd => (handQueue_bus _ p .noLink).trans (hbus hd),
    fun hd => (handQueue_bus _ p .noLink).trans (hdropped hd), hands.inOrder_of rfl, fun hmore => ?_⟩
  rw [← hwaits hmore]
  exact handQueue_ortFind_ne hqueue hn hpends (fun w hw => (hp w hw).2.1) .noLink

end bringUp

/-! ### The abort at its port, as the claims write it -/

theorem AbortActs.imp {waits waits' : Port → Prop}
    {ends ends' : (State → Prop) → List (OrtEntry × Status × Word) → Prop} (h : AbortActs p m other x f s waits ends)
    (hw : ∀ y, waits y → waits' y) (he : ∀ post l, ends post l → ends' post l) :
    AbortActs p m other x f s waits' ends' := by
  obtain ⟨hactive, hqueued, hbringUp, hstart, helse⟩ := h
  refine ⟨fun hk ha => ?_, fun hk ha => ?_, fun hk hs => ?_, fun hk hs => he _ _ (hstart hk hs),
    fun hk hb hs => hw _ (helse hk hb hs)⟩
  · obtain ⟨hcause, hbusy, hsent, hunsent⟩ := hactive hk ha
    exact ⟨fun hc => hw _ (hcause hc), fun hc hb => hw _ (hbusy hc hb), fun hc hf hp hs => hw _ (hsent hc hf hp hs),
      fun hc hf hp hs => he _ _ (hunsent hc hf hp hs)⟩
  · obtain ⟨hends, hwaits⟩ := hqueued hk ha
    exact ⟨fun hq => he _ _ (hends hq), fun hq => hw _ (hwaits hq)⟩
  · obtain ⟨hends, hwaits⟩ := hbringUp hk hs
    exact ⟨fun hq behind hb hn ho => he _ _ (hends hq behind hb hn ho), fun hq hp => hw _ (hwaits hq hp)⟩

/-- The state `v` in which the abort of `m` for the ABORT `a` acts at the port `p`, which stands as `x`: as `s`, the table
apart, and what else was open in `s` still pends. -/
structure AbortFrom (p : PortId) (a m : OrtEntry) (x : Port) (s v : State) : Prop where
  waits : v.AbortWaits a m
  target : m.targetPort = p
  port : v.port p = x
  queue : x.queue = (s.port p).queue
  config : x.config = (s.port p).config
  groups : v.groups = s.groups
  pends : ∀ w, w.id ≠ a.id → w.id ≠ m.id → s.Open [w] → v.Pends w

/-- The abort of a BRING_UP with nothing on the line (R52). -/
theorem AbortFrom.bringUp_ends (h : AbortFrom p a m x s v) (hk : ¬ m.isTransfer) (hs : x.slot = some (.bringUp, m.id))
    (hoff : x.offLine) {behind : List OrtEntry} (hb : behind.map (·.id) = x.queuedIds)
    (hn : (a.id :: m.id :: x.queuedIds).Nodup) (hopen : s.Open behind) (ho : v.OnlyAwaitedBy a m.id) :
    let t := v.abortEntry m
    (GroupsKept s t ∧ LinklessIdle p s t ∧ (t.port p).slot = none ∧ (t.port p).inbox = x.inbox) ∧
      AbortEnds p a m x (behind.map fun n => (n, .noLink, 0)) v t := by
  obtain ⟨hwaits, hp, rfl, hqueue, hconfig, hgroups, hpends⟩ := h
  rw [← hb] at hn
  obtain ⟨hna, hn⟩ := List.nodup_cons.mp hn
  obtain ⟨hnm, hn⟩ := List.nodup_cons.mp hn
  have hpends' : ∀ w ∈ behind, v.Pends w ∧ w.id ≠ a.id ∧ w.id ≠ m.id := fun w hw => by
    have hmem : w.id ∈ behind.map (·.id) := List.mem_map_of_mem hw
    have hneAbort : w.id ≠ a.id := fun he => hna (List.mem_cons_of_mem _ (he ▸ hmem))
    have hneMatch : w.id ≠ m.id := fun he => hnm (he ▸ hmem)
    refine ⟨hpends w hneAbort hneMatch fun y hy => ?_, hneAbort, hneMatch⟩
    obtain rfl := List.mem_singleton.mp hy
    exact hopen y hw
  rw [abortEntry_of_control hp hwaits.notDone hk, if_pos hs, abortBringUp_of_offLine hoff]
  obtain ⟨hidle, hslot, -, hkept, -⟩ := abortSequence_bringUpEnds v p
  refine ⟨⟨fun g => (hkept g).trans (State.group_congr hgroups g), ?_, hslot, ?_⟩,
    abortSequence_abortEnds hwaits ho hs hb hn hpends'⟩
  · unfold LinklessIdle at hidle ⊢
    dsimp only at hidle ⊢
    rwa [← hqueue, ← hconfig]
  · unfold State.abortSequence
    rw [handQueue_port, endSlot_port, idleWithoutLink_port]
    rfl

/-- An abort that acts does at its port what the claims tell. -/
theorem abortEntry_acts (h : AbortFrom p a m x s v) :
    AbortActs p m a.id x (v.flightOf Access.transferPort p) s (fun y => v.abortEntry m = v.withPort p y)
      fun post behind => v.OnlyAwaitedBy a m.id →
        post (v.abortEntry m) ∧ AbortEnds p a m x behind v (v.abortEntry m) := by
  have hbringUp := fun hk hs hoff behind => h.bringUp_ends (behind := behind) hk hs hoff
  obtain ⟨hwaits, hp, rfl, -, -, hgroups, -⟩ := h
  have hd := hwaits.notDone
  have hself : v = v.withPort p (v.port p) := (withPort_self v p).symm
  have hkept : ∀ y, GroupsKept s ((v.withPort p y).handOver m.id .aborted 0) :=
    fun y => handOver_groupsKept (t := v.withPort p y) hgroups _ _ _
  refine ⟨fun hk ha => ?_, fun hk ha => ⟨fun hq ho => ?_, fun hq => ?_⟩,
    fun hk hs => ⟨hbringUp hk hs, fun hon hstop => ?_⟩, fun hk hs ho => ?_, fun hk hb hs => ?_⟩
  · rw [abortEntry_of_active hp hd hk ha]
    refine ⟨fun hc => (abortActive_of_cause hc).trans hself, fun hc hb => abortActive_of_busy hc hb,
      fun hc hf hx hs => abortActive_of_sent hc (by simp [hf, hx]) hs, fun hc hf hx hs ho => ?_⟩
    rw [abortActive_of_unsent hc (by simp [hf, hx]) ha hs]
    refine ⟨⟨hkept _, ?_⟩, withPort_abortEnds hwaits ho hk _⟩
    rw [handOver_port, port_withPort]
    rfl
  · rw [abortEntry_of_queued hp hd hk ha hq]
    refine ⟨⟨hkept _, ?_⟩, withPort_abortEnds hwaits ho hk _⟩
    rw [handOver_port, port_withPort]
  · exact (abortEntry_of_gone hp hd hk ha hq).trans hself
  · rw [abortEntry_of_control hp hd hk, if_pos hs]
    exact abortBringUp_of_onLine hon hstop
  · rw [abortEntry_of_control hp hd hk, if_neg (by rw [hs]; simp), if_pos hs]
    exact ⟨⟨(stopSchedule_groupsLeft v p .aborted).after hgroups, stopSchedule_port v p .aborted⟩,
      stopSchedule_abortEnds hwaits ho ⟨hk, hs⟩⟩
  · refine (abortEntry_of_control hp hd hk).trans ?_
    rw [if_neg hb, if_neg hs]
    exact hself

/-! ### The abort as an arrival (R135, R138) -/

theorem portArrival_abort (h : (s.port p).inbox = .abort id i :: rest) :
    s.portArrival p = (s.inboxLeft p rest).abortArrives id i := by
  simp only [State.portArrival, h]
  rfl

theorem abortArrives_of_waits (h : s.AbortWaits a m) : s.abortArrives a.id m.id = s.abortEntry m := by
  simp [State.abortArrives, h.entry, h.abort, h.waiting, h.awaits]

/-- An ABORT that no longer waits for the entry: it has been handed over (R131, R139). -/
theorem abortArrives_of_counted (h : ∀ w, s.ortFind id = some w → w.st ≠ .waiting ∨ i ∉ w.awaited) :
    s.abortArrives id i = s := by
  unfold State.abortArrives
  split
  · refine if_neg fun hany => ?_
    cases hw : s.ortFind id with
    | none => simp [hw] at hany
    | some w =>
      obtain ⟨hwaiting, hmem⟩ : w.st = .waiting ∧ i ∈ w.awaited := by simpa [hw] using hany
      exact (h w hw).elim (fun hn => hn hwaiting) fun hn => hn hmem
  · rfl

theorem abortArrives_of_done (hf : s.ortFind m.id = some m) (hd : m.st = .done) (id : Nat) : s.abortArrives id m.id = s := by
  unfold State.abortArrives
  rw [hf]
  dsimp only
  rw [abortEntry_of_done hd, ite_self]

theorem abortFrom_inboxLeft (h : s.AbortWaits a m) (hp : m.targetPort = p) (rest : List Arrival) :
    AbortFrom p a m { s.port p with inbox := rest } s (s.inboxLeft p rest) where
  waits := h.of_ort rfl
  target := hp
  port := inboxLeft_port s p rest
  queue := rfl
  config := rfl
  groups := rfl
  pends w _ _ ho := pends_congr rfl (ho.pends (List.mem_singleton_self w))

end Sys2Proof.Machine
end

section
/-! PROOFS. ABORT: what its take counts and hands to the ports, and the aborts as arrivals (R52, R87, R100, R118,
R137 to R139). -/

namespace Sys2Proof.Machine

/- Each proof waits for the kernel; checked one after another, they need no more threads than the rest of the package. -/
set_option Elab.async false

variable {p q : PortId} {s t v : State} {u : Setup} {a e m w : OrtEntry} {r : ReqRecord} {ms : List OrtEntry} {n id : Nat}
  {rest : List Arrival} {l : List (OrtEntry × Status × Word)}

/-! ### The take of an ABORT (R127, R137) -/

/-- The entry of an ABORT that waits for its matches (R137). -/
def OrtEntry.waitingFor (e : OrtEntry) (r : ReqRecord) (ms : List OrtEntry) : OrtEntry :=
  { e.filled kindAbort r with st := .waiting, matched := ms.length, awaited := ms.map (·.id) }

/-- The part once the take of an ABORT has counted its matches. -/
def State.abortTaken (s : State) (u : Setup) (e : OrtEntry) (r : ReqRecord) (ms : List OrtEntry) : State :=
  { s.afterTake u e kindAbort r with ort := s.ort.map fun n => if n.id = e.id then e.waitingFor r ms else n }

/-- The abort of `m` is handed to its port for the ABORT at the place `id` (R135, R137). -/
def State.handAbort (late : Bool) (id : Nat) (s : State) (m : OrtEntry) : State :=
  s.atPort m.targetPort late (.abort id m.id) (State.abortArrives id m.id)

theorem fetched_mem (hf : s.Fetched u e) : e ∈ s.ort ∧ e.st = .fetching := by
  obtain ⟨-, -, -, he⟩ := hf
  exact ⟨List.mem_of_find?_eq_some he, by simpa using List.find?_some he⟩

/-- At the place of the take stands its entry alone. -/
theorem eq_of_id (hf : s.Fetched u e) (hn : s.TableSound e) {x : OrtEntry} (hx : x ∈ s.ort) (h : x.id = e.id) : x = e :=
  List.inj_on_of_nodup_map hn.1 hx (fetched_mem hf).1 h

/-- A filter that does not see what a map changes. -/
theorem filter_map_of_unseen {l : List OrtEntry} {g : OrtEntry → OrtEntry} {q : OrtEntry → Bool}
    (h : ∀ x ∈ l, g x = x ∨ (q x = false ∧ q (g x) = false)) : (l.map g).filter q = l.filter q := by
  induction l with
  | nil => rfl
  | cons x l ih =>
    have hl := ih fun y hy => h y (List.mem_cons_of_mem x hy)
    obtain hx | ⟨hx, hg⟩ := h x List.mem_cons_self
    · rw [List.map_cons, hx, List.filter_cons, List.filter_cons, hl]
    · rw [List.map_cons, List.filter_cons_of_neg (by simp [hg]), List.filter_cons_of_neg (by simp [hx]), hl]

/-- The ABORT matches neither itself nor what its own take changes. -/
theorem routed_abortMatches (hf : s.Fetched u e) (hn : s.TableSound e) :
    (s.routed u e kindAbort r).abortMatches r = s.abortMatches r := by
  refine filter_map_of_unseen fun x hx => ?_
  by_cases hid : x.id = e.id
  · obtain rfl := eq_of_id hf hn hx hid
    exact .inr ⟨by simp [(fetched_mem hf).2], by simp [kindOfPort]⟩
  · exact .inl (if_neg hid)

theorem exec_abort (hc : checkAbort r = none) (hf : s.Fetched u e) (late : Bool) :
    exec (.abort ⟨r, late⟩) s = .next ((s.routed u e kindAbort r).runAbort r late e.id) := by
  have htake : exec (.abort ⟨r, late⟩) s = .next (s.take kindAbort r (checkAbort r) (State.runAbort r late)) := rfl
  rw [htake, hc, take_valid u e kindAbort r _ hf]

theorem routed_setOrt_waiting (hf : s.Fetched u e) (hn : s.TableSound e) (ms : List OrtEntry) :
    ((s.routed u e kindAbort r).setOrt e.id fun x =>
      { x with st := .waiting, matched := ms.length, awaited := ms.map (·.id) }) = s.abortTaken u e r ms := by
  have hort : ((s.routed u e kindAbort r).setOrt e.id fun x =>
      { x with st := .waiting, matched := ms.length, awaited := ms.map (·.id) }).ort = (s.abortTaken u e r ms).ort := by
    refine (List.map_map ..).trans (List.map_congr_left fun x hx => ?_)
    by_cases hid : x.id = e.id
    · obtain rfl := eq_of_id hf hn hx hid
      simp [OrtEntry.waitingFor, OrtEntry.filled]
    · simp [hid]
  exact congrArg (fun o => { s.afterTake u e kindAbort r with ort := o }) hort

/-- With matches the ABORT counts them, and hands an abort for each to its port, in their order (R137). -/
theorem exec_abort_matched (hc : checkAbort r = none) (hf : s.Fetched u e) (hn : s.TableSound e) (late : Bool)
    (hms : s.abortMatches r = ms) (hne : ms ≠ []) :
    exec (.abort ⟨r, late⟩) s = .next (ms.foldl (State.handAbort late e.id) (s.abortTaken u e r ms)) := by
  rw [exec_abort hc hf, State.runAbort, routed_abortMatches hf hn, hms]
  rw [if_neg (by simpa using hne), routed_setOrt_waiting hf hn]
  rfl

/-- An arrival has joined those in the inbox of port `p`. -/
def State.joined (s : State) (p : PortId) (b : Arrival) : State :=
  s.withPort p { s.port p with inbox := (s.port p).inbox ++ [b] }

/-- An abort that waits joins the others in the inbox; any other is taken by its port at once (R135). -/
theorem handAbort_eq (late : Bool) (id : Nat) (s : State) (m : OrtEntry) : s.handAbort late id m =
    if late = true ∨ (s.port m.targetPort).inbox ≠ [] then s.joined m.targetPort (.abort id m.id)
    else (s.joined m.targetPort (.abort id m.id)).portArrival m.targetPort := by
  by_cases h : late = true ∨ (s.port m.targetPort).inbox ≠ []
  · rw [if_pos h]
    exact atPort_waits h
  · rw [if_neg h]
    obtain ⟨hlate, hbox⟩ := not_or.mp h
    rw [not_not] at hbox
    have hone : ((s.joined m.targetPort (.abort id m.id)).port m.targetPort).inbox = [.abort id m.id] := by
      rw [State.joined, port_withPort, hbox]
      rfl
    have hleft : (s.joined m.targetPort (.abort id m.id)).inboxLeft m.targetPort [] = s := by
      rw [State.inboxLeft, State.joined, modPort_withPort, ← hbox]
      exact withPort_self s m.targetPort
    rw [portArrival_abort hone, hleft, State.handAbort, Bool.eq_false_of_not_eq_true hlate, atPort_now hbox]

/-! ### The table after the take -/

theorem abortTaken_find (hf : s.Fetched u e) (hn : s.TableSound e) (ms : List OrtEntry) :
    (s.abortTaken u e r ms).ortFind e.id = some (e.waitingFor r ms) := by
  rw [ortFind_map (g := fun n => if n.id = e.id then e.waitingFor r ms else n) (fun x => ?_) rfl,
    ortFind_of_mem s hn.1 (fetched_mem hf).1, Option.map_some, if_pos rfl]
  split
  · exact ‹x.id = e.id›.symm
  · rfl

theorem abortTaken_find_ne (h : w.id ≠ e.id) (hw : s.ortFind w.id = some w) (ms : List OrtEntry) :
    (s.abortTaken u e r ms).ortFind w.id = some w := by
  rw [ortFind_map (g := fun n => if n.id = e.id then e.waitingFor r ms else n) (fun x => ?_) rfl, hw, Option.map_some,
    if_neg h]
  split
  · exact ‹x.id = e.id›.symm
  · rfl

theorem abortTaken_onlyAwaitedBy (h : s.NotAwaited id) (ms : List OrtEntry) :
    (s.abortTaken u e r ms).OnlyAwaitedBy (e.waitingFor r ms) id := by
  intro w hw hi
  obtain ⟨x, hx, rfl⟩ := List.mem_map.mp hw
  by_cases hid : x.id = e.id
  · exact if_pos hid
  · rw [if_neg hid] at hi
    exact absurd hi (h x hx)

theorem abortMatches_apart (hf : s.Fetched u e) (hn : s.TableSound e) (hm : m ∈ s.abortMatches r) : e.id ≠ m.id := by
  intro he
  obtain ⟨hmem, hmatch⟩ := List.mem_filter.mp hm
  obtain rfl := eq_of_id hf hn hmem he.symm
  simp [(fetched_mem hf).2] at hmatch

theorem abortTaken_abortWaits (hf : s.Fetched u e) (hn : s.TableSound e) (hms : s.abortMatches r = ms) (ho : s.Open ms)
    (hm : m ∈ ms) : (s.abortTaken u e r ms).AbortWaits (e.waitingFor r ms) m := by
  obtain ⟨hfind, hd, -⟩ := ho m hm
  have happart : e.id ≠ m.id := abortMatches_apart hf hn (hms ▸ hm)
  exact ⟨abortTaken_find_ne happart.symm hfind ms, hd, abortTaken_find hf hn ms, rfl, List.mem_map_of_mem hm, happart⟩

/-! ### One match (R138, R139) -/

theorem abortFrom_abortTaken (hf : s.Fetched u e) (hn : s.TableSound e) (hms : s.abortMatches r = [m]) (ho : s.Open [m])
    (hp : m.targetPort = p) : AbortFrom p (e.waitingFor r [m]) m (s.port p) s (s.abortTaken u e r [m]) where
  waits := abortTaken_abortWaits hf hn hms ho (List.mem_singleton_self m)
  target := hp
  port := rfl
  queue := rfl
  config := rfl
  groups := rfl
  pends w hne hnm how := by
    obtain ⟨hfind, hd, hna⟩ := how w (List.mem_singleton_self w)
    refine ⟨⟨w.st, hd, abortTaken_find_ne hne hfind _⟩, fun x hx hi => ?_⟩
    obtain rfl := abortTaken_onlyAwaitedBy hna [m] x hx hi
    exact hnm (List.mem_singleton.mp hi)

/-- The one match of an ABORT is its last. -/
theorem waitingFor_answer (e m : OrtEntry) (r : ReqRecord) :
    (e.waitingFor r [m]).answer m.id = [(e.waitingFor r [m], .ok, 1)] := by
  simp [OrtEntry.answer, OrtEntry.still, OrtEntry.waitingFor]

theorem handAbort_now (h : s.AbortWaits a m) (hx : (s.port m.targetPort).inbox = []) :
    s.handAbort false a.id m = s.abortEntry m := (atPort_now hx).trans (abortArrives_of_waits h)

/-! ### Queued transfers alone (R137 to R139) -/

/-- From `s` to `t` these were handed over in order, the first being the `n`-th to reach the Completion Writer. -/
def HandedFrom (n : Nat) (s t : State) (l : List (OrtEntry × Status × Word)) : Prop :=
  t.cpl.done = s.cpl.done ++ l.mapIdx fun i h => h.1.completion h.2.1 h.2.2 (n + i)

theorem HandedFrom.cons {x : OrtEntry × Status × Word} (hv : v.cpl.done = s.cpl.done ++ [x.1.completion x.2.1 x.2.2 n])
    (h : HandedFrom (n + 1) v t l) : HandedFrom n s t (x :: l) := by
  unfold HandedFrom at h ⊢
  rw [h, hv, List.mapIdx_cons, List.append_assoc]
  simp only [Nat.add_zero, List.singleton_append, Nat.add_assoc, Nat.add_comm 1]

/-- The transfer `m` waits in the queue of its port `x`, and an abort for it acts at once. -/
def OrtEntry.inQueue (m : OrtEntry) (x : Port) : Prop :=
  m.isTransfer ∧ x.inbox = [] ∧ x.te.transfer.map (·.ort) ≠ some m.id ∧
    ∃ b ∈ x.queue, b.ort = m.id ∧ b.ending = none

/-- The queue of port `q` without the transfers of these entries. -/
def Port.without (q : PortId) (ms : List OrtEntry) (x : Port) : Port :=
  { x with queue := x.queue.filter fun b => !(ms.any fun m => m.targetPort = q && m.id = b.ort) }

/-- The queued transfer `m` has left its queue. -/
def State.dequeued (s : State) (m : OrtEntry) : State :=
  s.modPort m.targetPort fun x => { x with queue := x.queue.filter fun b => b.ort ≠ m.id }

/-- It has left its queue and has been handed over. -/
def State.unqueued (s : State) (m : OrtEntry) : State := (s.dequeued m).handOver m.id .aborted 0

theorem handAbort_of_inQueue (h : s.AbortWaits a m) (hx : m.inQueue (s.port m.targetPort)) :
    s.handAbort false a.id m = s.unqueued m := by
  obtain ⟨hk, hbox, ha, hq⟩ := hx
  rw [handAbort_now h hbox, abortEntry_of_queued rfl h.notDone hk ha hq]
  rfl

theorem unqueued_lists (s : State) (m : OrtEntry) : ListsKept s (s.unqueued m) :=
  handOver_lists (s := s) (t := s.dequeued m) ⟨rfl, rfl⟩ _ _ _

theorem unqueued_port (s : State) (m : OrtEntry) (q : PortId) : (s.unqueued m).port q = (s.port q).without q [m] := by
  rw [State.unqueued, handOver_port, Port.without, State.dequeued]
  by_cases hq : q = m.targetPort
  · subst hq
    rw [State.port_modPort_self]
    simp [eq_comm]
  · rw [State.port_modPort_ne s hq]
    simp [Ne.symm hq]

theorem without_without (q : PortId) (m : OrtEntry) (ms : List OrtEntry) (x : Port) :
    (x.without q [m]).without q ms = x.without q (m :: ms) := by
  simp [Port.without, List.filter_filter, Bool.and_comm]

/-- The ABORT `a`, whose matches `ms` still wait, each in the queue of its port. -/
structure State.AbortQueued (s : State) (a : OrtEntry) (ms : List OrtEntry) : Prop where
  distinct : (ms.map (·.id)).Nodup
  waits : ∀ m ∈ ms, s.AbortWaits { a with awaited := ms.map (·.id) } m
  only : ∀ m ∈ ms, s.OnlyAwaitedBy { a with awaited := ms.map (·.id) } m.id
  inQueue : ∀ m ∈ ms, m.inQueue (s.port m.targetPort)

theorem still_cons (a : OrtEntry) (h : ((m :: ms).map (·.id)).Nodup) :
    OrtEntry.still { a with awaited := (m :: ms).map (·.id) } m.id = ms.map (·.id) := by
  rw [List.map_cons, List.nodup_cons] at h
  unfold OrtEntry.still
  simp only [List.map_cons, ne_eq, not_true_eq_false, decide_false, Bool.false_eq_true, not_false_eq_true,
    List.filter_cons_of_neg]
  refine List.filter_eq_self.mpr fun i hi => ?_
  have hne : i ≠ m.id := fun he => h.1 (he ▸ hi)
  simpa using hne

theorem inQueue_without {x : Port} (h : w.inQueue x) (hne : m.id ≠ w.id) (q : PortId) : w.inQueue (x.without q [m]) := by
  obtain ⟨hk, hbox, ha, b, hb, hbw, he⟩ := h
  refine ⟨hk, hbox, ha, b, List.mem_filter.mpr ⟨hb, ?_⟩, hbw, he⟩
  simp [hbw, hne]

/-- Once the first of the matches has been handed over, the ABORT waits for the rest. -/
theorem State.AbortQueued.unqueued (h : s.AbortQueued a (m :: ms)) (hne : ms ≠ []) : (s.unqueued m).AbortQueued a ms := by
  obtain ⟨hn, hwaits, honly, hqueue⟩ := h
  have hm : (s.dequeued m).AbortWaits { a with awaited := (m :: ms).map (·.id) } m := (hwaits m List.mem_cons_self).of_ort rfl
  have ho : (s.dequeued m).OnlyAwaitedBy { a with awaited := (m :: ms).map (·.id) } m.id := honly m List.mem_cons_self
  have hstill := still_cons a hn
  have hmore : OrtEntry.still { a with awaited := (m :: ms).map (·.id) } m.id ≠ [] := by
    rw [hstill]
    simpa using hne
  have hunsettled := settledBy_of_still ho hmore
  obtain ⟨hnew, hn⟩ := List.nodup_cons.mp hn
  have hid : ∀ w ∈ ms, m.id ≠ w.id := fun w hw he => hnew (List.mem_map.mpr ⟨w, hw, he.symm⟩)
  refine ⟨hn, fun w hw => ?_, fun w hw y hy hi => ?_, fun w hw => ?_⟩
  · obtain ⟨hfind, hd, -, hwaiting, -, hapart⟩ := hwaits w (List.mem_cons_of_mem m hw)
    refine ⟨?_, hd, ?_, hwaiting, List.mem_map_of_mem hw, hapart⟩
    · have hmem : m.id ∉ w.awaited := fun hi =>
        hapart (congrArg OrtEntry.id (ho w (List.mem_of_find?_eq_some hfind) hi)).symm
      refine (handOver_ortFind_ne (hid w hw) hunsettled _ _).trans ?_
      rw [show (s.dequeued m).ortFind w.id = some w from hfind, Option.map_some, counting_of_notMem hmem]
    · rw [← hstill]
      exact handOver_abort_still hm ho hmore _ _
  · obtain ⟨x, hx, hawaited, hx'⟩ := handOver_mem_ort hunsettled hy
    rw [hawaited] at hi
    obtain rfl := honly w (List.mem_cons_of_mem m hw) x hx (List.mem_filter.mp hi).1
    rw [hx' hm.apart, ← hstill]
    rfl
  · rw [unqueued_port]
    exact inQueue_without (hqueue w (List.mem_cons_of_mem m hw)) (hid w hw) _

/-- A queued transfer is handed over, and its ABORT after it where it was the last. -/
theorem unqueued_hands (h : s.AbortWaits a m) (ho : s.OnlyAwaitedBy a m.id) :
    Hands ((s.dequeued m).counted m.id) (s.unqueued m) ((m, .aborted, 0) :: a.answer m.id) :=
  handOver_hands_of_abortWaits (s := s.dequeued m) (h.of_ort rfl) ho _ _

/-- The matches leave their queues and are handed over one after another, and then their ABORT (R137 to R139). -/
theorem foldl_handAbort (h : s.AbortQueued a ms) (hne : ms ≠ []) :
    let t := ms.foldl (State.handAbort false a.id) s
    ListsKept s t ∧ (∀ q, t.port q = (s.port q).without q ms) ∧
      HandedFrom s.arrivals s t (ms.map (fun m => (m, .aborted, 0)) ++ [(a, .ok, BitVec.ofNat 32 a.matched)]) := by
  induction ms generalizing s with
  | nil => exact absurd rfl hne
  | cons m ms ih =>
    have hm := h.waits m List.mem_cons_self
    have hands := unqueued_hands hm (h.only m List.mem_cons_self)
    have hfirst : s.handAbort false a.id m = s.unqueued m :=
      handAbort_of_inQueue (a := { a with awaited := (m :: ms).map (·.id) }) hm (h.inQueue m List.mem_cons_self)
    have hstill := still_cons a h.distinct
    rw [OrtEntry.answer, hstill] at hands
    rw [List.foldl_cons, hfirst]
    by_cases hms : ms = []
    · subst hms
      exact ⟨unqueued_lists s m, unqueued_port s m, hands.done⟩
    · rw [if_neg (by simpa using hms)] at hands
      obtain ⟨hlists, hports, hdone⟩ := ih (h.unqueued hms) hms
      refine ⟨(unqueued_lists s m).trans hlists, fun q => ?_, HandedFrom.cons hands.done ?_⟩
      · rw [hports q, unqueued_port, without_without]
      · rwa [hands.arrivals] at hdone

theorem abortTaken_abortQueued (hf : s.Fetched u e) (hn : s.TableSound e) (hms : s.abortMatches r = ms) (ho : s.Open ms)
    (hq : ∀ m ∈ ms, m.inQueue (s.port m.targetPort)) :
    (s.abortTaken u e r ms).AbortQueued (e.waitingFor r ms) ms where
  distinct := hms ▸ hn.1.sublist (List.filter_sublist.map _)
  waits _ hm := abortTaken_abortWaits hf hn hms ho hm
  only m hm := abortTaken_onlyAwaitedBy (ho m hm).2.2 ms
  inQueue := hq

/-! ### The claim, clause by clause -/

/-- An ABORT that matches nothing is handed over at its take (R137). -/
theorem abort_of_unmatched (hc : checkAbort r = none) (hf : s.Fetched u e) (hn : s.TableSound e) (late : Bool)
    (h : s.abortMatches r = []) :
    Completes (.abort ⟨r, late⟩) s fun t => HandedAtTake s t u e kindAbort r .ok 0 := by
  have hrun : (s.routed u e kindAbort r).runAbort r late e.id = (s.routed u e kindAbort r).handOver e.id .ok 0 := by
    rw [State.runAbort, routed_abortMatches hf hn, h]
    rfl
  refine ⟨_, (exec_abort hc hf late).trans (congrArg _ hrun), routed_reported s u e kindAbort r .ok 0 hf hn, ?_, ?_,
    handOver_events _ _ _ _, fun q => handOver_port _ _ _ _ q, handOver_groupsKept rfl _ _ _⟩
  · rw [handOver_control, routed_control]
  · rw [handOver_bus]
    rfl

/-- Part control after the take of an ABORT. -/
theorem abort_control (hc : checkAbort r = none) (hf : s.Fetched u e) {late : Bool}
    (h : exec (.abort ⟨r, late⟩) s = .next t) : t.control = s.takenControl u := by
  rw [exec_abort hc hf late] at h
  cases h
  rw [(runAbort_side r late e.id _).control, routed_control]

/-- The completion of an ABORT shows only what its record brought. -/
theorem waitingFor_completion (e : OrtEntry) (r : ReqRecord) (ms : List OrtEntry) :
    (e.waitingFor r ms).completion = (e.filled kindAbort r).completion := rfl

/-- Queued transfers alone (R137 to R139). -/
theorem abort_of_queued (hc : checkAbort r = none) (hf : s.Fetched u e) (hn : s.TableSound e) (hms : s.abortMatches r = ms)
    (hne : ms ≠ []) (hq : ∀ m ∈ ms, m.inQueue (s.port m.targetPort)) (ho : s.Open ms) :
    Completes (.abort ⟨r, false⟩) s fun t =>
      t.control = s.takenControl u ∧ GroupsKept s t ∧ t.cpl.events = s.cpl.events ∧
      (∀ p, t.port p = (s.port p).without p ms) ∧
      HandedInOrder s t (ms.map (fun m => (m, .aborted, 0)) ++
        [(e.filled kindAbort r, .ok, BitVec.ofNat 32 ms.length)]) := by
  have hexec := exec_abort_matched hc hf hn false hms hne
  obtain ⟨hlists, hports, hdone⟩ := foldl_handAbort (abortTaken_abortQueued hf hn hms ho hq) hne
  refine ⟨_, hexec, abort_control hc hf hexec, fun g => hlists.groupsKept g, hlists.events, hports, ?_⟩
  refine HandedInOrder.of_completions ⟨_, hdone⟩ ?_
  simp only [List.map_append, List.map_cons, waitingFor_completion]
  rfl

/-- One match, of whatever kind (R52, R100, R118, R138, R139). -/
theorem abort_of_single (hc : checkAbort r = none) (hf : s.Fetched u e) (hn : s.TableSound e)
    (hms : s.abortMatches r = [m]) (hp : m.targetPort = p) (hx : (s.port p).inbox = []) (ho : s.Open [m]) :
    AbortActs p m e.id (s.port p) false s
      (fun y => exec (.abort ⟨r, false⟩) s = .next ((s.abortTaken u e r [m]).withPort p y))
      fun post behind => Completes (.abort ⟨r, false⟩) s fun t =>
        t.control = s.takenControl u ∧ OthersKept p s t ∧ post t ∧ t.cpl.events = s.cpl.events ∧
        HandedInOrder s t ((m, .aborted, 0) :: (e.filled kindAbort r, .ok, 1) :: behind) := by
  have hfrom := abortFrom_abortTaken hf hn hms ho hp
  have hexec : exec (.abort ⟨r, false⟩) s = .next ((s.abortTaken u e r [m]).abortEntry m) := by
    refine (exec_abort_matched hc hf hn false hms (List.cons_ne_nil m [])).trans (congrArg _ ?_)
    exact handAbort_now (a := e.waitingFor r [m]) hfrom.waits (by rw [hp]; exact hx)
  have honly : (s.abortTaken u e r [m]).OnlyAwaitedBy (e.waitingFor r [m]) m.id :=
    abortTaken_onlyAwaitedBy (ho m (List.mem_singleton_self m)).2.2 [m]
  refine (abortEntry_acts hfrom).imp (fun y hy => hexec.trans (congrArg _ hy)) fun post behind hends => ?_
  obtain ⟨hpost, hevents, -, -, horder, -⟩ := hends honly
  have hothers : OthersKept p s ((s.abortTaken u e r [m]).abortEntry m) := hp ▸ (abortEntry_at m _).others
  refine ⟨_, hexec, abort_control hc hf hexec, hothers, hpost, hevents, ?_⟩
  rw [waitingFor_answer] at horder
  refine HandedInOrder.of_completions horder ?_
  simp only [List.map_cons, List.cons_append, List.nil_append, waitingFor_completion]

/-- An abort that its port takes from its arrivals (R52, R87, R100, R118, R138, R139). -/
theorem portArrival_acts (hbox : (s.port p).inbox = .abort a.id m.id :: rest) (h : s.AbortWaits a m)
    (hp : m.targetPort = p) :
    AbortActs p m a.id { s.port p with inbox := rest } (s.flightOf Access.transferPort p) s
      (fun y => s.portArrival p = s.withPort p y)
      fun post behind => s.OnlyAwaitedBy a m.id →
        OnlyPort p s (s.portArrival p) ∧ post (s.portArrival p) ∧
          AbortEnds p a m { s.port p with inbox := rest } behind (s.inboxLeft p rest) (s.portArrival p) := by
  have hfrom := abortFrom_inboxLeft h hp rest
  have harrives : s.portArrival p = (s.inboxLeft p rest).abortEntry m :=
    (portArrival_abort hbox).trans (abortArrives_of_waits hfrom.waits)
  refine (abortEntry_acts hfrom).imp (fun y hy => ?_) fun post behind hends ho => ?_
  · rw [harrives, hy]
    exact withPort_withPort s p _ y
  · obtain ⟨hpost, hends⟩ := hends ho
    rw [harrives]
    exact ⟨(inboxLeft_at s p rest).onlyPort_after (hp ▸ abortEntry_at m _), hpost, hends⟩

/-- An abort that finds nothing left to abort only leaves the inbox. -/
theorem portArrival_of_counted (hbox : (s.port p).inbox = .abort a.id m.id :: rest) (hfind : s.ortFind m.id = some m)
    (h : m.st = .done ∨ ∀ w, s.ortFind a.id = some w → w.st ≠ .waiting ∨ m.id ∉ w.awaited) :
    s.portArrival p = s.withPort p { s.port p with inbox := rest } := by
  rw [portArrival_abort hbox]
  rcases h with hd | hn
  · exact abortArrives_of_done (s := s.inboxLeft p rest) hfind hd a.id
  · exact abortArrives_of_counted (s := s.inboxLeft p rest) hn

/-- Settles O23: the arrivals, and the take by what it matches: nothing, anything, queued transfers alone, one entry. -/
theorem abortReportsAfterItsMatches : Obligations.AbortReportsAfterItsMatches := by
  refine ⟨fun p a m rest s hbox hfind hp => ⟨step_portArrival, fun hd => portArrival_of_counted hbox hfind (.inl hd),
    fun hn => portArrival_of_counted hbox hfind (.inr hn), fun ha hwaiting hawaits hd hapart => ?_⟩,
    fun r u e s hc hf hn => ⟨fun late h => abort_of_unmatched hc hf hn late h, fun ms late hms hne => ?_,
      fun ms hms hne hq ho _ => abort_of_queued hc hf hn hms hne hq ho,
      fun m p hms hp hx ho _ => abort_of_single hc hf hn hms hp hx ho⟩⟩
  · refine (portArrival_acts hbox ⟨hfind, hd, ha, hwaiting, hawaits, hapart⟩ hp).imp (fun y hy => hy)
      fun post behind hends ho => ?_
    obtain ⟨honly, hpost, hevents, hbus, hdropped, horder, hwaits⟩ := hends ho
    exact ⟨honly, hpost, hevents, hbus, hdropped, horder, hwaits⟩
  · have hstep : State.handAbort late e.id = fun t m =>
        if late = true ∨ (t.port m.targetPort).inbox ≠ [] then t.joined m.targetPort (.abort e.id m.id)
        else (t.joined m.targetPort (.abort e.id m.id)).portArrival m.targetPort :=
      funext fun t => funext fun m => handAbort_eq late e.id t m
    rw [exec_abort_matched hc hf hn late hms hne, hstep]
    rfl

end Sys2Proof.Machine
end

section
/-! PROOFS. RESET_N (R61, R163). -/

namespace Sys2Proof.Machine

/- Each proof waits for the kernel; checked one after another, they need no more threads than the rest of the package. -/
set_option Elab.async false

variable {s : State}

theorem cleared_port (s : State) (a : Word) (p : PortId) :
    (s.cleared a).port p = Port.resetWith (s.port p).flt (s.port p).rxd := by
  simp [State.cleared, State.port]

theorem reset_group (g : GroupId) : State.reset.group g = Group.reset := by
  simp [State.reset, State.group]

/-- While RESET_N is asserted no time counts (R61, R163). -/
theorem tick_of_resetAsserted (h : s.resetAsserted = true) : s.tick = s := if_pos h

/-- While RESET_N is asserted a slave read shows nothing (R154). -/
theorem readWindow_of_resetAsserted (h : s.resetAsserted = true) (offset : Nat) (w : AccessWidth) :
    readWindow s offset w = 0 := if_pos h

/-- Settles O36. -/
theorem powerOnResetReleasesTheBus : Obligations.PowerOnResetReleasesTheBus := by
  refine fun s => ⟨⟨s.powerOnReset, rfl, ?_, rfl, rfl, tick_of_resetAsserted rfl, ?_⟩, rfl⟩
  · exact ⟨rfl, rfl, rfl, reset_group, cleared_port s 0⟩
  · exact readWindow_of_resetAsserted rfl

end Sys2Proof.Machine
end

section
/-! PROOFS. The Schedule Unit's own steps: GROUP_CONFIG (R65), beats and SYNC_OUT (R64, R77). -/

namespace Sys2Proof.Machine

/- Each proof waits for the kernel; checked one after another, they need no more threads than the rest of the package. -/
set_option Elab.async false

variable {s s' : State} {u : Setup} {e : OrtEntry} {k : Byte} {r : ReqRecord} {g : GroupId} {b : Beats}

/-! ### A request at the Schedule Unit (R134, R135) -/

/-- A valid request that is not late acts within its take where no other waits at the Schedule Unit. -/
theorem completes_of_take_unit {i : Instr} {c : Option Status} {act : Nat → State → State} {post : State → Prop}
    (hi : exec i s = .next (s.take k r c (State.toUnit k ⟨r, false⟩ act))) (hc : c = none) (hf : s.Fetched u e)
    (hx : s.unitInbox = []) (h : post (act e.id (s.routed u e k r))) : Completes i s post := by
  have hnow : State.toUnit k ⟨r, false⟩ act e.id (s.routed u e k r) = act e.id (s.routed u e k r) :=
    atUnit_now (s := s.routed u e k r) hx
  exact ⟨_, by rw [hi, hc, take_valid u e k r _ hf, hnow], h⟩

/-- The entry of the take is handed over first, a group having changed before. -/
theorem routed_modGroup_reported (hf : s.Fetched u e) (hn : s.TableSound e) (f : Group → Group) (st : Status) (x : Word) :
    Reported s (((s.routed u e k r).modGroup g f).handOver e.id st x) e k r st x :=
  handOver_done (s := (s.routed u e k r).modGroup g f) st x (routed_find s u e k r hf hn) (by simp)

/-! ### GROUP_CONFIG (R65) -/

/-- A group that a GROUP_CONFIG writes (R65). -/
def Group.configured (r : ReqRecord) (x : Group) : Group :=
  { x with period := groupPeriodOf r, source := groupSourceOf r, running := none, beatNumber := 0 }

theorem configureGroup_empty (h : (s.group (targetGroup r)).members = []) (id : Nat) :
    s.configureGroup r id = (s.modGroup (targetGroup r) (Group.configured r)).handOver id .ok 0 := by
  unfold State.configureGroup
  exact if_pos (by simpa using h)

theorem configureGroup_busy (h : (s.group (targetGroup r)).members ≠ []) (id : Nat) :
    s.configureGroup r id = s.handOver id .busy 0 := by
  unfold State.configureGroup
  exact if_neg (by simpa using h)

/-- Settles O20. -/
theorem groupConfigWritesAnEmptyGroup : Obligations.GroupConfigWritesAnEmptyGroup := by
  intro r u e s hc hf hn hx
  refine completes_of_take_unit rfl hc hf hx ?_
  have hcontrol : ((s.routed u e kindGroupConfig r).configureGroup r e.id).control = s.takenControl u :=
    (configureGroup_at 0 r e.id (s.routed u e kindGroupConfig r)).taken.1
  by_cases h : (s.group (targetGroup r)).members = []
  · rw [configureGroup_empty (s := s.routed u e kindGroupConfig r) h] at hcontrol ⊢
    refine ⟨hcontrol, fun q => handOver_port _ _ _ _ q, fun g hg => ?_, ?_⟩
    · rw [handOver_group]
      exact State.group_modGroup_ne (s.routed u e kindGroupConfig r) hg _
    · rw [if_pos h, handOver_group, State.group_modGroup_self]
      refine ⟨?_, routed_modGroup_reported hf hn _ _ _⟩
      rw [← h]
      rfl
  · rw [configureGroup_busy (s := s.routed u e kindGroupConfig r) h] at hcontrol ⊢
    refine ⟨hcontrol, fun q => handOver_port _ _ _ _ q, fun g _ => handOver_group _ _ _ _ g, ?_⟩
    rw [if_neg h]
    exact ⟨handOver_group _ _ _ _ _, routed_reported s u e _ r _ _ hf hn⟩

/-! ### Beats and SYNC_OUT (R64, R77) -/

/-- A beat at the SYNC_OUT group starts the pulse, and any beat moves its group on (R64, R77). -/
theorem takeBeat_eq (h : (s.group g).running = some b) : s.takeBeat g =
    { s.withGroup g { s.group g with
        beatNumber := ((s.group g).beatNumber + 1) % Config.beatModulus
        running := some { b with next := b.next + BitVec.ofNat 32 (s.group g).period, fresh := false } } with
      syncOutEnd := if s.setup.bind (·.syncOut) = some g then
        some (s.timeOf b.next + usUnits Config.syncOutLen) else s.syncOutEnd } := by
  unfold State.takeBeat
  rw [h]
  cases hs : s.setup with
  | none => rfl
  | some u => by_cases hg : u.syncOut = some g <;> simp [hg, State.modGroup, State.withGroup, State.group, hs]

/-- Settles O39. -/
theorem aBeatMovesTheGroupOn : Obligations.ABeatMovesTheGroupOn := by
  refine ⟨fun g b s s' hb hreach => ?_, fun n s s' hn hreach => ?_⟩
  · have hdue : s.beatDue g = some (s.timeOf b.next) := by rw [State.beatDue, hb]; rfl
    change atInstant (s.beatDue g) (State.takeBeat g) s = _
    obtain ⟨hs', -⟩ := reach_eq hreach
    have hgroup : s'.group g = s.group g := by rw [hs']; rfl
    have hpart : s'.setup = s.setup ∧ s'.syncOutEnd = s.syncOutEnd := by rw [hs']; exact ⟨rfl, rfl⟩
    rw [hdue, atInstant_next _ hreach, takeBeat_eq (hgroup ▸ hb), hgroup, hpart.1, hpart.2]
    rfl
  · change atInstant s.syncOutEnd _ s = _
    rw [hn, atInstant_next _ hreach]

end Sys2Proof.Machine
end

section
/-! PROOFS. Sampling instants (R74, R83, R85). -/

namespace Sys2Proof.Machine

/- Each proof waits for the kernel; checked one after another, they need no more threads than the rest of the package. -/
set_option Elab.async false

variable {p : PortId} {s : State} {k : Sched} {m : Word}

theorem samplingDue_eq (hk : (s.port p).sched = some k) (hm : k.next = some m) (hd : k.delivered = false) :
    s.samplingDue p = some (s.timeOf m - 32 * 64) := by
  obtain ⟨kind, period, next, delivered⟩ := k
  obtain rfl : next = some m := hm
  obtain rfl : delivered = false := hd
  simp only [State.samplingDue, hk]
  rfl

theorem admitsSampling_iff (x : Port) : x.admitsSampling = true ↔
    x.state = .armed ∨ (x.state = .cyclic ∧ x.stopWaits = false ∧ x.cyc.faultPending = false) := by
  simp [Port.admitsSampling, and_assoc]

/-- The Cycle Engine with a sample begun: complete at once without an output image, else with its first read (R85). -/
theorem beginSample_port (s : State) (p : PortId) : (s.beginSample p).port p = { s.port p with cyc := { (s.port p).cyc with
    sample := if (s.port p).config.outImage = 0 then .complete none [] false else .reading false 0 []
    list := (s.port p).cyc.list.filter (·.isWrite) ++
      (if (s.port p).config.outImage = 0 then [] else [.sample .gen1])
    admitted := true, startWait := none } } := by
  unfold State.beginSample
  dsimp only
  rw [State.port_modCyc_self, discardSample_port]
  by_cases h : (s.port p).config.outImage = 0
  · simp only [if_pos h, List.append_nil]
    rfl
  · simp only [if_neg h]
    rfl

/-- A sampling instant concerns its port alone. -/
theorem sampleNow_kept_outside (s : State) (p : PortId) :
    (s.sampleNow p).groups = s.groups ∧ (s.sampleNow p).cpl = s.cpl ∧ (s.sampleNow p).ort = s.ort := by
  unfold State.sampleNow
  dsimp only
  split <;> exact ⟨rfl, rfl, rfl⟩

/-- The next start's sampling instant counts as delivered. -/
def Port.sampled (x : Port) (k : Sched) : Port := { x with sched := some { k with delivered := true } }

theorem sampleNow_eq (hk : (s.port p).sched = some k) : s.sampleNow p =
    if (s.port p).admitsSampling = true then (s.withPort p ((s.port p).sampled k)).beginSample p
    else s.withPort p ((s.port p).sampled k) := by
  unfold State.sampleNow
  dsimp only
  rw [modPort_eq_withPort, port_withPort, hk]
  rfl

/-- Settles O40. -/
theorem theSamplingInstantBeginsASample : Obligations.TheSamplingInstantBeginsASample := by
  intro p k m s s' hk hm hd hreach
  have hx : s'.port p = s.port p := reaches_port hreach p
  refine atInstant_completes rfl (samplingDue_eq hk hm hd) hreach ?_
  obtain ⟨hgroups, hcpl, hort⟩ := sampleNow_kept_outside s' p
  obtain ⟨hs', -⟩ := reach_eq hreach
  refine ⟨(sampleNow_at (.refl p s')).onlyPort, fun g => ?_, hcpl.trans ?_, hort.trans ?_, ?_⟩
  · rw [State.group_congr hgroups, hs']
    rfl
  · rw [hs']
  · rw [hs']
  · rw [sampleNow_eq (hx ▸ hk), hx]
    by_cases hadmits : (s.port p).admitsSampling = true
    · rw [if_pos hadmits, if_pos ((admitsSampling_iff _).mp hadmits), beginSample_port, port_withPort]
      rfl
    · rw [if_neg hadmits, if_neg (mt (admitsSampling_iff _).mpr hadmits), port_withPort]
      rfl

end Sys2Proof.Machine
end

section
/-! PROOFS. Start instants (R74, R82, R83, R86 to R91, R98, R99). The idea: a start instant that the port's state answers
first moves the schedule on and, from ARMED, hands the CYCLE_START over; the rest is the cycle of a port in CYCLIC, by its
line. -/

namespace Sys2Proof.Machine

/- Each proof waits for the kernel; checked one after another, they need no more threads than the rest of the package. -/
set_option Elab.async false

variable {p : PortId} {s t u : State} {k : Sched} {m : Word} {y : Port}

/-! ### The schedule moves on, and ARMED goes to CYCLIC (R74, R82, R83) -/

/-- The schedule of a port as its start instant `m` is delivered (R74). -/
def Port.movedOn (x : Port) (k : Sched) (m : Word) : Port :=
  { x with sched := some { k with next := some (m + BitVec.ofNat 32 k.period), delivered := false } }

theorem startDue_eq (hk : (s.port p).sched = some k) (hm : k.next = some m) (hd : k.delivered = true) :
    s.startDue p = some (s.timeOf m) := by
  obtain ⟨kind, period, next, delivered⟩ := k
  obtain rfl : next = some m := hm
  obtain rfl : delivered = true := hd
  simp only [State.startDue, hk]

theorem startNow_eq (hk : (s.port p).sched = some k) (hm : k.next = some m) :
    s.startNow p = (s.withPort p ((s.port p).movedOn k m)).actOnStart p m := by
  obtain ⟨kind, period, next, delivered⟩ := k
  obtain rfl : next = some m := hm
  simp only [State.startNow, hk, State.setNext, modPort_eq_withPort]
  rfl

/-- The port acts on a start instant: in ARMED, and in CYCLIC but where a stop or a fault waits and no sampling was admitted
(R82, R83). -/
def Port.startsCycle (x : Port) : Prop :=
  x.state = .armed ∨ (x.state = .cyclic ∧ (x.stopWaits = true ∨ x.cyc.faultPending = true → x.cyc.admitted = true))

/-- A port whose cycle a start instant runs: in CYCLIC, its CYCLE_START no longer in the slot (R82). -/
def Port.cycling (x : Port) : Port :=
  if x.state = .armed then { x with state := .cyclic, slot := none, stopPending := x.stopPending && x.slot.isNone } else x

/-- From ARMED the port goes to CYCLIC and its CYCLE_START is handed over OK with the start instant (R82). -/
def State.enterCycle (p : PortId) (m : Word) (s : State) : State :=
  if (s.port p).state = .armed then (s.setPortState p .cyclic).endSlot p (fun _ => .ok) m else s

theorem actOnStart_of_not (h : ¬ (s.port p).startsCycle) (m : Word) : s.actOnStart p m = s := by
  unfold Port.startsCycle at h
  unfold State.actOnStart
  dsimp only
  cases hs : (s.port p).state with
  | armed => exact absurd (.inl hs) h
  | cyclic => simp_all
  | disabled | idle | bringup | ready | recovery | fault => rfl

theorem actOnStart_eq (h : (s.port p).startsCycle) (m : Word) :
    s.actOnStart p m = (s.enterCycle p m).cycleAtStart p m := by
  unfold State.actOnStart State.enterCycle
  rcases h with h | ⟨h, hw⟩
  · simp only [h, if_true]
  · have hadmits : ¬ ((((s.port p).stopWaits || (s.port p).cyc.faultPending) && !(s.port p).cyc.admitted) = true) := by
      simpa [imp_iff_not_or] using hw
    simp only [h]
    exact if_neg hadmits

theorem enterCycle_port (s : State) (p : PortId) (m : Word) : (s.enterCycle p m).port p = (s.port p).cycling := by
  unfold State.enterCycle Port.cycling
  split
  · rw [endSlot_port, State.port_setPortState_self]
    cases hs : (s.port p).slot <;> simp [Port.slotEnded, hs]
  · rfl

theorem cycling_state (h : y.startsCycle) : y.cycling.state = .cyclic := by
  unfold Port.cycling
  split
  · rfl
  · rename_i hn
    exact (h.resolve_left hn).1

/-- From `s` to `u` the port whose start instant `m` has come entered its cycle as `y`, and nothing else changed but that the
CYCLE_START of an ARMED port was handed over (R82). -/
structure CycleEntered (p : PortId) (m : Word) (y : Port) (s u : State) : Prop where
  port : u.port p = y
  only : OnlyPort p s u
  lists : ListsKept s u
  started : ∀ c w, (s.port p).state = .armed → (s.port p).slot = some (c, w.id) → s.Open [w] →
    HandedInOrder s u [(w, .ok, m)]
  kept : (s.port p).state = .armed ∧ (s.port p).slot.isSome = true ∨ (u.cpl.done = s.cpl.done ∧ u.ort = s.ort)

theorem OnlyPort.trans (h : OnlyPort p s t) (k : OnlyPort p t u) : OnlyPort p s u :=
  ⟨k.1.trans h.1, fun q hq => (k.2 q hq).trans (h.2 q hq)⟩

theorem withPort_onlyPort (s : State) (p : PortId) (y : Port) : OnlyPort p s (s.withPort p y) :=
  (modPort_at (.refl p s) fun _ => y).onlyPort

theorem endSlot_of_none (h : (s.port p).slot = none) (of : ControlKind → Status) (r : Word) : s.endSlot p of r = s := by
  simp only [State.endSlot, h]

theorem enterCycle_entered (s : State) (p : PortId) (k : Sched) (m : Word) :
    CycleEntered p m ((s.port p).movedOn k m).cycling s ((s.withPort p ((s.port p).movedOn k m)).enterCycle p m) := by
  have hport : (s.withPort p ((s.port p).movedOn k m)).port p = (s.port p).movedOn k m := port_withPort s p _
  generalize hv : s.withPort p ((s.port p).movedOn k m) = v at hport
  have honly : OnlyPort p s v := hv ▸ withPort_onlyPort s p _
  have hlists : ListsKept s v := hv ▸ ⟨rfl, rfl⟩
  have htables : v.ort = s.ort ∧ v.cpl = s.cpl := hv ▸ ⟨rfl, rfl⟩
  have hstate : (v.port p).state = (s.port p).state := hport ▸ rfl
  have hslot : (v.port p).slot = (s.port p).slot := hport ▸ rfl
  have hready := enterCycle_port v p m
  unfold State.enterCycle at hready ⊢
  by_cases ha : (v.port p).state = .armed
  · rw [if_pos ha] at hready ⊢
    have hat := (endSlot_at (setPortState_at (.refl p v) .cyclic) (fun _ => .ok) m).onlyPort
    have hkept : ListsKept v ((v.setPortState p .cyclic).endSlot p (fun _ => .ok) m) :=
      endSlot_lists (modPort_lists (.refl v) _) _ _
    refine ⟨hport ▸ hready, honly.trans hat, hlists.trans hkept, fun c w _ hw ho => ?_, ?_⟩
    · have hp : (v.setPortState p .cyclic).Pends w := pends_congr htables.1 (ho.pends (List.mem_singleton_self w))
      have h := endSlot_hands (s := v.setPortState p .cyclic) (p := p) (slot := [w])
        (by rw [State.port_setPortState_self, hslot, hw]; rfl) (by simpa using hp) (fun _ => .ok) m fun _ _ _ => rfl
      exact h.inOrder_of (congrArg CompletionWriter.done htables.2)
    · cases hn : (s.port p).slot with
      | some o => exact .inl ⟨hstate ▸ ha, rfl⟩
      | none =>
        rw [endSlot_of_none (by rw [State.port_setPortState_self, hslot, hn])]
        exact .inr ⟨congrArg CompletionWriter.done htables.2, htables.1⟩
  · rw [if_neg ha] at hready ⊢
    exact ⟨hport ▸ hready, honly, hlists, fun c w harmed => absurd (hstate.trans harmed) ha,
      .inr ⟨congrArg CompletionWriter.done htables.2, htables.1⟩⟩

/-- A claim about hand-overs rests on the completions alone. -/
theorem HandedInOrder.of_done {l : List (OrtEntry × Status × Word)} (h : HandedInOrder s u l)
    (ht : t.cpl.done = u.cpl.done) : HandedInOrder s t l := by
  obtain ⟨n, hn⟩ := h
  exact ⟨n, ht.trans hn⟩

/-- What a start instant reports of a CYCLE_START goes for the state of its cycle too, where that hands nothing over. -/
theorem CycleEntered.started_of_done (h : CycleEntered p m y s u) (ht : t.cpl.done = u.cpl.done) :
    (∀ c w, (s.port p).state = .armed → (s.port p).slot = some (c, w.id) → s.Open [w] →
        HandedInOrder s t [(w, .ok, m)]) ∧
      ((s.port p).state = .armed ∧ (s.port p).slot.isSome = true ∨ t.cpl.done = s.cpl.done) :=
  ⟨fun c w ha hw ho => (h.started c w ha hw ho).of_done ht, h.kept.imp_right fun hk => ht.trans hk.1⟩

/-- A CYCLE_STOP can wait only where nothing was handed over. -/
theorem CycleEntered.kept_of_stopWaits (h : CycleEntered p m y s u) (hs : (s.port p).state = .armed → y.slot = none)
    (hw : y.stopWaits = true) : u.cpl.done = s.cpl.done ∧ u.ort = s.ort := by
  refine h.kept.resolve_left fun ha => ?_
  simp [Port.stopWaits, hs ha.1] at hw

/-! ### The cycle on a free line (R86 to R91) -/

theorem PostedLater.after {q : PortId} {e : EventKind} {d : Word} (h : PostedLater u t q e d)
    (he : u.cpl.events = s.cpl.events) (ht : u.time = s.time) : PostedLater s t q e d := by
  obtain ⟨n, hn⟩ := h
  exact ⟨n, Posted.after (s := { s with arrivals := n }) hn he ht rfl⟩

theorem StaleReported.after {x : Port} (h : StaleReported p x u t) (he : u.cpl.events = s.cpl.events)
    (ht : u.time = s.time) : StaleReported p x s t := by
  unfold StaleReported at h ⊢
  split at h
  · split at h
    · rename_i hlimit
      rw [if_pos hlimit]
      exact h.after he ht
    · rename_i hlimit
      rw [if_neg hlimit]
      exact h.trans he
  · exact h.trans he

/-- The cycle that ran from the state a port entered it in is that of the start instant. -/
theorem CycleRuns.after {l : Link} (h : CycleRuns p l m y u t) (he : CycleEntered p m y s u)
    (hs : (s.port p).state = .armed → y.slot = none) : CycleRuns p l m y s t := by
  have htime : u.time = s.time := congrArg Control.time he.only.1
  have hgroups : ∀ {v : State}, GroupsKept u v → GroupsKept s v := fun hv g => (hv g).trans (he.lists.groupsKept g)
  unfold CycleRuns at h ⊢
  obtain ⟨honly, hstale, hrest⟩ := h
  refine ⟨he.only.trans honly, hstale.after he.lists.events htime, ?_⟩
  cases hsend : y.sends with
  | some f =>
    rw [hsend] at hrest
    exact ⟨hgroups hrest.1, by rw [← htime]; exact hrest.2⟩
  | none =>
    rw [hsend] at hrest
    dsimp only at hrest ⊢
    by_cases hstop : y.stopWaits = true ∧ y.cyc.underWay = none
    · rw [if_pos hstop] at hrest ⊢
      obtain ⟨hport, hleft, hhanded⟩ := hrest
      obtain ⟨hdone, hort⟩ := he.kept_of_stopWaits hs hstop.1
      refine ⟨hport, hleft.after he.lists.groups, fun c w hw ho => ?_⟩
      have hopen : u.Open [w] := by simpa only [State.Open, State.ortFind, State.NotAwaited, hort] using ho
      have := hhanded c w hw hopen
      simpa only [HandedInOrder, hdone] using this
    · rw [if_neg hstop] at hrest ⊢
      exact ⟨hrest.1, hgroups hrest.2⟩

/-! ### The line about to be free, and the slip (R89, R90) -/

/-- The line will be free within the microsecond (R89). -/
def Port.guardSoon (x : Port) (micros : Nat) : Prop :=
  x.lf.state = .guard ∧ x.lf.held = none ∧ ∃ n, x.lf.timer = some n ∧ n < 32 * (micros + 1)

theorem guardEndsNow_iff (s : State) (p : PortId) :
    s.guardEndsNow p = true ↔ ∃ n, (s.port p).lf.timer = some n ∧ n < 32 * (s.micros + 1) := by
  unfold State.guardEndsNow
  rw [show Config.unitsPerUs = 32 from rfl, Nat.mul_comm (s.micros + 1)]
  cases (s.port p).lf.timer <;> simp

theorem cycleAtStart_free (h : (s.port p).lf.state = .free) (m : Word) : s.cycleAtStart p m = s.runCycle p m := if_pos h

theorem cycleAtStart_guard (h : (s.port p).guardSoon s.micros) (m : Word) :
    s.cycleAtStart p m = s.modCyc p fun c => { c with startWait := some m, admitted := false } := by
  obtain ⟨hs, hh, ht⟩ := h
  simp only [State.cycleAtStart, hs, hh, (guardEndsNow_iff s p).mpr ht]
  rfl

theorem cycleAtStart_busy (hf : (s.port p).lf.state ≠ .free) (h : ¬ (s.port p).guardSoon s.micros) (m : Word) :
    s.cycleAtStart p m = s.slip p := by
  unfold State.cycleAtStart
  refine (if_neg hf).trans (if_neg fun hg => h ?_)
  simpa only [Bool.and_eq_true, decide_eq_true_eq, Option.isNone_iff_eq_none, guardEndsNow_iff, and_assoc,
    Port.guardSoon] using hg

/-- A port that slips a cycle (R90). -/
def Port.slipped (x : Port) : Port :=
  { x with counters := { x.counters with slips := satAdd x.counters.slips 1 }, cyc := x.cyc.discarded }

/-- The slip before a waiting CYCLE_STOP is looked at (R90). -/
def State.slipPosted (p : PortId) (s : State) : State :=
  ((s.discardSample p).modCounters p fun c => { c with slips := satAdd c.slips 1 }).post p .cycleSlip 1

theorem slipPosted_port (s : State) (p : PortId) : (s.slipPosted p).port p = (s.port p).slipped := by
  rw [State.slipPosted, post_port, State.port_modCounters_self, discardSample_port]
  rfl

theorem slipPosted_posted (s : State) (p : PortId) : PostedLater s (s.slipPosted p) p .cycleSlip 1 :=
  ⟨s.arrivals, (post_posted _ p .cycleSlip 1).after rfl rfl rfl⟩

theorem slipPosted_tables (s : State) (p : PortId) :
    (s.slipPosted p).groups = s.groups ∧ (s.slipPosted p).ort = s.ort ∧ (s.slipPosted p).cpl.done = s.cpl.done := by
  rw [State.slipPosted, post_groups, post_ort, post_done]
  exact ⟨rfl, rfl, rfl⟩

theorem slip_eq (h : (s.port p).state = .cyclic) : s.slip p =
    if (s.port p).stopWaits = true ∧ (s.port p).cyc.underWay = none then (s.slipPosted p).finishStop p
    else s.slipPosted p := by
  change (s.slipPosted p).cycleEnds p = _
  rw [cycleEnds_eq, slipPosted_port]
  have hbusy : (s.port p).slipped.cyc.busy = (s.port p).cyc.underWay.isSome := by
    simp [Port.slipped, CycleEngine.busy, CycleEngine.discarded]
  have hwaits : (s.port p).slipped.state = .cyclic ∧ (s.port p).slipped.stopWaits = (s.port p).stopWaits := ⟨h, rfl⟩
  rw [hbusy, hwaits.1, hwaits.2]
  simp only [true_and, Option.isSome_eq_false_iff, Option.isNone_iff_eq_none]

/-! ### The cycle of a port that has entered it -/

section entered

variable (h : CycleEntered p m y s u) (hs : (s.port p).state = .armed → y.slot = none) (hc : y.state = .cyclic)

include h

/-- On a line about to be free the start waits for the guard (R89). -/
theorem CycleEntered.waits (hg : y.guardSoon s.micros) :
    OnlyPort p s (u.cycleAtStart p m) ∧ ListsKept s (u.cycleAtStart p m) ∧
      (u.cycleAtStart p m).cpl.done = u.cpl.done ∧
      (u.cycleAtStart p m).port p = { y with cyc := { y.cyc with startWait := some m, admitted := false } } := by
  have hmicros : u.micros = s.micros := congrArg (fun c => Control.time c / Config.unitsPerUs) h.only.1
  have hat := h.only.trans (cycleAtStart_at (.refl p u) m).onlyPort
  rw [cycleAtStart_guard (by rw [h.port, hmicros]; exact hg)] at hat ⊢
  exact ⟨hat, h.lists.trans ⟨rfl, rfl⟩, rfl, by rw [State.port_modCyc_self, h.port]⟩

include hs hc

/-- On a free line the cycle runs (R86 to R91). -/
theorem CycleEntered.runs {l : Link} (hl : y.link = some l) (hf : y.lf.state = .free) :
    CycleRuns p l m y s (u.cycleAtStart p m) ∧
      (y.endsAtStart ∨ (u.cycleAtStart p m).cpl.done = u.cpl.done) := by
  have hport := h.port
  subst hport
  rw [cycleAtStart_free hf]
  obtain ⟨hruns, hends⟩ := runCycle_cycleRuns hc hl hf m
  exact ⟨hruns.after h hs, hends.imp_right And.left⟩

/-- On a busy line the cycle slips, and a CYCLE_STOP that waited for it alone is finished (R90, R98, R99). -/
theorem CycleEntered.slips (hf : y.lf.state ≠ .free) (hg : ¬ y.guardSoon s.micros) :
    OnlyPort p s (u.cycleAtStart p m) ∧ PostedLater s (u.cycleAtStart p m) p .cycleSlip 1 ∧
      if y.stopWaits = true ∧ y.cyc.underWay = none then
        (u.cycleAtStart p m).port p = y.slipped.stopped ∧ GroupsLeft p s (u.cycleAtStart p m) ∧
        ∀ c w, y.slot = some (c, w.id) → s.Open [w] → HandedInOrder s (u.cycleAtStart p m) [(w, .ok, 0)]
      else
        (u.cycleAtStart p m).port p = y.slipped ∧ GroupsKept s (u.cycleAtStart p m) ∧
        (u.cycleAtStart p m).cpl.done = u.cpl.done := by
  have hport := h.port
  have hmicros : u.micros = s.micros := congrArg (fun c => Control.time c / Config.unitsPerUs) h.only.1
  have hat := h.only.trans (cycleAtStart_at (.refl p u) m).onlyPort
  have hslipped := slipPosted_port u p
  have hposted := (slipPosted_posted u p).after h.lists.events (congrArg Control.time h.only.1)
  obtain ⟨hgroups, hort, hdone⟩ := slipPosted_tables u p
  subst hport
  rw [cycleAtStart_busy hf (by rw [hmicros]; exact hg), slip_eq hc] at hat ⊢
  generalize u.slipPosted p = v at hat hslipped hposted hgroups hort hdone ⊢
  by_cases hstop : (u.port p).stopWaits = true ∧ (u.port p).cyc.underWay = none
  · rw [if_pos hstop] at hat ⊢
    rw [if_pos hstop]
    obtain ⟨hleft, hevents⟩ := finishStop_lists v p
    obtain ⟨hdone', hort'⟩ := h.kept_of_stopWaits hs hstop.1
    refine ⟨hat, hposted.imp fun n hn => hn.of_events hevents, by rw [finishStop_port, hslipped],
      ((leave_groupsLeft v p).of_groups hleft).after (hgroups.trans h.lists.groups), fun c w hw ho => ?_⟩
    have hpends : v.Pends w := pends_congr (hort.trans hort') (ho.pends (List.mem_singleton_self w))
    exact (finishStop_hands (k := c) (by rw [hslipped]; exact hw) hpends).inOrder_of (hdone.trans hdone')
  · rw [if_neg hstop] at hat ⊢
    rw [if_neg hstop]
    exact ⟨hat, hposted, hslipped, fun g => State.group_congr (hgroups.trans h.lists.groups) g, hdone⟩

end entered

/-! ### The start instant -/

/-- Settles O42. -/
theorem theStartInstantRunsOrSlips : Obligations.TheStartInstantRunsOrSlips := by
  intro p k m s s' hk hm hd hreach x moved waits runs begun guardSoon startsOk
  have hx : s'.port p = x := reaches_port hreach p
  have hexec : exec (.startInstant p) s = .next ((s'.withPort p (x.movedOn k m)).actOnStart p m) := by
    change atInstant (s.startDue p) (State.startNow p) s = _
    rw [startDue_eq hk hm hd, atInstant_next _ hreach, startNow_eq (hx ▸ hk) hm, hx]
  have hentered : CycleEntered p m begun s' ((s'.withPort p (x.movedOn k m)).enterCycle p m) := by
    have h := enterCycle_entered s' p k m
    rw [hx] at h
    exact h
  have hbegun : begun.lf = x.lf ∧ begun.link = x.link ∧ begun.cyc = x.cyc ∧ begun.counters = x.counters ∧
      (begun.stopWaits = true → begun.slot = x.slot) := by
    by_cases ha : x.state = .armed <;> simp [begun, ha, Port.stopWaits]
  obtain ⟨hlf, hlink, hcyc, hcounters, hslot⟩ := hbegun
  have hnone : (s'.port p).state = .armed → begun.slot = none := fun ha => by
    simp [begun, show x.state = .armed from hx ▸ ha]
  have hact : runs → exec (.startInstant p) s =
      .next (((s'.withPort p (x.movedOn k m)).enterCycle p m).cycleAtStart p m) := fun hruns => by
    rw [hexec, actOnStart_eq (by rw [port_withPort]; exact hruns)]
  have hcyclic : runs → begun.state = .cyclic := fun hruns => cycling_state (y := x.movedOn k m) hruns
  generalize (s'.withPort p (x.movedOn k m)).enterCycle p m = u at hact hentered
  obtain ⟨hs', -⟩ := reach_eq hreach
  have hgroups : s'.groups = s.groups := by rw [hs']
  have hstarted : ∀ t : State, t.cpl.done = u.cpl.done →
      startsOk t ∧ (x.state = .armed ∧ x.slot.isSome = true ∨ t.cpl.done = s.cpl.done) := fun t ht => by
    have h := hentered.started_of_done ht
    rw [hx, hs'] at h
    exact h
  refine ⟨fun hruns => ?_, fun l hruns hfree hl => ⟨_, hact hruns, ?_⟩, fun hruns hsoon => ⟨_, hact hruns, ?_⟩,
    fun hruns hfree hsoon => ⟨_, hact hruns, ?_⟩⟩
  · rw [hexec, actOnStart_of_not (by rw [port_withPort]; exact hruns)]
    rfl
  · obtain ⟨hcycle, hends⟩ := hentered.runs hnone (hcyclic hruns) (hlink.trans hl) (hlf ▸ hfree)
    exact ⟨hcycle, hends.imp_right (hstarted _)⟩
  · obtain ⟨honly, hlists, hdone, hport⟩ := hentered.waits (by rw [Port.guardSoon, hlf]; exact hsoon)
    exact ⟨honly, fun g => State.group_congr (hlists.groups.trans hgroups) g, hlists.events.trans (by rw [hs']),
      (hstarted _ hdone).1, by rw [hport, hcyc]⟩
  · obtain ⟨honly, hposted, hrest⟩ := hentered.slips hnone (hcyclic hruns) (hlf ▸ hfree)
      (by rw [Port.guardSoon, hlf]; exact hsoon)
    rw [Port.slipped, hcounters, hcyc] at hrest
    refine ⟨honly, hposted, ?_⟩
    by_cases hstop : begun.stopWaits = true ∧ x.cyc.underWay = none
    · rw [if_pos hstop] at hrest ⊢
      obtain ⟨hport, hleft, hhanded⟩ := hrest
      rw [hslot hstop.1, hs'] at hhanded
      exact ⟨hport, hleft.after hgroups, hhanded⟩
    · rw [if_neg hstop] at hrest ⊢
      obtain ⟨hport, hkept, hdone⟩ := hrest
      exact ⟨hport, fun g => (hkept g).trans (State.group_congr hgroups g), hstarted _ hdone⟩

end Sys2Proof.Machine
end

section
/-! PROOFS. The first start of a member when its group is fired now (R69, R70, R75), and the slips pending for a port
(R149, R150). -/

namespace Sys2Proof.Machine

/- Each proof waits for the kernel; checked one after another, they need no more threads than the rest of the package. -/
set_option Elab.async false

variable {p q : PortId} {s t : State} {g : GroupId} {x : Group} {d phase period bound k origin : Nat}

/-! ### The first start (R69, R70, R75) -/

/-- A group fired at the timebase value `now` (R67 to R69, R75). -/
def Group.firedAt (now : Word) (x : Group) : Group :=
  { x with running := some { epoch := now + 100, next := now + 100, fresh := true }, beatNumber := 0 }

/-- Counted from the epoch of a fire, the index is that of the first instant not earlier than the bound, whatever the
divisor. -/
theorem firstIndex_fresh (hp : 1 ≤ period) (hd : 1 ≤ d) (hk : FirstInstant (origin + phase) (d * period) bound k) :
    firstIndex 0 period d phase (ceilUs bound - origin) 0 = (k * d : Nat) := by
  obtain ⟨hreach, hfirst⟩ := hk
  have hspan : ∀ j : Nat, (j * (d * period) : Nat) = ((j * d : Nat) : Int) * period := fun j => by push_cast; ring
  apply le_antisymm
  · have hspan := hspan k
    have hreach := (ceilUs_le_iff _ _).mpr hreach
    exact firstIndex_le hp (by omega) (by omega) ⟨k, by push_cast; ring⟩
  · obtain ⟨hlow, hx, c, hc⟩ :=
      firstIndex_legal (number := 0) (phase := phase) (x := ceilUs bound - origin) (lo := 0) hp hd
    generalize firstIndex 0 period d phase (ceilUs bound - origin) 0 = i at *
    have hc0 : 0 ≤ c := nonneg_of_mul_nonneg_right (a := (d : Int)) (by omega) (by omega)
    obtain ⟨j, rfl⟩ := Int.eq_ofNat_of_zero_le hc0
    obtain rfl : i = (j * d : Nat) := by push_cast at hc ⊢; rw [Int.mul_comm]; omega
    have hlate : bound ≤ 32 * (origin + phase + j * (d * period)) := by
      have hspan := hspan j
      rw [← ceilUs_le_iff]
      omega
    have hkj : k ≤ j := not_lt.mp fun hjk => absurd (hfirst j hjk) (by omega)
    exact Int.ofNat_le.mpr (Nat.mul_le_mul_right d hkj)

/-- The epoch of a fire taken now lies 100 µs ahead (R62, R67, R68). -/
theorem timeOf_epoch (s : State) : s.timeOf (s.timebase + 100) = 32 * (s.micros + 100) := by
  have hd : (s.timebase + 100 - s.timebase).toNat = 100 := by rw [BitVec.add_comm, BitVec.add_sub_cancel]; rfl
  unfold State.timeOf
  dsimp only
  rw [hd, if_pos (by decide), Nat.mul_comm]
  rfl

/-- In a group fired now, the first start of a member and the number of instants passed before it (R69, R70, R75). -/
theorem firstStart_fired (hrun : (s.group g).running = (x.firedAt s.timebase).running) (hnumber : (s.group g).beatNumber = 0)
    (hp : 1 ≤ (s.group g).period) (hd : 1 ≤ d)
    (hk : FirstInstant (s.micros + 100 + phase) (d * (s.group g).period) bound k) :
    s.firstStart g d phase bound =
      some (s.timebase + BitVec.ofNat 32 (100 + phase + k * (d * (s.group g).period)), k) := by
  have hus : s.timeOf (s.timebase + 100) / Config.unitsPerUs = s.micros + 100 := by
    rw [timeOf_epoch]
    exact Nat.mul_div_cancel_left _ (by decide)
  have hcount : (((k * d : Nat) : Int) / d).toNat = k := by
    rw [← Int.natCast_ediv, Nat.mul_div_cancel _ hd, Int.toNat_natCast]
  simp only [State.firstStart, hrun, Group.firedAt, Option.map_some, hnumber, hus, if_true, firstIndex_fresh hp hd hk,
    hcount]
  congr 2
  rw [State.timebase, ← BitVec.ofNat_add, ← BitVec.ofInt_natCast]
  congr 1
  push_cast
  ring

theorem startBound_eq (s : State) (lineFree : Nat) : s.startBound lineFree = max lineFree (32 * (s.micros + 64)) := by
  rw [State.startBound, usUnits, Nat.mul_comm]
  rfl

theorem lineFree_congr (hp : t.port p = s.port p) (ht : t.time = s.time) : t.lineFree p = s.lineFree p := by
  unfold State.lineFree
  rw [hp, ht]

/-! ### The slips pending for a port (R149, R150) -/

theorem satAdd_zero (a : Word) : satAdd a 0#32 = a := by
  simp [satAdd, a.isLt]

theorem zero_satAdd (a : Word) : satAdd 0#32 a = a := by
  simp [satAdd, a.isLt]

theorem pendingSlips_congr (h : t.cpl.events = s.cpl.events) (p : PortId) : t.pendingSlips p = s.pendingSlips p := by
  rw [State.pendingSlips, h]
  rfl

/-- An event that a port has pending, by its kind (R149). -/
def Event.of (q : PortId) (k : EventKind) (e : Event) : Bool := e.port = q ∧ e.kind = k

theorem Event.of_iff {k : EventKind} {e : Event} : e.of q k = true ↔ e.port = q ∧ e.kind = k := decide_eq_true_iff

theorem pendingSlips_eq (s : State) (q : PortId) :
    s.pendingSlips q = ((s.cpl.events.find? (Event.of q .cycleSlip)).map (·.detail)).getD 0 := rfl

/-- The entries after a post: one that pends already occurs again, else one joins the list (R150). -/
theorem post_events_eq (s : State) (p : PortId) (k : EventKind) (d : Word) : (s.post p k d).cpl.events =
    if s.cpl.events.any (Event.of p k) = true then s.cpl.events.map fun e => if e.of p k = true then e.again d else e
    else s.cpl.events ++
      [{ port := p, kind := k, count := 1, detail := d, first := s.timebase, arrival := s.arrivals }] := by
  unfold State.post Event.of
  split <;> simp [State.modCpl]

theorem post_find (s : State) (p q : PortId) (k k' : EventKind) (d : Word) (h : s.cpl.events.any (Event.of p k) = true) :
    (s.post p k d).cpl.events.find? (Event.of q k') =
      (s.cpl.events.find? (Event.of q k')).map fun e => if e.of p k = true then e.again d else e := by
  have hkey : (Event.of q k' ∘ fun e => if e.of p k = true then e.again d else e) = Event.of q k' := by
    funext e
    simp only [Function.comp_def]
    split <;> rfl
  rw [post_events_eq, if_pos h, List.find?_map, hkey]

/-- The slips pending for other ports stay. -/
theorem post_pendingSlips_ne (h : q ≠ p) (s : State) (k : EventKind) (d : Word) :
    (s.post p k d).pendingSlips q = s.pendingSlips q := by
  rw [pendingSlips_eq, pendingSlips_eq]
  by_cases hany : s.cpl.events.any (Event.of p k) = true
  · rw [post_find _ _ _ _ _ _ hany, Option.map_map]
    refine congrArg (Option.getD · 0) (Option.map_congr fun e he => ?_)
    have hq := (Event.of_iff.mp (List.find?_some he)).1
    have hne : ¬ e.of p k = true := fun hp => h (hq.symm.trans (Event.of_iff.mp hp).1)
    simp only [Function.comp_def, if_neg hne]
  · rw [post_events_eq, if_neg hany, List.find?_append]
    have hnew : Event.of q .cycleSlip
        { port := p, kind := k, count := 1, detail := d, first := s.timebase, arrival := s.arrivals } = false := by
      simp [Event.of, h.symm]
    rw [List.find?_singleton, hnew]
    simp

/-- Slips posted for a port add up (R150). -/
theorem post_pendingSlips (s : State) (p : PortId) (d : Word) :
    (s.post p .cycleSlip d).pendingSlips p = satAdd (s.pendingSlips p) d := by
  rw [pendingSlips_eq, pendingSlips_eq]
  by_cases hany : s.cpl.events.any (Event.of p .cycleSlip) = true
  · rw [post_find _ _ _ _ _ _ hany]
    cases hf : s.cpl.events.find? (Event.of p .cycleSlip) with
    | none =>
      obtain ⟨e, he, hof⟩ := List.any_eq_true.mp hany
      exact absurd hof (List.find?_eq_none.mp hf e he)
    | some e =>
      have he := List.find?_some hf
      have hkind : e.kind = .cycleSlip := (Event.of_iff.mp he).2
      simp [he, Event.again, hkind]
  · have hnone : s.cpl.events.find? (Event.of p .cycleSlip) = none := by
      simpa using hany
    rw [post_events_eq, if_neg hany, List.find?_append, hnone, List.find?_singleton]
    simpa [Event.of] using (zero_satAdd d).symm

end Sys2Proof.Machine
end

section
/-! PROOFS. What moving one member of a group onto a new schedule leaves as it was (R69, R75, R76, R99): the other ports, the
groups but for a port whose waiting CYCLE_STOP completes, and the requests that no control slot holds. -/

namespace Sys2Proof.Machine

/- Each proof waits for the kernel; checked one after another, they need no more threads than the rest of the package. -/
set_option Elab.async false

variable {p q : PortId} {s t u : State} {w : OrtEntry} {i : Nat}

/-! ### Requests at other places of the table (R131, R139) -/

theorem complete_ids (s : State) (i : Nat) (st : Status) (v : Word) :
    (s.complete i st v).ort.map (·.id) = s.ort.map (·.id) := by
  unfold State.complete
  split
  · rfl
  · split
    · rfl
    · simp only [setOrtState_ort, List.map_map]
      exact List.map_congr_left fun e _ => moved_id i .done e

theorem counted_ids (s : State) (i : Nat) : (s.counted i).ort.map (·.id) = s.ort.map (·.id) := by
  rw [counted_ort, List.map_map]
  rfl

theorem foldl_completeAbort_ids (l : List OrtEntry) (s : State) :
    (l.foldl State.completeAbort s).ort.map (·.id) = s.ort.map (·.id) := by
  induction l generalizing s with
  | nil => rfl
  | cons e l ih => exact (ih _).trans (complete_ids s _ _ _)

/-- A hand-over keeps every place of the table. -/
theorem handOver_ids (s : State) (i : Nat) (st : Status) (v : Word) :
    (s.handOver i st v).ort.map (·.id) = s.ort.map (·.id) := by
  rw [handOver_eq_foldl, foldl_completeAbort_ids, counted_ids, complete_ids]

/-- A place of the table is in use where its name is among the entries' names. -/
theorem ortFind_isSome_iff (s : State) (i : Nat) : (s.ortFind i).isSome = true ↔ i ∈ s.ort.map (·.id) := by
  simp [State.ortFind, List.find?_isSome]

/-- The table names its entries apart, and that of the request `w` is ROUTED, whatever it waits for. -/
def State.StandsRouted (s : State) (w : OrtEntry) : Prop :=
  (s.ort.map (·.id)).Nodup ∧ ∃ a, s.ortFind w.id = some { w with st := .routed, awaited := a }

theorem complete_standsRouted (h : i ≠ w.id) (hw : s.StandsRouted w) (st : Status) (v : Word) :
    (s.complete i st v).StandsRouted w :=
  ⟨by rw [complete_ids]; exact hw.1, by rw [complete_ortFind_ne h]; exact hw.2⟩

/-- An ABORT that a hand-over settles is WAITING, and so is not the routed request. -/
theorem settledBy_id_ne (hw : s.StandsRouted w) : ∀ e ∈ s.settledBy i, e.id ≠ w.id := by
  intro e he hid
  obtain ⟨hnodup, a, hfind⟩ := hw
  obtain ⟨hmem, hset⟩ := List.mem_filter.mp he
  have hfound := ortFind_of_mem s hnodup hmem
  rw [hid, hfind] at hfound
  cases hfound
  simp at hset

theorem standsRouted_congr (h : t.ort = s.ort) (hw : s.StandsRouted w) : t.StandsRouted w := by
  simpa only [State.StandsRouted, State.ortFind, h] using hw

theorem foldl_completeAbort_standsRouted {l : List OrtEntry} (hl : ∀ e ∈ l, e.id ≠ w.id) (hw : s.StandsRouted w) :
    (l.foldl State.completeAbort s).StandsRouted w := by
  induction l generalizing s with
  | nil => exact hw
  | cons e l ih =>
    exact ih (fun x hx => hl x (List.mem_cons_of_mem _ hx)) (complete_standsRouted (hl e List.mem_cons_self) hw _ _)

/-- A hand-over of another request leaves a routed one routed. -/
theorem handOver_standsRouted (h : i ≠ w.id) (hw : s.StandsRouted w) (st : Status) (v : Word) :
    (s.handOver i st v).StandsRouted w := by
  rw [handOver_eq_foldl]
  refine foldl_completeAbort_standsRouted (settledBy_id_ne hw) ?_
  obtain ⟨hnodup, a, hfind⟩ := complete_standsRouted h hw st v
  exact ⟨by rw [counted_ids]; exact hnodup, _, by rw [counted_ortFind, hfind]; rfl⟩

/-! ### One member -/

/-- From `s` to `t` the member at port `p` moved: no other port changed, nor its slips; the table kept its places, and what
the port's control slot did not hold stayed; the groups are as they were, but that the port may have left them, completing a
CYCLE_STOP. -/
structure MemberMoved (p : PortId) (s t : State) : Prop where
  only : OnlyPort p s t
  slips : ∀ q, q ≠ p → t.pendingSlips q = s.pendingSlips q
  slot : (t.port p).slot = (s.port p).slot ∨ (t.port p).slot = none
  ids : t.ort.map (·.id) = s.ort.map (·.id)
  done : DoneKept s t
  handed : ∃ l, t.cpl.done = s.cpl.done ++ l
  routed : ∀ w, (∀ k, (s.port p).slot ≠ some (k, w.id)) → s.StandsRouted w → t.StandsRouted w
  groups : GroupsKept s t ∨ ((s.port p).stopWaits = true ∧ GroupsLeft p s t)

/-- A change of one port and its pending slips, which keeps the slot. -/
theorem MemberMoved.of_kept (ho : OnlyPort p s t) (hs : (t.port p).slot = (s.port p).slot)
    (he : ∀ q, q ≠ p → t.pendingSlips q = s.pendingSlips q) (hort : t.ort = s.ort) (hg : t.groups = s.groups)
    (hd : t.cpl.done = s.cpl.done) : MemberMoved p s t where
  only := ho
  slips := he
  slot := .inl hs
  ids := congrArg _ hort
  done := .of_ort hort
  handed := ⟨[], by rw [hd, List.append_nil]⟩
  routed _ _ hw := standsRouted_congr hort hw
  groups := .inl fun g => State.group_congr hg g

theorem MemberMoved.refl (p : PortId) (s : State) : MemberMoved p s s :=
  .of_kept (At.refl p s).onlyPort rfl (fun _ _ => rfl) rfl rfl rfl

theorem modPort_memberMoved (f : Port → Port) (hf : (f (s.port p)).slot = (s.port p).slot) :
    MemberMoved p s (s.modPort p f) :=
  .of_kept (modPort_at (.refl p s) f).onlyPort (by rw [State.port_modPort_self, hf]) (fun _ _ => rfl) rfl rfl rfl

theorem stopWaits_of_slot {x y : Port} (h : x.slot = y.slot ∨ x.slot = none) (hx : x.stopWaits = true) :
    y.stopWaits = true := by
  rcases h with h | h
  · rwa [Port.stopWaits, ← h]
  · simp [Port.stopWaits, h] at hx

theorem GroupsLeft.trans (h : GroupsLeft p s t) (k : GroupsLeft p t u) : GroupsLeft p s u := fun g => by
  rw [k g, h g]
  simp [List.filter_filter]

theorem MemberMoved.trans (h : MemberMoved p s t) (k : MemberMoved p t u) : MemberMoved p s u where
  only := h.only.trans k.only
  slips q hq := (k.slips q hq).trans (h.slips q hq)
  slot := by
    rcases k.slot with hk | hk
    · rw [hk]
      exact h.slot
    · exact .inr hk
  ids := k.ids.trans h.ids
  done := h.done.trans k.done
  handed := by
    obtain ⟨l, hl⟩ := h.handed
    obtain ⟨l', hl'⟩ := k.handed
    exact ⟨l ++ l', by rw [hl', hl, List.append_assoc]⟩
  routed w hw hs := k.routed w (fun c => by
    rcases h.slot with hc | hc
    · rw [hc]
      exact hw c
    · rw [hc]
      simp) (h.routed w hw hs)
  groups := by
    rcases h.groups with hg | ⟨hwaits, hg⟩ <;> rcases k.groups with hk | ⟨hwaits', hk⟩
    · exact .inl fun g => (hk g).trans (hg g)
    · exact .inr ⟨stopWaits_of_slot h.slot hwaits', fun g => by rw [hk g, hg g]⟩
    · exact .inr ⟨hwaits, fun g => by rw [hk g, hg g]⟩
    · exact .inr ⟨hwaits, hg.trans hk⟩

theorem post_memberMoved (s : State) (p : PortId) (k : EventKind) (d : Word) : MemberMoved p s (s.post p k d) :=
  .of_kept (post_at (.refl p s) _ _ _).onlyPort (by rw [post_port]) (fun _ hq => post_pendingSlips_ne hq s k d)
    (post_ort s p k d) (post_groups s p k d) (post_done s p k d)

theorem discardSample_memberMoved (s : State) (p : PortId) : MemberMoved p s (s.discardSample p) :=
  .of_kept (discardSample_at (.refl p s)).onlyPort (by rw [discardSample_port]) (fun _ _ => rfl) rfl rfl rfl

theorem toReady_tables (s : State) (p : PortId) :
    (s.toReady p).ort = s.ort ∧ (s.toReady p).cpl = s.cpl := by
  simp [State.toReady, State.discardSample]

/-- A waiting CYCLE_STOP completes, and its port leaves its groups (R99). -/
theorem finishStop_memberMoved (h : (s.port p).stopWaits = true) : MemberMoved p s (s.finishStop p) := by
  obtain ⟨hgroups, hevents⟩ := finishStop_lists s p
  have hport := finishStop_port s p
  have honly : OnlyPort p s (s.finishStop p) := (finishStop_at (.refl p s)).onlyPort
  have hleft : GroupsLeft p s (s.finishStop p) := (leave_groupsLeft s p).of_groups hgroups
  obtain ⟨id, hslot⟩ : ∃ id, (s.port p).slot = some (.cycleStop, id) := by
    unfold Port.stopWaits at h
    split at h
    · exact ⟨_, ‹_›⟩
    · cases h
  obtain ⟨v, ⟨hort, hcpl⟩, heq⟩ :
      ∃ v : State, (v.ort = s.ort ∧ v.cpl = s.cpl) ∧ s.finishStop p = v.handOver id .ok 0 := by
    refine ⟨(s.toReady p).modPort p fun x => { x with slot := none }, toReady_tables s p, ?_⟩
    unfold State.finishStop
    dsimp only
    rw [hslot]
  refine ⟨honly, fun q _ => pendingSlips_congr hevents q, .inr (by rw [hport]; rfl), ?_, ?_, ?_, fun w hw hs => ?_,
    .inr ⟨h, hleft⟩⟩
  · rw [heq, handOver_ids, hort]
  · rw [heq]
    exact (DoneKept.of_ort hort).trans (handOver_doneKept v id .ok 0)
  · rw [heq, ← hcpl]
    exact (handOver_tablesOnly v id .ok 0).done
  · rw [heq]
    exact handOver_standsRouted (fun hid => hw .cycleStop (hid ▸ hslot)) (standsRouted_congr hort hs) .ok 0

theorem cycleEnds_memberMoved (s : State) (p : PortId) : MemberMoved p s (s.cycleEnds p) := by
  rw [cycleEnds_eq]
  split
  · rename_i h
    exact finishStop_memberMoved h.2.1
  · exact .refl p s

/-! ### A member given its first start, and one moved onto a new epoch (R69, R75, R76) -/

theorem setNext_memberMoved (s : State) (p : PortId) (n : Option Word) : MemberMoved p s (s.setNext p n) :=
  modPort_memberMoved _ rfl

theorem firstFire_memberMoved (g : GroupId) (m : Member) (s : State) : MemberMoved m.port s (s.firstFire g m) := by
  unfold State.firstFire
  dsimp only
  split
  · exact setNext_memberMoved s m.port _
  · exact .refl m.port s

/-- A re-fire, first part: the next start `n`, and a cycle whose sampling had come withdrawn (R75, R99). -/
def State.moveStart (p : PortId) (c : Sched) (n : Word) (s : State) : State :=
  if c.next = some n then s
  else
    let s := s.setNext p (some n)
    if c.delivered && ((s.port p).state = .armed || (s.port p).state = .cyclic) then (s.discardSample p).cycleEnds p else s

/-- A re-fire, second part: the instants passed are slips (R76). -/
def State.slipBy (p : PortId) (k : Nat) (s : State) : State :=
  if k ≠ 0 && ((s.port p).state = .armed || (s.port p).state = .cyclic) then
    (s.modCounters p fun c => { c with slips := satAdd c.slips (BitVec.ofNat 32 k) }).post p .cycleSlip (BitVec.ofNat 32 k)
  else s

theorem refire_of_none {g : GroupId} {m : Member} (h : (s.port m.port).sched = none) : s.refire g m = s := by
  unfold State.refire
  dsimp only
  rw [h]
  split
  · contradiction
  · rfl

theorem refire_of_unfired {g : GroupId} {m : Member} (h : (s.group g).running = none) : s.refire g m = s := by
  unfold State.refire State.firstStart
  dsimp only
  rw [h]
  rfl

/-- The line-free bound of a re-fire (R71, R75). -/
def State.refireBound (s : State) (p : PortId) : Nat :=
  s.startBound (if (s.port p).state = .recovery then s.time else s.lineFree p)

theorem refire_eq {g : GroupId} {m : Member} {n : Word} {k : Nat} {c : Sched}
    (hn : s.firstStart g m.divisor m.phase (s.refireBound m.port) = some (n, k)) (hc : (s.port m.port).sched = some c) :
    s.refire g m = (s.moveStart m.port c n).slipBy m.port k := by
  unfold State.refireBound at hn
  simp only [State.refire, hn, hc]
  rfl

theorem moveStart_memberMoved (s : State) (p : PortId) (c : Sched) (n : Word) : MemberMoved p s (s.moveStart p c n) := by
  have hnext := setNext_memberMoved s p (some n)
  unfold State.moveStart
  dsimp only
  split
  · exact .refl p s
  · split
    · exact hnext.trans ((discardSample_memberMoved _ p).trans (cycleEnds_memberMoved _ p))
    · exact hnext

theorem slipBy_memberMoved (s : State) (p : PortId) (k : Nat) : MemberMoved p s (s.slipBy p k) := by
  unfold State.slipBy
  split
  · exact (modPort_memberMoved _ rfl).trans (post_memberMoved _ p _ _)
  · exact .refl p s

theorem refire_memberMoved (g : GroupId) (m : Member) (s : State) : MemberMoved m.port s (s.refire g m) := by
  cases hc : (s.port m.port).sched with
  | none =>
    rw [refire_of_none hc]
    exact .refl m.port s
  | some c =>
    cases hn : s.firstStart g m.divisor m.phase (s.refireBound m.port) with
    | none =>
      rw [refire_of_unfired (by simpa [State.firstStart] using hn)]
      exact .refl m.port s
    | some n =>
      rw [refire_eq hn hc]
      exact (moveStart_memberMoved s _ c _).trans (slipBy_memberMoved _ _ _)

end Sys2Proof.Machine
end

section
/-! PROOFS. What moving one member of a group fired now makes of its port (R69, R75, R76, R99). -/

namespace Sys2Proof.Machine

/- Each proof waits for the kernel; checked one after another, they need no more threads than the rest of the package. -/
set_option Elab.async false

variable {p : PortId} {s t u : State} {g : GroupId} {m : Member} {k : Nat} {c : Sched} {n : Word} {x : Port}

/-! ### The port of a member moved (R75, R76) -/

/-- The port carries its starts out, so that an instant passed is a slip (R76). -/
abbrev Port.carriesOut (x : Port) : Prop := x.state = .armed ∨ x.state = .cyclic

/-- A move onto the start `n` withdraws a start whose sampling had come (R75). -/
abbrev Port.withdraws (x : Port) (c : Sched) (n : Word) : Prop := c.next ≠ some n ∧ c.delivered = true ∧ x.carriesOut

/-- A move onto the start `n` ends the last cycle for which a CYCLE_STOP waited (R99). -/
abbrev Port.stopsAt (x : Port) (c : Sched) (n : Word) : Prop :=
  x.withdraws c n ∧ x.state = .cyclic ∧ x.stopWaits = true ∧ x.cyc.underWay = none

/-- The port moved onto the start `n` (R75). -/
def Port.movedTo (x : Port) (c : Sched) (n : Word) : Port :=
  { x with
    sched := if c.next = some n then x.sched else some { c with next := some n, delivered := false }
    cyc := if x.withdraws c n then x.cyc.discarded else x.cyc }

/-- The port with `k` slips counted, where it carries its starts out (R76). -/
def Port.slippedBy (x : Port) (k : Nat) : Port :=
  { x with counters :=
      if x.carriesOut then { x.counters with slips := satAdd x.counters.slips (BitVec.ofNat 32 k) } else x.counters }

theorem discarded_discarded (c : CycleEngine) : c.discarded.discarded = c.discarded := by
  simp [CycleEngine.discarded, List.filter_filter]

theorem setNext_port (h : (s.port p).sched = some c) (n : Option Word) :
    (s.setNext p n).port p = { s.port p with sched := some { c with next := n, delivered := false } } := by
  rw [State.setNext, State.port_modPort_self, h]
  rfl

theorem setNext_port_of_none (h : (s.port p).sched = none) (n : Option Word) : (s.setNext p n).port p = s.port p := by
  have hsched : ((s.port p).sched.map fun k => { k with next := n, delivered := false }) = (s.port p).sched := by
    rw [h]
    rfl
  rw [State.setNext, State.port_modPort_self, hsched]

/-- A port that waits for no more than the withdrawn cycle goes to READY, and its CYCLE_STOP is DONE (R99). -/
theorem moveStart_stops (hc : (s.port p).sched = some c) (h : (s.port p).stopsAt c n) :
    (s.moveStart p c n).port p = (s.port p).stopped ∧ (s.moveStart p c n).cpl.events = s.cpl.events ∧
      ∀ q id e, (s.port p).slot = some (q, id) → s.ortFind id = some e →
        (s.moveStart p c n).entryState id = some .done := by
  obtain ⟨⟨hne, hdelivered, hcarries⟩, hcyclic, hwaits, hunder⟩ := h
  have hv : ((s.setNext p (some n)).discardSample p).port p = { s.port p with
      sched := some { c with next := some n, delivered := false }, cyc := (s.port p).cyc.discarded } := by
    rw [discardSample_port, setNext_port hc]
  have hmove : s.moveStart p c n = ((s.setNext p (some n)).discardSample p).finishStop p := by
    have hcond : (c.delivered && (((s.setNext p (some n)).port p).state = .armed ||
        ((s.setNext p (some n)).port p).state = .cyclic)) = true := by
      rw [setNext_port hc]
      simp [hdelivered, hcyclic]
    unfold State.moveStart
    rw [if_neg hne]
    dsimp only
    rw [if_pos hcond, cycleEnds_eq, hv]
    refine if_pos ⟨hcyclic, hwaits, ?_⟩
    simp [CycleEngine.busy, CycleEngine.discarded, hunder]
  rw [hmove]
  have hort : ((s.setNext p (some n)).discardSample p).ort = s.ort := rfl
  have hevents : ((s.setNext p (some n)).discardSample p).cpl.events = s.cpl.events := rfl
  generalize (s.setNext p (some n)).discardSample p = v at hv hort hevents ⊢
  refine ⟨?_, (finishStop_lists v p).2.trans hevents, fun q id e hslot he => ?_⟩
  · rw [finishStop_port, hv]
    simp only [Port.stopped, discarded_discarded]
  · unfold State.finishStop
    dsimp only
    rw [hv, hslot]
    refine handOver_entryState (e := e) ?_ .ok 0
    rw [State.ortFind, State.modPort_ort, (toReady_tables _ p).1, hort]
    exact he

/-- Any other port goes on, its old start and a sample of it withdrawn where they differ (R75). -/
theorem moveStart_moves (hc : (s.port p).sched = some c) (h : ¬ (s.port p).stopsAt c n) :
    (s.moveStart p c n).port p = (s.port p).movedTo c n ∧ (s.moveStart p c n).cpl.events = s.cpl.events := by
  unfold State.moveStart Port.movedTo
  by_cases hsame : c.next = some n
  · rw [if_pos hsame, if_pos hsame, if_neg fun hw : (s.port p).withdraws c n => hw.1 hsame]
    exact ⟨rfl, rfl⟩
  · rw [if_neg hsame, if_neg hsame]
    dsimp only
    have hv : ((s.setNext p (some n)).discardSample p).port p = { s.port p with
        sched := some { c with next := some n, delivered := false }, cyc := (s.port p).cyc.discarded } := by
      rw [discardSample_port, setNext_port hc]
    rw [setNext_port hc]
    by_cases hw : (s.port p).withdraws c n
    · obtain ⟨-, hdelivered, hcarries⟩ := hw
      have hends : ((s.setNext p (some n)).discardSample p).cycleEnds p = (s.setNext p (some n)).discardSample p := by
        rw [cycleEnds_eq, hv]
        refine if_neg fun hend => h ⟨⟨hsame, hdelivered, hcarries⟩, hend.1, hend.2.1, ?_⟩
        simpa [CycleEngine.busy, CycleEngine.discarded] using hend.2.2
      rw [if_pos (by simpa [hdelivered] using hcarries), if_pos ⟨hsame, hdelivered, hcarries⟩, hends]
      exact ⟨hv, rfl⟩
    · rw [if_neg (by simpa [hsame] using hw), if_neg hw, setNext_port hc]
      exact ⟨rfl, rfl⟩

theorem slipBy_port (s : State) (p : PortId) (k : Nat) :
    (s.slipBy p k).port p = (s.port p).slippedBy k ∧
      (s.slipBy p k).pendingSlips p = if (s.port p).carriesOut then satAdd (s.pendingSlips p) (BitVec.ofNat 32 k)
        else s.pendingSlips p := by
  unfold State.slipBy Port.slippedBy
  by_cases hcarries : (s.port p).carriesOut
  · rw [if_pos hcarries, if_pos hcarries]
    by_cases hk : k = 0
    · subst hk
      rw [if_neg (by simp)]
      exact ⟨by rw [satAdd_zero], (satAdd_zero _).symm⟩
    · rw [if_pos (by simpa [hk] using hcarries), post_port, State.port_modCounters_self, post_pendingSlips]
      exact ⟨rfl, rfl⟩
  · rw [if_neg hcarries, if_neg hcarries, if_neg (by simpa using fun _ => not_or.mp hcarries)]
    exact ⟨rfl, rfl⟩

theorem slipBy_of_not_carriesOut (h : ¬ (s.port p).carriesOut) (k : Nat) : s.slipBy p k = s := by
  unfold State.slipBy
  exact if_neg (by simpa using fun _ => not_or.mp h)

/-! ### A member of a group fired now -/

/-- `s` stands for the state before the fire of `g`, and `t` for one in which `g` has been fired and the member at port `p`
has not yet moved. -/
structure AtFire (g : GroupId) (p : PortId) (s t : State) : Prop where
  time : t.time = s.time
  port : t.port p = s.port p
  slips : t.pendingSlips p = s.pendingSlips p
  ids : t.ort.map (·.id) = s.ort.map (·.id)
  running : (t.group g).running = ((s.group g).firedAt s.timebase).running
  beatNumber : (t.group g).beatNumber = 0
  period : (t.group g).period = (s.group g).period

section member

variable (h : AtFire g m.port s t) (hp : 1 ≤ (s.group g).period) (hd : 1 ≤ m.divisor)
  (hk : FirstInstant (s.micros + 100 + m.phase) (m.divisor * (s.group g).period) (s.fireBound g m.port) k)

include h hp hd hk

/-- The first start that the member is given, and the instants passed before it (R69, R70, R75). -/
theorem AtFire.firstStart : t.firstStart g m.divisor m.phase (s.fireBound g m.port) =
    some (s.timebase + BitVec.ofNat 32 (100 + m.phase + k * (m.divisor * (s.group g).period)), k) := by
  have hbase : t.timebase = s.timebase ∧ t.micros = s.micros := by
    simp only [State.timebase, State.micros, h.time, and_self]
  have hrun := h.running
  rw [← hbase.1] at hrun ⊢
  rw [← h.period] at hp hk ⊢
  rw [← hbase.2] at hk
  exact firstStart_fired hrun h.beatNumber hp hd hk

/-- From UNFIRED a member that waits in ARMED is given its first start (R69). -/
theorem AtFire.firstFire_fired (hrun : (s.group g).running = none) : MemberFired g m k s (t.firstFire g m) := by
  have hbound : t.startBound (t.lineFree m.port) = s.fireBound g m.port := by
    rw [startBound_eq, lineFree_congr h.port h.time, State.micros, h.time, State.fireBound, if_neg (by simp [hrun])]
    rfl
  have hfirst := h.firstStart hp hd hk
  have hport := h.port
  unfold MemberFired State.firstFire
  dsimp only
  rw [if_pos hrun, hbound, hfirst, hport]
  by_cases ha : (s.port m.port).state = .armed
  · rw [if_pos ha]
    cases hc : (s.port m.port).sched with
    | none =>
      rw [if_pos (by simp [ha]), setNext_port_of_none (hport ▸ hc)]
      exact hport
    | some c =>
      dsimp only
      by_cases hn : c.next = none
      · rw [if_pos hn, if_pos (by simp [ha, hn]), setNext_port (hport ▸ hc), hport]
        rfl
      · rw [if_neg hn, if_neg (by simp [hn]), hport]
  · rw [if_neg ha, if_neg (by simp [ha]), hport]

/-- From RUNNING a member moves onto the new schedule (R75, R76, R99). -/
theorem AtFire.refire_fired (hrun : (s.group g).running ≠ none) : MemberFired g m k s (t.refire g m) := by
  have hbound : t.refireBound m.port = s.fireBound g m.port := by
    rw [State.refireBound, startBound_eq, lineFree_congr h.port h.time, State.micros, h.time, h.port, State.fireBound]
    simp only [hrun, ne_eq, not_false_eq_true, true_and]
    rfl
  have hfirst := h.firstStart hp hd hk
  rw [← hbound] at hfirst
  have hport := h.port
  unfold MemberFired
  dsimp only
  rw [if_neg hrun]
  generalize s.timebase + BitVec.ofNat 32 (100 + m.phase + k * (m.divisor * (s.group g).period)) = n at hfirst ⊢
  cases hc : (s.port m.port).sched with
  | none =>
    rw [refire_of_none (hport ▸ hc)]
    exact hport
  | some c =>
    rw [refire_eq hfirst (hport ▸ hc)]
    dsimp only
    by_cases hstop : (s.port m.port).stopsAt c n
    · rw [if_pos hstop]
      obtain ⟨hmoved, hevents, hdone⟩ := moveStart_stops (hport ▸ hc) (hport ▸ hstop)
      rw [slipBy_of_not_carriesOut (by rw [hmoved]; simp [Port.stopped])]
      refine ⟨hmoved.trans (congrArg _ hport), (pendingSlips_congr hevents _).trans h.slips, fun q id e hslot he => ?_⟩
      have hfound : (t.ortFind id).isSome = true := by
        rw [ortFind_isSome_iff, h.ids, ← ortFind_isSome_iff, he]
        rfl
      obtain ⟨e', he'⟩ := Option.isSome_iff_exists.mp hfound
      exact hdone q id e' (hport ▸ hslot) he'
    · rw [if_neg hstop]
      obtain ⟨hmoved, hevents⟩ := moveStart_moves (hport ▸ hc) (hport ▸ hstop)
      obtain ⟨hslipped, hslips⟩ := slipBy_port (t.moveStart m.port c n) m.port k
      rw [hmoved, hport] at hslipped
      rw [hmoved, hport, pendingSlips_congr hevents, h.slips] at hslips
      refine ⟨hslipped.trans ?_, hslips⟩
      simp only [Port.slippedBy, Port.movedTo, hc]

end member

end Sys2Proof.Machine
end

section
/-! PROOFS. Groups fired together (R67 to R69, R75, R76). The idea: the members move one after another, and a port that the
claims speak of is moved once, or not at all. -/

namespace Sys2Proof.Machine

/- Each proof waits for the kernel; checked one after another, they need no more threads than the rest of the package. -/
set_option Elab.async false

variable {p q : PortId} {s t u v : State} {g h : GroupId} {m : Member} {k : Nat} {w : OrtEntry} {l : List GroupId}

/-! ### What moving members leaves -/

/-- From `s` to `t` members of groups moved: the table kept its places, slots emptied at most, what no slot held stayed;
members left groups at most, and none did where no CYCLE_STOP waited. -/
structure MembersMoved (s t : State) : Prop where
  time : t.time = s.time
  ids : t.ort.map (·.id) = s.ort.map (·.id)
  done : DoneKept s t
  handed : ∃ l, t.cpl.done = s.cpl.done ++ l
  slots : ∀ p o, (t.port p).slot = some o → (s.port p).slot = some o
  routed : ∀ w, (∀ p k, (s.port p).slot ≠ some (k, w.id)) → s.StandsRouted w → t.StandsRouted w
  members : ∀ g, ∀ m ∈ (t.group g).members, m ∈ (s.group g).members
  joined : (∀ p, (s.port p).stopWaits = false) → ∀ g, (t.group g).members = (s.group g).members

theorem MembersMoved.refl (s : State) : MembersMoved s s :=
  ⟨rfl, rfl, .refl s, ⟨[], (List.append_nil _).symm⟩, fun _ _ h => h, fun _ _ h => h, fun _ _ h => h, fun _ _ => rfl⟩

theorem MembersMoved.stopWaits (h : MembersMoved s t) (hs : (s.port p).stopWaits = false) :
    (t.port p).stopWaits = false := by
  rw [← Bool.not_eq_true] at hs ⊢
  refine mt (stopWaits_of_slot ?_) hs
  cases ht : (t.port p).slot with
  | none => exact .inr rfl
  | some o => exact .inl (h.slots p o ht).symm

theorem MembersMoved.trans (h : MembersMoved s t) (k : MembersMoved t u) : MembersMoved s u where
  time := k.time.trans h.time
  ids := k.ids.trans h.ids
  done := h.done.trans k.done
  handed := by
    obtain ⟨l, hl⟩ := h.handed
    obtain ⟨l', hl'⟩ := k.handed
    exact ⟨l ++ l', by rw [hl', hl, List.append_assoc]⟩
  slots p o ho := h.slots p o (k.slots p o ho)
  routed w hw hs := k.routed w (fun p c hc => hw p c (h.slots p _ hc)) (h.routed w hw hs)
  members g m hm := h.members g m (k.members g m hm)
  joined hs g := (k.joined (fun p => h.stopWaits (hs p)) g).trans (h.joined hs g)

/-- From `s` to `t` no member at port `p` moved. -/
structure Untouched (p : PortId) (s t : State) : Prop where
  port : t.port p = s.port p
  slips : t.pendingSlips p = s.pendingSlips p
  members : ∀ g, ((t.group g).members.filter fun m => m.port = p) = (s.group g).members.filter fun m => m.port = p

theorem Untouched.refl (p : PortId) (s : State) : Untouched p s s := ⟨rfl, rfl, fun _ => rfl⟩

theorem Untouched.trans (h : Untouched p s t) (k : Untouched p t u) : Untouched p s u :=
  ⟨k.port.trans h.port, k.slips.trans h.slips, fun g => (k.members g).trans (h.members g)⟩

/-- A group but for its members. -/
def Group.memberless (x : Group) : Group := { x with members := [] }

theorem memberless_eq_iff {x y : Group} : x.memberless = y.memberless ↔
    x.period = y.period ∧ x.source = y.source ∧ x.running = y.running ∧ x.beatNumber = y.beatNumber := by
  simp [Group.memberless]

/-- From `s` to `t` the groups are as they were but for their members. -/
def ClocksKept (s t : State) : Prop := ∀ g, (t.group g).memberless = (s.group g).memberless

theorem ClocksKept.trans (h : ClocksKept s t) (k : ClocksKept t u) : ClocksKept s u := fun g => (k g).trans (h g)

theorem MemberMoved.membersMoved (h : MemberMoved p s t) : MembersMoved s t where
  time := congrArg Control.time h.only.1
  ids := h.ids
  done := h.done
  handed := h.handed
  slots q o ho := by
    by_cases hq : q = p
    · subst hq
      rcases h.slot with hs | hs
      · rw [← hs, ho]
      · simp [hs] at ho
    · rwa [← h.only.2 q hq]
  routed w hw := h.routed w (hw p)
  members g m hm := by
    rcases h.groups with hg | ⟨-, hg⟩
    · rwa [hg g] at hm
    · rw [hg g] at hm
      exact (List.mem_filter.mp hm).1
  joined hs g := by
    rcases h.groups with hg | ⟨hwaits, -⟩
    · rw [hg g]
    · simp [hs p] at hwaits

theorem MemberMoved.clocksKept (h : MemberMoved p s t) : ClocksKept s t := fun g => by
  rcases h.groups with hg | ⟨-, hg⟩ <;> rw [hg g]
  rfl

theorem MemberMoved.untouched (h : MemberMoved p s t) (hq : q ≠ p) : Untouched q s t := by
  refine ⟨h.only.2 q hq, h.slips q hq, fun g => ?_⟩
  rcases h.groups with hg | ⟨-, hg⟩
  · rw [hg g]
  · rw [hg g, List.filter_filter]
    refine List.filter_congr fun m _ => ?_
    by_cases hm : m.port = q
    · simp [hm, hq]
    · simp [hm]

/-! ### The fire of one group (R69, R75) -/

/-- One member of a fired group: moved where the group was RUNNING, else given its first start (R69, R75). -/
def State.moveMember (again : Bool) (g : GroupId) (s : State) (m : Member) : State :=
  if again then s.refire g m else s.firstFire g m

theorem moveMember_memberMoved (again : Bool) (g : GroupId) (s : State) (m : Member) :
    MemberMoved m.port s (s.moveMember again g m) := by
  unfold State.moveMember
  split
  · exact refire_memberMoved g m s
  · exact firstFire_memberMoved g m s

theorem moveMembers_membersMoved (again : Bool) (g : GroupId) (l : List Member) (s : State) :
    MembersMoved s (l.foldl (State.moveMember again g) s) ∧ ClocksKept s (l.foldl (State.moveMember again g) s) := by
  induction l generalizing s with
  | nil => exact ⟨.refl s, fun _ => rfl⟩
  | cons m l ih =>
    have hm := moveMember_memberMoved again g s m
    obtain ⟨hmoved, hclocks⟩ := ih (s.moveMember again g m)
    exact ⟨hm.membersMoved.trans hmoved, hm.clocksKept.trans hclocks⟩

theorem moveMembers_untouched {l : List Member} (h : ∀ m ∈ l, m.port ≠ p) (again : Bool) (g : GroupId) (s : State) :
    Untouched p s (l.foldl (State.moveMember again g) s) := by
  induction l generalizing s with
  | nil => exact .refl p s
  | cons m l ih =>
    exact ((moveMember_memberMoved again g s m).untouched (h m List.mem_cons_self).symm).trans
      (ih (fun n hn => h n (List.mem_cons_of_mem _ hn)) _)

/-- A group's new epoch, before its members move (R69, R75). -/
def State.startFire (g : GroupId) (s : State) : State := s.modGroup g (Group.firedAt s.timebase)

/-- The confirmed members of a group, in the order of their joining (R66). -/
def Group.confirmed (x : Group) : List Member := x.members.filter fun m => !m.tentative

theorem fire_eq (g : GroupId) (s : State) : s.fire g =
    (s.group g).confirmed.foldl (State.moveMember (s.group g).running.isSome g) (s.startFire g) := by
  have hmembers : ((s.startFire g).group g).confirmed = (s.group g).confirmed := by
    rw [State.startFire, State.group_modGroup_self]
    rfl
  rw [← hmembers]
  rfl

theorem startFire_group (s : State) (g h : GroupId) :
    (s.startFire g).group h = if h = g then (s.group g).firedAt s.timebase else s.group h := by
  split
  · rename_i hg
    rw [hg, State.startFire, State.group_modGroup_self]
  · rename_i hg
    exact State.group_modGroup_ne s hg _

theorem startFire_members (s : State) (g h : GroupId) : ((s.startFire g).group h).members = (s.group h).members := by
  rw [startFire_group]
  split
  · rename_i hg
    rw [hg]
    rfl
  · rfl

theorem startFire_membersMoved (s : State) (g : GroupId) : MembersMoved s (s.startFire g) where
  time := rfl
  ids := rfl
  done := .of_ort rfl
  handed := ⟨[], (List.append_nil _).symm⟩
  slots _ _ ho := ho
  routed _ _ hw := hw
  members h m hm := by rwa [startFire_members] at hm
  joined _ h := startFire_members s g h

theorem startFire_untouched (s : State) (g : GroupId) (p : PortId) : Untouched p s (s.startFire g) :=
  ⟨rfl, rfl, fun h => by rw [startFire_members]⟩

theorem fire_membersMoved (g : GroupId) (s : State) : MembersMoved s (s.fire g) := by
  rw [fire_eq]
  exact (startFire_membersMoved s g).trans (moveMembers_membersMoved _ g _ _).1

theorem fire_clock (g : GroupId) (s : State) (h : GroupId) : ((s.fire g).group h).memberless =
    if h = g then ((s.group h).firedAt s.timebase).memberless else (s.group h).memberless := by
  rw [fire_eq, (moveMembers_membersMoved _ g _ _).2 h, startFire_group]
  split
  · rename_i hg
    rw [hg]
  · rfl

/-- A port that is no confirmed member of the group is not moved. -/
theorem fire_untouched (hp : ∀ m ∈ (s.group g).members, m.port = p → m.tentative = true) :
    Untouched p s (s.fire g) := by
  rw [fire_eq]
  refine (startFire_untouched s g p).trans (moveMembers_untouched (fun m hm hmp => ?_) _ g _)
  obtain ⟨hmem, htent⟩ := List.mem_filter.mp hm
  simp [hp m hmem hmp] at htent

/-- A claim about a member's fire goes for states before and after, where its port, its group and the table are the same. -/
theorem MemberFired.transport (hf : MemberFired g m k s t) (htime : s.time = u.time)
    (hids : s.ort.map (·.id) = u.ort.map (·.id)) (hs : Untouched m.port u s)
    (hclock : (s.group g).memberless = (u.group g).memberless) (ht : Untouched m.port t v) (hdone : DoneKept t v) :
    MemberFired g m k u v := by
  have hbase : s.timebase = u.timebase := by simp only [State.timebase, State.micros, htime]
  obtain ⟨hperiod, -, hrun, -⟩ := memberless_eq_iff.mp hclock
  unfold MemberFired at hf ⊢
  dsimp only at hf ⊢
  rw [hs.port, hs.slips, hbase, hperiod, hrun, ← ht.port, ← ht.slips] at hf
  split at hf
  · rename_i hnone
    rw [if_pos hnone]
    exact hf
  · rename_i hsome
    rw [if_neg hsome]
    cases hc : (u.port m.port).sched with
    | none =>
      rw [hc] at hf
      exact hf
    | some c =>
      rw [hc] at hf
      dsimp only at hf ⊢
      split at hf
      · rename_i hstop
        rw [if_pos hstop]
        obtain ⟨hport, hslips, hstopped⟩ := hf
        refine ⟨hport, hslips, fun q id e hslot he => hdone id ?_⟩
        have hfound : (s.ortFind id).isSome = true := by
          rw [ortFind_isSome_iff, hids, ← ortFind_isSome_iff, he]
          rfl
        obtain ⟨e', he'⟩ := Option.isSome_iff_exists.mp hfound
        exact hstopped q id e' hslot he'
      · rename_i hgo
        rw [if_neg hgo]
        exact hf

/-- The fire moves its one confirmed member at a port (R69, R75, R76). -/
theorem fire_memberFired (hp : 1 ≤ (s.group g).period) (hd : 1 ≤ m.divisor) (ht : m.tentative = false)
    (hm : ((s.group g).members.filter fun n => n.port = m.port) = [m])
    (hk : FirstInstant (s.micros + 100 + m.phase) (m.divisor * (s.group g).period) (s.fireBound g m.port) k) :
    MemberFired g m k s (s.fire g) := by
  obtain ⟨before, behind, hsplit, hbefore, -, hbehind⟩ := List.filter_eq_cons_iff.mp hm
  have hconfirmed : (s.group g).confirmed =
      before.filter (fun n => !n.tentative) ++ m :: behind.filter fun n => !n.tentative := by
    simp [Group.confirmed, hsplit, ht]
  have hbefore' : ∀ n ∈ before.filter (fun n => !n.tentative), n.port ≠ m.port := fun n hn => by
    simpa using hbefore n (List.mem_filter.mp hn).1
  have hbehind' : ∀ n ∈ behind.filter (fun n => !n.tentative), n.port ≠ m.port := fun n hn => by
    simpa using List.filter_eq_nil_iff.mp hbehind n (List.mem_filter.mp hn).1
  rw [fire_eq, hconfirmed, List.foldl_append, List.foldl_cons]
  generalize hagain : (s.group g).running.isSome = again
  have hreach := (startFire_untouched s g m.port).trans (moveMembers_untouched hbefore' again g (s.startFire g))
  have hmoves := moveMembers_membersMoved again g (before.filter fun n => !n.tentative) (s.startFire g)
  generalize (before.filter fun n => !n.tentative).foldl (State.moveMember again g) (s.startFire g) = t at hreach hmoves ⊢
  have hclock : (t.group g).memberless = ((s.group g).firedAt s.timebase).memberless := by
    rw [hmoves.2 g, startFire_group, if_pos rfl]
  obtain ⟨hperiod, -, hrunning, hnumber⟩ := memberless_eq_iff.mp hclock
  have hat : AtFire g m.port s t :=
    ⟨hmoves.1.time, hreach.port, hreach.slips, hmoves.1.ids, hrunning, hnumber, hperiod⟩
  have hfired : MemberFired g m k s (t.moveMember again g m) := by
    unfold State.moveMember
    cases hrun : (s.group g).running with
    | none =>
      rw [if_neg (by simp [← hagain, hrun])]
      exact hat.firstFire_fired hp hd hk hrun
    | some b =>
      rw [if_pos (by simp [← hagain, hrun])]
      exact hat.refire_fired hp hd hk (by simp [hrun])
  exact hfired.transport rfl rfl (.refl m.port s) rfl (moveMembers_untouched hbehind' again g _)
    (moveMembers_membersMoved again g _ _).1.done

/-! ### Several groups (R67, R68) -/

/-- Groups fired one after another. -/
def State.fires (l : List GroupId) (s : State) : State := l.foldl (fun s g => s.fire g) s

theorem fires_membersMoved (l : List GroupId) (s : State) : MembersMoved s (s.fires l) := by
  induction l generalizing s with
  | nil => exact .refl s
  | cons g l ih => exact (fire_membersMoved g s).trans (ih _)

/-- A fire overwrites what it sets, so that it rests on the period and the source alone. -/
theorem firedAt_memberless {x y : Group} {now : Word} (h : x.memberless = (y.firedAt now).memberless ∨
    x.memberless = y.memberless) : (x.firedAt now).memberless = (y.firedAt now).memberless := by
  rcases h with h | h <;> obtain ⟨hperiod, hsource, -, -⟩ := memberless_eq_iff.mp h <;>
    exact memberless_eq_iff.mpr ⟨hperiod, hsource, rfl, rfl⟩

theorem fires_clock (l : List GroupId) (s : State) (g : GroupId) : ((s.fires l).group g).memberless =
    if g ∈ l then ((s.group g).firedAt s.timebase).memberless else (s.group g).memberless := by
  induction l generalizing s with
  | nil => simp [State.fires]
  | cons h l ih =>
    have hclock := fire_clock h s g
    have hbase : (s.fire h).timebase = s.timebase := by
      simp only [State.timebase, State.micros, (fire_membersMoved h s).time]
    change (((s.fire h).fires l).group g).memberless = _
    rw [ih, hbase]
    by_cases hg : g = h
    · rw [if_pos hg] at hclock
      rw [if_pos (List.mem_cons.mpr (.inl hg))]
      split
      · exact firedAt_memberless (.inl hclock)
      · exact hclock
    · rw [if_neg hg] at hclock
      simp only [List.mem_cons, hg, false_or]
      split
      · exact firedAt_memberless (.inr hclock)
      · exact hclock

theorem fires_untouched (hp : ∀ g ∈ l, ∀ m ∈ (s.group g).members, m.port = p → m.tentative = true) :
    Untouched p s (s.fires l) := by
  induction l generalizing s with
  | nil => exact .refl p s
  | cons g l ih =>
    exact (fire_untouched (hp g List.mem_cons_self)).trans
      (ih fun h hh m hm => hp h (List.mem_cons_of_mem _ hh) m ((fire_membersMoved g s).members h m hm))

/-- Of groups fired together, each moves its own confirmed member at a port (R69, R75, R76). -/
theorem fires_memberFired (hl : l.Nodup) (hg : g ∈ l) (hp : 1 ≤ (s.group g).period) (hd : 1 ≤ m.divisor)
    (ht : m.tentative = false) (hm : ((s.group g).members.filter fun n => n.port = m.port) = [m])
    (hothers : ∀ h, h ≠ g → h ∈ l → ∀ n ∈ (s.group h).members, n.port ≠ m.port)
    (hk : FirstInstant (s.micros + 100 + m.phase) (m.divisor * (s.group g).period) (s.fireBound g m.port) k) :
    MemberFired g m k s (s.fires l) := by
  obtain ⟨first, last, rfl⟩ := List.append_of_mem hg
  obtain ⟨-, hlast, hapart⟩ := List.nodup_append.mp hl
  have hne : ∀ h ∈ first, h ≠ g := fun h hh => hapart h hh g List.mem_cons_self
  have hne' : ∀ h ∈ last, h ≠ g := fun h hh hhg => (List.nodup_cons.mp hlast).1 (hhg ▸ hh)
  have huntouched : Untouched m.port s (s.fires first) := fires_untouched fun h hh n hn hnp =>
    absurd hnp (hothers h (hne h hh) (List.mem_append_left _ hh) n hn)
  have hmoved := fires_membersMoved first s
  have hclock : ((s.fires first).group g).memberless = (s.group g).memberless := by
    rw [fires_clock, if_neg fun hgf => hne g hgf rfl]
  have heq : s.fires (first ++ g :: last) = ((s.fires first).fire g).fires last := by
    simp only [State.fires, List.foldl_append, List.foldl_cons]
  rw [heq]
  generalize s.fires first = t at huntouched hmoved hclock ⊢
  obtain ⟨hperiod, -, hrun, -⟩ := memberless_eq_iff.mp hclock
  have hmicros : t.micros = s.micros := by rw [State.micros, hmoved.time]; rfl
  have hbound : t.fireBound g m.port = s.fireBound g m.port := by
    rw [State.fireBound, State.fireBound, hrun, huntouched.port, lineFree_congr huntouched.port hmoved.time, hmicros,
      hmoved.time]
  refine (fire_memberFired (k := k) (by rw [hperiod]; exact hp) hd ht (by rw [huntouched.members]; exact hm) ?_).transport
    hmoved.time hmoved.ids huntouched hclock (fires_untouched fun h hh n hn hnp => ?_) (fires_membersMoved last _).done
  · rw [hperiod, hmicros, hbound]
    exact hk
  · have hn' := hmoved.members h n ((fire_membersMoved g t).members h n hn)
    exact absurd hnp (hothers h (hne' h hh) (List.mem_append_right _ (List.mem_cons_of_mem _ hh)) n hn')

/-- What the claims say of groups fired together (R67 to R69, R75, R76). -/
theorem fires_groupsFired (hl : l.Nodup) (s : State) : GroupsFired (· ∈ l) s (s.fires l) := by
  refine ⟨fun g => ?_, fun g m k hg hp hd ht hm hothers hk => fires_memberFired hl hg hp hd ht hm hothers hk, fun p hp =>
    (fires_untouched hp).port⟩
  have hclock := fires_clock l s g
  have hjoined := fun hs => (fires_membersMoved l s).joined hs g
  by_cases hg : g ∈ l
  · rw [if_pos hg] at hclock
    obtain ⟨hperiod, hsource, hrunning, hnumber⟩ := memberless_eq_iff.mp hclock
    exact ⟨hperiod, hsource, hjoined, fun _ => ⟨hnumber, hrunning⟩, fun hn => absurd hg hn⟩
  · rw [if_neg hg] at hclock
    obtain ⟨hperiod, hsource, hrunning, hnumber⟩ := memberless_eq_iff.mp hclock
    exact ⟨hperiod, hsource, hjoined, fun hn => absurd hn hg, fun _ => ⟨hrunning, hnumber⟩⟩

/-! ### The claim about a fire, for states that only tables and registers tell apart -/

/-- The two states agree in time, ports, groups, events and the places of the table. -/
structure Alike (s t : State) : Prop where
  time : t.time = s.time
  ports : PortsKept s t
  groups : GroupsKept s t
  events : t.cpl.events = s.cpl.events
  ids : t.ort.map (·.id) = s.ort.map (·.id)

theorem Alike.untouched (h : Alike s t) (p : PortId) : Untouched p s t :=
  ⟨h.ports p, pendingSlips_congr h.events p, fun g => by rw [h.groups g]⟩

theorem Alike.refl (s : State) : Alike s s := ⟨rfl, fun _ => rfl, fun _ => rfl, rfl, rfl⟩

theorem handOver_alike (s : State) (i : Nat) (st : Status) (v : Word) : Alike s (s.handOver i st v) :=
  ⟨congrArg Control.time (handOver_control s i st v), handOver_port s i st v, handOver_group s i st v,
    handOver_events s i st v, handOver_ids s i st v⟩

theorem Alike.fireBound (h : Alike s t) (g : GroupId) (p : PortId) : t.fireBound g p = s.fireBound g p := by
  unfold State.fireBound State.micros
  rw [h.groups g, h.ports p, lineFree_congr (h.ports p) h.time, h.time]

/-- The claim rests on what alike states share. -/
theorem GroupsFired.transport {f : GroupId → Prop} (hf : GroupsFired f s t) (hs : Alike u s) (ht : Alike t v)
    (hdone : DoneKept t v) : GroupsFired f u v := by
  obtain ⟨hgroups, hmembers, hports⟩ := hf
  have hmicros : s.micros = u.micros := by rw [State.micros, hs.time]; rfl
  have hbase : s.timebase = u.timebase := by rw [State.timebase, hmicros]; rfl
  refine ⟨fun g => ?_, fun g m k hg hp hd htent hm hothers hk => ?_, fun p hp => ?_⟩
  · have h := hgroups g
    simp only [hs.groups g, hs.ports _, ← ht.groups g, hbase] at h
    exact h
  · have h := hmembers g m k hg
    simp only [hs.groups _, hmicros, hs.fireBound] at h
    exact (h hp hd htent hm hothers hk).transport hs.time hs.ids (hs.untouched m.port) (by rw [hs.groups g])
      (ht.untouched m.port) hdone
  · refine (ht.ports p).trans ((hports p fun g hg m hm => hp g hg m ?_).trans (hs.ports p))
    rwa [← hs.groups g]

end Sys2Proof.Machine
end

section
/-! PROOFS. SYNC_IN and SYNC_FIRE (R67, R68). -/

namespace Sys2Proof.Machine

/- Each proof waits for the kernel; checked one after another, they need no more threads than the rest of the package. -/
set_option Elab.async false

variable {s : State} {u : Setup} {e : OrtEntry} {k : Byte} {r : ReqRecord} {high : Bool}

/-- The groups that a test tells, in the order of their numbers. -/
def groupsWith (c : GroupId → Bool) : List GroupId := allGroups.filter c

theorem mem_groupsWith {c : GroupId → Bool} {g : GroupId} : g ∈ groupsWith c ↔ c g = true := by
  simp [groupsWith, allGroups]

theorem fires_groupsWith (c : GroupId → Bool) (s : State) :
    GroupsFired (fun g => c g = true) s (s.fires (groupsWith c)) := by
  have hn : (groupsWith c).Nodup := (List.nodup_finRange 4).filter c
  have h := fires_groupsFired hn s
  rwa [show (· ∈ groupsWith c) = fun g => c g = true from funext fun g => propext mem_groupsWith] at h

theorem fires_control (l : List GroupId) (s : State) : (s.fires l).control = s.control :=
  (foldl_side (fun s g => State.fire g s) (fun u g => fire_side g u) l (Side.refl s)).control

/-! ### SYNC_IN (R68) -/

/-- SYNC_IN at its new level. -/
def State.syncAt (high : Bool) (s : State) : State := { s with syncInLevel := high }

theorem exec_syncIn_same (h : s.syncInLevel = high) : exec (.syncIn high) s = .next s := by
  change execSyncIn high s = _
  simp [execSyncIn, onlyIf, h]

theorem exec_syncIn_edge (h : s.syncInLevel ≠ high) : exec (.syncIn high) s = .next
    (if s.edgeSelected high then (s.syncAt high).fires (groupsWith fun g => (s.group g).source = .line)
      else s.syncAt high) := by
  change execSyncIn high s = _
  unfold execSyncIn onlyIf
  rw [if_pos (by simpa using h)]
  rfl

theorem edgeSelected_iff : s.edgeSelected high = true ↔ ∃ u, s.setup = some u ∧ u.fallingEdge ≠ high := by
  unfold State.edgeSelected
  cases s.setup <;> simp

theorem syncAt_alike (s : State) (high : Bool) : Alike s (s.syncAt high) :=
  ⟨rfl, fun _ => rfl, fun _ => rfl, rfl, rfl⟩

/-- Settles O38. -/
theorem aSelectedEdgeFiresTheLineGroups : Obligations.ASelectedEdgeFiresTheLineGroups := by
  refine fun high s => ⟨exec_syncIn_same, fun hlevel hother => ?_, fun u hlevel hu hedge => ?_⟩
  · have hnot : ¬ s.edgeSelected high = true := fun h => by
      obtain ⟨u, hu, hne⟩ := edgeSelected_iff.mp h
      exact hne (hother u hu)
    rw [exec_syncIn_edge hlevel, if_neg hnot]
    rfl
  · rw [Completes, exec_syncIn_edge hlevel, if_pos (edgeSelected_iff.mpr ⟨u, hu, hedge⟩)]
    refine ⟨_, rfl, fires_control _ _, ?_⟩
    have h := fires_groupsWith (fun g => (s.group g).source = .line) (s.syncAt high)
    simp only [decide_eq_true_eq] at h
    exact h.transport (syncAt_alike s high) (.refl _) (.refl _)

/-! ### SYNC_FIRE (R67) -/

theorem routed_alike (s : State) (u : Setup) (e : OrtEntry) (k : Byte) (r : ReqRecord) : Alike s (s.routed u e k r) where
  time := rfl
  ports _ := rfl
  groups _ := rfl
  events := rfl
  ids := by
    rw [routed_ort, List.map_map]
    exact List.map_congr_left fun x _ => takenAt_id e.id x

/-- Right after its take a request is ROUTED. -/
theorem routed_standsRouted (hf : s.Fetched u e) (hn : s.TableSound e) : (s.routed u e k r).StandsRouted (e.filled k r) :=
  ⟨by rw [(routed_alike s u e k r).ids]; exact hn.1, e.awaited, routed_find s u e k r hf hn⟩

theorem syncFireGroups_line (h : ∃ g, maskNames r g = true ∧ (s.group g).source = .line) (id : Nat) :
    s.syncFireGroups r id = s.handOver id .badParameter 0 := by
  obtain ⟨g, hg, hline⟩ := h
  unfold State.syncFireGroups
  exact if_pos (List.any_eq_true.mpr ⟨g, mem_groupsWith.mpr hg, by simpa using hline⟩)

theorem syncFireGroups_host (h : ¬ ∃ g, maskNames r g = true ∧ (s.group g).source = .line) (id : Nat) :
    s.syncFireGroups r id = (s.fires (groupsWith (maskNames r))).handOver id .ok (s.timebase + 100) := by
  unfold State.syncFireGroups
  refine if_neg fun hany => h ?_
  obtain ⟨g, hg, hline⟩ := List.any_eq_true.mp hany
  exact ⟨g, mem_groupsWith.mp hg, by simpa using hline⟩

/-- The request that fires groups is handed over after what their fires bring, its entry untouched by them (R67). -/
theorem fires_reported (hf : s.Fetched u e) (hn : s.TableSound e)
    (hslots : ∀ p k id, (s.port p).slot = some (k, id) → id ≠ e.id) (l : List GroupId) (st : Status) (v : Word) :
    ReportedAmong s (((s.routed u e k r).fires l).handOver e.id st v) e k r st v := by
  have hmoved := fires_membersMoved l (s.routed u e k r)
  obtain ⟨before, hbefore⟩ := hmoved.handed
  obtain ⟨-, a, hfound⟩ :=
    hmoved.routed (e.filled k r) (fun p c hs => hslots p c e.id hs rfl) (routed_standsRouted hf hn)
  obtain ⟨behind, hdone⟩ := handOver_done st v hfound (by simp)
  refine ⟨before, behind, ((s.routed u e k r).fires l).arrivals, ?_⟩
  rw [← List.append_assoc]
  exact hdone.trans (congrArg (· ++ _) hbefore)

/-- Settles O21. -/
theorem syncFireFiresTheNamedGroups : Obligations.SyncFireFiresTheNamedGroups := by
  intro r u e s hc hf hn hx hslots
  refine completes_of_take_unit rfl hc hf hx ?_
  refine ⟨(syncFireGroups_side r e.id _).control.trans (routed_control s u e _ r), ?_⟩
  by_cases h : ∃ g, maskNames r g = true ∧ (s.group g).source = .line
  · rw [if_pos h, syncFireGroups_line (s := s.routed u e kindSyncFire r) h]
    exact ⟨handOver_port _ _ _ _, handOver_group _ _ _ _, routed_reported s u e _ r _ _ hf hn⟩
  · rw [if_neg h, syncFireGroups_host (s := s.routed u e kindSyncFire r) h]
    refine ⟨fires_reported hf hn hslots _ _ _, ?_⟩
    exact (fires_groupsWith (maskNames r) _).transport (routed_alike s u e _ r) (handOver_alike _ _ _ _)
      (handOver_doneKept _ _ _ _)

end Sys2Proof.Machine
end

section
/-! PROOFS. The reads of a sample (R84, R85), the writes of an input image and image faults (R93, R96, R97). The idea: an image
fault makes the same of the port whatever access brought it, and what it makes is a function of the port alone. -/

namespace Sys2Proof.Machine

/- Each proof waits for the kernel; checked one after another, they need no more threads than the rest of the package. -/
set_option Elab.async false

variable {p : PortId} {s : State} {w : OrtEntry} {f : BusFlight} {a : Word}

/-! ### The reads of a sample (R84, R85) -/

theorem modCyc_eq_withPort (s : State) (p : PortId) (f : CycleEngine → CycleEngine) :
    s.modCyc p f = s.withPort p { s.port p with cyc := f (s.port p).cyc } := rfl

/-- A read of a sample that ends with data: they are taken where its engine lives and still wants them, else dropped. -/
theorem exec_samplingReadEnd_data {stage : ReadStage} {len : Nat} (hf : s.bus.flight = some f)
    (ha : f.access = .sampleRead p stage a len) (d : ReadData) : exec (.samplingReadEnd (some d)) s = .next
      (if f.live = true ∧ f.wanted = true then
        s.endFlight.modCyc p (CycleEngine.sampled (s.port p).outLen stage d)
      else s.endFlight) := by
  obtain ⟨access, live, wanted⟩ := f
  subst ha
  change execSamplingReadEnd (some d) s = _
  simp only [execSamplingReadEnd, hf]
  cases live
  · rfl
  · cases wanted <;> rfl

/-- What a read brings to a Cycle Engine that reads: the next read, or the sample complete, or a second round (R85). -/
theorem sampled_reading {c : CycleEngine} {second : Bool} {g1 : Half} {data : List Byte}
    (hc : c.sample = .reading second g1 data) (outLen : Nat) (stage : ReadStage) (d : ReadData) :
    c.sampled outLen stage d = match stage with
      | .gen1 => { c with
          sample := .reading second (d.setWidth 16) data
          list := c.list ++ [.sample (if outLen = 0 then .gen2 else .data)] }
      | .data => { c with sample := .reading second g1 (octets outLen d), list := c.list ++ [.sample .gen2] }
      | .gen2 =>
        if d.setWidth 16 = g1 then { c with sample := .complete (some g1) data false }
        else if second then { c with sample := .complete (some g1) data true }
        else c.beginRound true := by
  cases stage <;> simp only [CycleEngine.sampled, hc]

/-- Settles O41. -/
theorem samplingReadsFollowInOrder : Obligations.SamplingReadsFollowInOrder := by
  intro p stage a len f d s hf ha ended x
  have hexec := exec_samplingReadEnd_data hf ha d
  refine ⟨fun hdropped => ?_, fun second g1 data hlive hwanted hsample => ?_⟩
  · rw [hexec, if_neg fun h => by rcases hdropped with h' | h' <;> simp [h'] at h]
    rfl
  · rw [if_pos ⟨hlive, hwanted⟩, modCyc_eq_withPort, State.port_endFlight, sampled_reading hsample] at hexec
    intro on
    cases stage with
    | gen1 => exact hexec
    | data => exact hexec
    | gen2 =>
      dsimp only [on] at hexec ⊢
      rw [List.append_nil]
      by_cases heq : d.setWidth 16 = g1
      · rw [if_pos heq] at hexec ⊢
        exact hexec
      · rw [if_neg heq] at hexec ⊢
        cases second <;> exact hexec

/-! ### The image list emptied (R96) -/

/-- The port with its image accesses withdrawn and its sample and its images in writing given up (R96). -/
def Port.imagesDropped (x : Port) : Port := { x with cyc := { x.cyc with list := [], writing := 0, sample := .empty } }

/-- The image fault is posted, and the image list emptied (R96). -/
def State.faultPosted (p : PortId) (a : Word) (s : State) : State := (s.post p .imageFault a).emptyImageList p

theorem emptyImageList_port (s : State) (p : PortId) : (s.emptyImageList p).port p = (s.port p).imagesDropped := by
  rw [State.emptyImageList, State.port_unwantSample, State.port_modCyc_self]
  rfl

theorem faultPosted_port (s : State) (p : PortId) (a : Word) :
    (s.faultPosted p a).port p = (s.port p).imagesDropped := by
  rw [State.faultPosted, emptyImageList_port, post_port]

theorem faultPosted_posted (s : State) (p : PortId) (a : Word) : Posted s (s.faultPosted p a) p .imageFault a :=
  post_posted s p .imageFault a

theorem faultPosted_groups (s : State) (p : PortId) (a : Word) : (s.faultPosted p a).groups = s.groups :=
  post_groups s p .imageFault a

theorem faultPosted_ort (s : State) (p : PortId) (a : Word) : (s.faultPosted p a).ort = s.ort :=
  post_ort s p .imageFault a

theorem faultPosted_done (s : State) (p : PortId) (a : Word) : (s.faultPosted p a).cpl.done = s.cpl.done :=
  post_done s p .imageFault a

/-! ### No access in flight -/

theorem unwantSample_flight_none (h : s.bus.flight = none) : (s.unwantSample p).bus.flight = none :=
  congrArg (Option.map _) h

theorem faultPosted_flight_none (h : s.bus.flight = none) : (s.faultPosted p a).bus.flight = none :=
  unwantSample_flight_none (s := (s.post p .imageFault a).modCyc p _) (by rw [State.modCyc_bus, post_bus, h])

theorem imageFaultReady_flight_none (h : s.bus.flight = none) : (s.imageFaultReady p).bus.flight = none := by
  rw [imageFaultReady_eq, endSlot_bus]
  exact unwantSample_flight_none h

/-! ### The way to READY (R97) -/

theorem imageFaultReady_events (s : State) (p : PortId) : (s.imageFaultReady p).cpl.events = s.cpl.events := by
  rw [imageFaultReady_eq, (endSlot_lists (.refl _) _ _).events, faultReady_cpl]

theorem imageFaultReady_groupsLeft (s : State) (p : PortId) : GroupsLeft p s (s.imageFaultReady p) :=
  (faultReady_groupsLeft s p).of_groups (endSlot_lists (.refl _) _ _).groups

/-- With nobody in the control slot nothing is handed over. -/
theorem imageFaultReady_done (h : (s.port p).slot = none) : (s.imageFaultReady p).cpl.done = s.cpl.done := by
  rw [imageFaultReady_eq, endSlot_of_none (by rw [faultReady_port, h]), faultReady_cpl]

/-- The CYCLE_START in the control slot is handed over BUFFER_FAULT (R97). -/
theorem imageFaultReady_hands_cycleStart (hs : (s.port p).slot = some (.cycleStart, w.id)) (hw : s.Pends w) :
    HandedInOrder s (s.imageFaultReady p) [(w, .bufferFault, 0)] := by
  have hslot : ((s.faultReady p).port p).slot = some (.cycleStart, w.id) := by rw [faultReady_port, hs]
  have hpends : (s.faultReady p).Pends w := pends_congr (faultReady_ort s p) hw
  rw [imageFaultReady_eq]
  refine Hands.inOrder_of (endSlot_hands (slot := [w]) (st := .bufferFault) (by simp [hslot]) (by simpa using hpends)
    (fun k => if k = .cycleStart then .bufferFault else .ok) 0 fun k id hk => ?_)
    (congrArg CompletionWriter.done (faultReady_cpl s p))
  obtain ⟨rfl, -⟩ : ControlKind.cycleStart = k ∧ w.id = id := by simpa [hslot] using hk
  rfl

/-! ### Image faults by the state of the port (R96, R97) -/

/-- The port goes to READY for an image fault at once (R97). -/
def Port.faultsToReady (x : Port) : Prop := x.state = .armed ∨ (x.state = .cyclic ∧ x.cyc.underWay = none)

theorem imageFault_of_faultsToReady (h : (s.port p).faultsToReady) (a : Word) :
    s.imageFault p a = (s.faultPosted p a).imageFaultReady p := by
  have hport := faultPosted_port s p a
  unfold State.faultPosted at hport ⊢
  rcases h with hstate | ⟨hstate, hunder⟩
  · simp only [State.imageFault, hport, Port.imagesDropped, hstate]
  · simp only [State.imageFault, hport, Port.imagesDropped, hstate, hunder, Option.isNone_none, if_true]

theorem imageFault_of_underWay (hc : (s.port p).state = .cyclic) (hu : (s.port p).cyc.underWay ≠ none) (a : Word) :
    s.imageFault p a = (s.faultPosted p a).modCyc p fun c => { c with faultPending := true } := by
  have hport := faultPosted_port s p a
  unfold State.faultPosted at hport ⊢
  simp only [State.imageFault, hport, Port.imagesDropped, hc, Option.isNone_iff_eq_none, if_neg hu]

theorem imageFault_of_recovery (hr : (s.port p).state = .recovery) (a : Word) :
    s.imageFault p a = ((s.faultPosted p a).leave p).modPort p fun x => { x with resume := false } := by
  have hport := faultPosted_port s p a
  unfold State.faultPosted at hport ⊢
  simp only [State.imageFault, hport, Port.imagesDropped, hr]

/-- In a state without a schedule the fault does no more than to be posted and to empty the list. -/
theorem imageFault_of_unscheduled
    (h : (s.port p).state ≠ .armed ∧ (s.port p).state ≠ .cyclic ∧ (s.port p).state ≠ .recovery) (a : Word) :
    s.imageFault p a = s.faultPosted p a := by
  have hport := faultPosted_port s p a
  obtain ⟨harmed, hcyclic, hrecovery⟩ := h
  unfold State.faultPosted at hport ⊢
  unfold State.imageFault
  dsimp only
  rw [hport]
  dsimp only [Port.imagesDropped]
  split
  · exact absurd ‹_› harmed
  · exact absurd ‹_› hcyclic
  · exact absurd ‹_› hrecovery
  all_goals rfl

theorem Port.imageFault_cases (x : Port) : x.faultsToReady ∨ (x.state = .cyclic ∧ x.cyc.underWay ≠ none) ∨
    x.state = .recovery ∨ (x.state ≠ .armed ∧ x.state ≠ .cyclic ∧ x.state ≠ .recovery) := by
  unfold Port.faultsToReady
  tauto

/-- From `x` to `y` a port lost what it had of images, and kept its link, its line, its counters and its generations. -/
def Port.ImagesGone (x y : Port) : Prop :=
  y.cyc.list = [] ∧ y.cyc.writing = 0 ∧ y.cyc.sample = .empty ∧ y.link = x.link ∧ y.counters = x.counters ∧
    y.lf = x.lf ∧ y.cyc.lastGen = x.cyc.lastGen ∧ y.cyc.inputGen = x.cyc.inputGen

/-- What an image fault brings about in every state of the port, no access being in flight any more (R96). -/
theorem imageFault_reported (h : s.bus.flight = none) (p : PortId) (a : Word) :
    (s.imageFault p a).bus.flight = none ∧ Posted s (s.imageFault p a) p .imageFault a ∧
      (s.port p).ImagesGone ((s.imageFault p a).port p) := by
  have hflight : (s.faultPosted p a).bus.flight = none := faultPosted_flight_none h
  have hposted := faultPosted_posted s p a
  have hport := faultPosted_port s p a
  have hgone : (s.port p).ImagesGone (s.port p).imagesDropped := ⟨rfl, rfl, rfl, rfl, rfl, rfl, rfl, rfl⟩
  rcases (s.port p).imageFault_cases with hr | ⟨hc, hu⟩ | hr | hn
  · rw [imageFault_of_faultsToReady hr]
    refine ⟨imageFaultReady_flight_none hflight, hposted.of_events (imageFaultReady_events _ p), ?_⟩
    rw [imageFaultReady_port, hport]
    exact hgone
  · rw [imageFault_of_underWay hc hu]
    refine ⟨hflight, hposted, ?_⟩
    rw [State.port_modCyc_self, hport]
    exact hgone
  · rw [imageFault_of_recovery hr]
    refine ⟨hflight, hposted, ?_⟩
    rw [State.port_modPort_self, leave_port, hport]
    exact hgone
  · rw [imageFault_of_unscheduled hn]
    exact ⟨hflight, hposted, hport ▸ hgone⟩

/-- From `s` to `t` an image fault took port `p` to READY (R97). -/
def ReadiedByFault (p : PortId) (s t : State) : Prop :=
  let x := s.port p
  let y := t.port p
  y.state = .ready ∧ y.sched = none ∧ y.slot = none ∧ y.stopPending = false ∧ y.cyc.faultPending = false ∧
    GroupsLeft p s t ∧ (x.slot = none → t.cpl.done = s.cpl.done) ∧
    ∀ k w, x.slot = some (k, w.id) → s.Open [w] →
      (k = .cycleStart → HandedInOrder s t [(w, .bufferFault, 0)]) ∧ (k = .cycleStop → HandedInOrder s t [(w, .ok, 0)])

theorem imageFault_readies (h : (s.port p).faultsToReady) (a : Word) : ReadiedByFault p s (s.imageFault p a) := by
  have hport := faultPosted_port s p a
  have hdone := faultPosted_done s p a
  rw [imageFault_of_faultsToReady h]
  unfold ReadiedByFault
  rw [imageFaultReady_port]
  refine ⟨rfl, rfl, rfl, rfl, rfl, (imageFaultReady_groupsLeft _ p).after (faultPosted_groups s p a), fun hslot => ?_,
    fun k w hslot hopen => ?_⟩
  · rw [imageFaultReady_done (by rw [hport]; exact hslot), hdone]
  · have hposted : ((s.faultPosted p a).port p).slot = some (k, w.id) := by rw [hport]; exact hslot
    have hpends : (s.faultPosted p a).Pends w :=
      pends_congr (faultPosted_ort s p a) (hopen.pends (List.mem_singleton_self w))
    refine ⟨?_, ?_⟩ <;> rintro rfl
    · simpa only [HandedInOrder, hdone] using imageFaultReady_hands_cycleStart hposted hpends
    · simpa only [HandedInOrder, hdone] using imageFaultReady_hands hposted (by decide) hpends

/-! ### The ends of image accesses (R93, R96) -/

theorem exec_inputImageWriteEnd {header : Bool} {l : List Byte} (hf : s.bus.flight = some f)
    (ha : f.access = .imageWrite p header a l) (ok : Bool) : exec (.inputImageWriteEnd ok) s = .next
      (if f.live = true then
        if ok = false then s.endFlight.imageFault p a
        else if header = true then s.endFlight.modCyc p fun c => { c with writing := c.writing - 1 } else s.endFlight
      else s.endFlight) := by
  obtain ⟨access, live, wanted⟩ := f
  subst ha
  change execInputImageWriteEnd ok s = _
  simp only [execInputImageWriteEnd, hf]
  cases live
  · rfl
  · cases ok <;> rfl

theorem exec_samplingReadEnd_error {stage : ReadStage} {len : Nat} (hf : s.bus.flight = some f)
    (ha : f.access = .sampleRead p stage a len) (hlive : f.live = true) :
    exec (.samplingReadEnd none) s = .next (s.endFlight.imageFault p a) := by
  obtain ⟨access, live, wanted⟩ := f
  subst ha
  obtain rfl : live = true := hlive
  change execSamplingReadEnd none s = _
  simp only [execSamplingReadEnd, hf]
  rfl

/-- A bus error on an image access whose engine lives is an image fault, whatever the access (R96). -/
theorem exec_imageAccess_error {i : Instr} (hf : s.bus.flight = some f) (hlive : f.live = true)
    (hi : (∃ header l, f.access = .imageWrite p header a l ∧ i = .inputImageWriteEnd false) ∨
      ∃ stage len, f.access = .sampleRead p stage a len ∧ i = .samplingReadEnd none) :
    exec i s = .next (s.endFlight.imageFault p a) := by
  rcases hi with ⟨header, l, ha, rfl⟩ | ⟨stage, len, ha, rfl⟩
  · rw [exec_inputImageWriteEnd hf ha, if_pos hlive, if_pos rfl]
  · exact exec_samplingReadEnd_error hf ha hlive

/-- Settles O43. -/
theorem imageWritesEndOrFault : Obligations.ImageWritesEndOrFault := by
  intro p a f s hf ended x
  refine ⟨fun header l ha => ⟨fun hdead ok => ?_, fun hlive => ?_⟩, fun i hlive hi => ?_⟩
  · rw [exec_inputImageWriteEnd hf ha, if_neg (by simp [hdead])]
    rfl
  · rw [exec_inputImageWriteEnd hf ha, if_pos hlive, if_neg (by decide)]
    rfl
  · refine ⟨_, exec_imageAccess_error hf hlive hi, ?_⟩
    obtain ⟨hflight, hposted, hlist, hwriting, hsample, hlink, hcounters, hlf, hlast, hinput⟩ :=
      imageFault_reported (s := s.endFlight) rfl p a
    refine ⟨(imageFault_at (endFlight_at (.refl p s)) a).onlyPort, hflight, hposted, hlist, hwriting, hsample, hlink,
      hcounters, hlf, hlast, hinput, ?_⟩
    have hport := faultPosted_port s.endFlight p a
    have hgroups : GroupsKept s (s.endFlight.faultPosted p a) := State.group_congr (faultPosted_groups s.endFlight p a)
    have hdone := faultPosted_done s.endFlight p a
    cases hstate : x.state with
    | armed => exact imageFault_readies (s := s.endFlight) (.inl hstate) a
    | cyclic =>
      by_cases hu : x.cyc.underWay = none
      · dsimp only
        rw [if_pos hu]
        exact imageFault_readies (s := s.endFlight) (.inr ⟨hstate, hu⟩) a
      · dsimp only
        rw [if_neg hu, imageFault_of_underWay (s := s.endFlight) hstate hu, State.port_modCyc_self, hport]
        exact ⟨hstate, rfl, rfl, rfl, hgroups, hdone⟩
    | recovery =>
      rw [imageFault_of_recovery (s := s.endFlight) hstate]
      dsimp only
      rw [State.port_modPort_self, leave_port, hport]
      exact ⟨hstate, rfl, rfl, rfl, (leave_groupsLeft _ p).after (faultPosted_groups s.endFlight p a), hdone⟩
    | idle | bringup | ready | disabled | fault =>
      rw [imageFault_of_unscheduled (s := s.endFlight) (by simp [show (s.port p).state = _ from hstate])]
      dsimp only
      rw [hport]
      exact ⟨hstate, rfl, rfl, hgroups, hdone⟩

end Sys2Proof.Machine
end

section
/-! PROOFS. The activation of the transfer at the head of the queue (R102, R103, R107 to R109). The idea here and at
the ends of accesses below: a transfer that ends is handed over from a state that differs from the one before the command in the
Transfer Engine's own record alone. -/

namespace Sys2Proof.Machine

/- Each proof waits for the kernel; checked one after another, they need no more threads than the rest of the package. -/
set_option Elab.async false

variable {p : PortId} {s u : State} {b : Transfer} {e : OrtEntry} {l : Link}

/-! ### An active transfer that ends -/

/-- From `s` to `u` only the Transfer Engine's record of the transfer `b`, now its active one, has changed at port `p`, and
nothing has been handed over. -/
structure Engaged (p : PortId) (b : Transfer) (s u : State) : Prop where
  kept : At p s u
  lists : ListsKept s u
  hands : Hands s u []
  port : ∃ te, u.port p = (s.port p).withTe te ∧ te.transfer = some b ∧ te.lastToggle = (s.port p).te.lastToggle

theorem Engaged.transfer (h : Engaged p b s u) : (u.port p).te.transfer = some b := by
  obtain ⟨te, hport, hb, -⟩ := h.port
  rw [hport]
  exact hb

theorem Engaged.transferOver (h : Engaged p b s u) (queue : List Transfer) :
    (u.port p).transferOver queue = (s.port p).transferOver queue := by
  obtain ⟨te, hport, -, hl⟩ := h.port
  simp only [hport, Port.transferOver, Port.withTe, hl]

theorem Engaged.queue (h : Engaged p b s u) : (u.port p).queue = (s.port p).queue := by
  obtain ⟨te, hport, -⟩ := h.port
  rw [hport]
  rfl

/-- The entry stands in the table, not DONE, and no ABORT waits for it. -/
theorem pends_of_find {id : Nat} (he : s.ortFind id = some e) (hd : e.st ≠ .done) (hn : s.NotAwaited id) :
    e.id = id ∧ s.Pends e := by
  obtain rfl : e.id = id := by simpa using List.find?_some he
  exact ⟨rfl, ⟨e.st, hd, he⟩, hn⟩

/-- From `s` to `t` the active transfer `b` of port `p`, whose table entry is `e`, was handed over and left the queue, and
nothing else was (R26, R101, R148). -/
def HandedAlone (p : PortId) (b : Transfer) (e : OrtEntry) (st : Status) (r : Word) (s t : State) : Prop :=
  OnlyPort p s t ∧ GroupsKept s t ∧ t.entryState b.ort = some .done ∧
  t.port p = (s.port p).transferOver ((s.port p).queue.filter fun q => q.ort ≠ b.ort) ∧
  t.cpl.done = s.cpl.done ++
    [{ ort := b.ort, tag := e.tag, kind := e.kind, target := e.target, status := st, result := r, arrival := s.arrivals }]

theorem Engaged.endActive (h : Engaged p b s u) (he : e.id = b.ort) (hp : s.Pends e) (st : Status) (r : Word) :
    HandedAlone p b e st r s (u.endActive p st r) := by
  have hands : Hands s (u.endActive p st r) [(e, st, r)] :=
    h.hands.nil_trans (endActive_hands h.transfer he (h.hands.pends e hp (by simp)) st r)
  refine ⟨(endActive_at h.kept st r).onlyPort, (endActive_lists h.lists st r).groupsKept, ?_, ?_, ?_⟩
  · rw [← he]
    exact hands.handed _ (List.mem_singleton_self _)
  · rw [endActive_port h.transfer, h.transferOver, h.queue]
  · rw [hands.done]
    simp [OrtEntry.completion, he]

/-! ### Activation (R107, R108) -/

/-- The head of the queue is the active transfer, and has not begun (R108). -/
def State.activated (s : State) (p : PortId) (b : Transfer) : State :=
  (s.withPort p ((s.port p).withTe { TransferEngine.reset with
    lastToggle := (s.port p).te.lastToggle, phase := .sendWait, transfer := some b })).setOrtState b.ort .active

theorem activated_port (s : State) (p : PortId) (b : Transfer) : (s.activated p b).port p =
    (s.port p).withTe { TransferEngine.reset with
      lastToggle := (s.port p).te.lastToggle, phase := .sendWait, transfer := some b } := by
  rw [State.activated, State.port_setOrtState, port_withPort]

theorem activated_engaged (s : State) (p : PortId) (b : Transfer) : Engaged p b s (s.activated p b) where
  kept := setOrtState_at (modPort_at (.refl p s) fun x => x.withTe _) b.ort .active
  lists := setOrtState_lists (modPort_lists (p := p) (.refl s) fun x => x.withTe _) b.ort .active
  hands := by
    unfold State.activated
    refine Hands.nil_trans ?_ (setOrtState_hands (by decide) _ b.ort)
    exact .of_eq rfl rfl rfl
  port := ⟨_, activated_port s p b, rfl, rfl⟩

/-- The port runs under a schedule whose gaps cannot hold the largest segment (R107). -/
def Port.gapsTooSmall (x : Port) : Bool :=
  x.underSchedule && match x.link, x.sched with
    | some l, some k => !fitTest x.config l k.period
    | _, _ => false

theorem fitTest_iff {c : PortConfig} {period : Nat} : fitTest c l period = true ↔
    windowUs c l.speed (2 + segSize l.desc) (3 + segSize l.desc) + wCyc c l ≤ period := decide_eq_true_iff

theorem gapsTooSmall_eq_false_iff {x : Port} (hl : x.link = some l) : x.gapsTooSmall = false ↔
    (x.underSchedule = true → ∀ k, x.sched = some k →
      windowUs x.config l.speed (2 + segSize l.desc) (3 + segSize l.desc) + wCyc x.config l ≤ k.period) := by
  unfold Port.gapsTooSmall
  rw [hl]
  cases x.sched with
  | none => simp
  | some k => simp [fitTest_iff]

theorem activate_eq (s : State) (p : PortId) (b : Transfer) : s.activate p b =
    if (s.port p).gapsTooSmall then (s.activated p b).endActive p .windowTooSmall 0
    else if b.write then (s.activated p b).claimFetch p b
    else (s.activated p b).modTe p (TransferEngine.build (readSegment b true)) := by
  have hgaps : ((s.activated p b).port p).gapsTooSmall = (s.port p).gapsTooSmall := by
    rw [activated_port]
    rfl
  rw [← hgaps]
  rfl

/-- An update of a port and a change of an entry's state do not meet. -/
theorem setOrtState_modPort (s : State) (id : Nat) (st : OrtState) (p : PortId) (f : Port → Port) :
    (s.setOrtState id st).modPort p f = (s.modPort p f).setOrtState id st := rfl

theorem exec_activation {rest : List Transfer} (hphase : (s.port p).te.phase = .none)
    (hlink : (s.port p).state.hasLink = true) (hqueue : (s.port p).queue = b :: rest) (hb : b.ending = none) :
    exec (.activation p) s = .next (s.activate p b) := by
  have hhead : s.activatable p = some b := by simp [State.activatable, hphase, hlink, hqueue, hb]
  change atInstant (s.activationDue p) (State.activateHead p) s = _
  rw [State.activationDue, hhead, State.nowIf, Option.isSome_some, if_pos rfl, atInstant_next _ (reaches_now (Nat.le_refl _)),
    State.activateHead, hhead]

theorem segSize_of_link {x : Port} (hl : x.link = some l) : x.segSize = segSize l.desc := by
  simp [Port.segSize, hl]

/-- The table with one entry in another state, as the claims write it (R131). -/
theorem moved_eq_ite (id : Nat) (st : OrtState) :
    OrtEntry.moved id st = fun e => if e.id = id ∧ e.st ≠ .done then { e with st := st } else e := by
  funext e
  by_cases hid : e.id = id
  · by_cases hd : e.st = .done
    · simp [OrtEntry.moved, hid, hd]
    · simp [OrtEntry.moved, hid, hd]
  · simp [OrtEntry.moved, hid]

/-- A write begins with the claim of its first segment's data (R102, R109). -/
theorem activated_claimFetch (hl : (s.port p).link = some l) : (s.activated p b).claimFetch p b =
    (s.withPort p { s.port p with
      te := { TransferEngine.reset with
        lastToggle := (s.port p).te.lastToggle, transfer := some b, phase := .fetching }
      xclaims := (s.port p).xclaims ++ [.fetch b.buffer (min b.length (segSize l.desc - 4))] }).setOrtState b.ort .active := by
  have hsize : ((s.port p).withTe { TransferEngine.reset with
      lastToggle := (s.port p).te.lastToggle, phase := .sendWait, transfer := some b }).segSize = segSize l.desc :=
    segSize_of_link hl
  rw [State.claimFetch, State.activated, setOrtState_modPort, modPort_withPort, hsize]
  simp [Port.withTe, TransferEngine.reset, nextWriteLen]

/-- A read begins with its first segment (R103). -/
theorem activated_build : (s.activated p b).modTe p (TransferEngine.build (readSegment b true)) =
    (s.withPort p { s.port p with
      te := { TransferEngine.reset with
        lastToggle := (s.port p).te.lastToggle, transfer := some b, phase := .sendWait
        segment := some (readSegment b true) } }).setOrtState b.ort .active := by
  rw [State.modTe, State.activated, setOrtState_modPort, modPort_withPort]
  rfl

/-- Settles O57: the head begins with its claim or its first segment, or is handed over by `Engaged.endActive`. -/
theorem activationBeginsTheHeadTransfer : Obligations.ActivationBeginsTheHeadTransfer := by
  intro p a rest l s x hphase hlink hqueue hending hl seg fits begun
  have hexec := exec_activation hphase hlink hqueue hending
  have hgaps : x.gapsTooSmall = false ↔ fits := gapsTooSmall_eq_false_iff hl
  refine ⟨fun hfits => ?_, fun hunfit e he hst hna => ?_⟩
  · rw [hexec, activate_eq, hgaps.mpr hfits, if_neg (by decide), ← moved_eq_ite]
    cases a.write with
    | true => exact congrArg Host.Outcome.next (activated_claimFetch hl)
    | false => exact congrArg Host.Outcome.next activated_build
  · obtain ⟨hid, hpends⟩ := pends_of_find he hst hna
    have hsmall : x.gapsTooSmall = true := (Bool.not_eq_false _).mp (mt hgaps.mp hunfit)
    rw [Completes, hexec, activate_eq, if_pos hsmall]
    exact ⟨_, rfl, (activated_engaged s p a).endActive hid hpends .windowTooSmall 0⟩

end Sys2Proof.Machine
end

section
/-! PROOFS. The hand-over conditions of service frames, and what goes out under them (R104 to R107, R117). -/

namespace Sys2Proof.Machine

/- Each proof waits for the kernel; checked one after another, they need no more threads than the rest of the package. -/
set_option Elab.async false

variable {p : PortId} {s : State} {b : Transfer} {w : OrtEntry} {l : Link} {g : Segment} {m : Nat} {yes : Bool}

/-! ### The hand-over conditions (R105 to R107) -/

/-- A service frame goes out whatever its length: no start is to come, and the line takes a hand-over (R105). -/
def Port.sendsFreely (x : Port) : Prop :=
  (x.state = .ready ∨ (x.state = .armed ∧ ∀ k, x.sched = some k → k.next = none)) ∧
    (x.lf.state = .free ∨ x.lf.state = .guard)

/-- The line is free before the next start `n` of the schedule `k` (R106). -/
def Port.beforeStart (x : Port) (k : Sched) (n : Word) : Prop :=
  (x.state = .cyclic ∨ x.state = .armed) ∧ x.lf.state = .free ∧ x.sched = some k ∧ k.next = some n

/-- In the gaps of the schedule the largest segment fits, and `yes` tells whether the window of a frame of `m` characters ends
by the next start (R106, R107). -/
def State.InGap (s : State) (p : PortId) (l : Link) (m : Nat) (yes : Bool) : Prop :=
  ∃ k n, (s.port p).beforeStart k n ∧ fitTest (s.port p).config l k.period = true ∧
    windowTest s.timebase n (serviceWindow (s.port p).config l m) = yes

/-- The gaps of the schedule cannot hold the largest segment (R107). -/
def Port.unfit (x : Port) (l : Link) : Prop := ∃ k n, x.beforeStart k n ∧ fitTest x.config l k.period = false

theorem Port.sendsFreely.unscheduled {x : Port} (h : x.sendsFreely) : x.underSchedule = false := by
  obtain ⟨hready | ⟨harmed, hnext⟩, -⟩ := h
  · simp [Port.underSchedule, hready]
  · cases hk : x.sched with
    | none => simp [Port.underSchedule, harmed, hk]
    | some k => simp [Port.underSchedule, harmed, hk, hnext k hk]

theorem Port.beforeStart.scheduled {x : Port} {k : Sched} {n : Word} (h : x.beforeStart k n) : x.underSchedule = true := by
  obtain ⟨hcyclic | harmed, -, hk, hn⟩ := h
  · simp [Port.underSchedule, hcyclic]
  · simp [Port.underSchedule, harmed, hk, hn]

theorem handOverTest_of_sendsFreely (h : (s.port p).sendsFreely) (hh : (s.port p).lf.held = none) (m : Nat) :
    s.handOverTest p m = .goes := by
  have hstate : (s.port p).state = .ready ∨ (s.port p).state = .armed := h.1.imp id And.left
  have htake : (s.port p).lf.canTake = true := by simpa [Framer.canTake, hh] using h.2
  rw [State.handOverTest, h.unscheduled]
  simpa [htake, or_iff_not_imp_left] using hstate

theorem handOverTest_of_beforeStart {k : Sched} {n : Word} (h : (s.port p).beforeStart k n)
    (hl : (s.port p).link = some l) (hh : (s.port p).lf.held = none) (m : Nat) :
    s.handOverTest p m =
      if fitTest (s.port p).config l k.period = true then
        if windowTest s.timebase n (serviceWindow (s.port p).config l m) = true then .goes else .waits
      else .unfit := by
  obtain ⟨-, hfree, hk, hn⟩ := id h
  cases hfit : fitTest (s.port p).config l k.period <;>
    simp [State.handOverTest, h.scheduled, hl, hk, hfree, hh, hn, hfit]

theorem handOverTest_goes (h : (s.port p).sendsFreely ∨ s.InGap p l m true) (hl : (s.port p).link = some l)
    (hh : (s.port p).lf.held = none) : s.handOverTest p m = .goes := by
  obtain h | ⟨k, n, hk, hfit, hwindow⟩ := h
  · exact handOverTest_of_sendsFreely h hh m
  · rw [handOverTest_of_beforeStart hk hl hh, if_pos hfit, if_pos hwindow]

theorem handOverTest_waits (h : s.InGap p l m false) (hl : (s.port p).link = some l) (hh : (s.port p).lf.held = none) :
    s.handOverTest p m = .waits := by
  obtain ⟨k, n, hk, hfit, hwindow⟩ := h
  rw [handOverTest_of_beforeStart hk hl hh, if_pos hfit, hwindow, if_neg (by decide)]

theorem handOverTest_unfit (h : (s.port p).unfit l) (hl : (s.port p).link = some l) (hh : (s.port p).lf.held = none)
    (m : Nat) : s.handOverTest p m = .unfit := by
  obtain ⟨k, n, hk, hfit⟩ := h
  rw [handOverTest_of_beforeStart hk hl hh, hfit, if_neg (by decide)]

/-! ### The rows -/

theorem exec_segmentHandOver (hphase : (s.port p).te.phase = .sendWait) (hg : (s.port p).te.segment = some g) :
    exec (.segmentHandOver p) s = .next (s.handSegment p) := by
  change atInstant (s.segmentDue p) (State.handSegment p) s = _
  by_cases hw : s.handOverTest p g.chars = .waits
  · simp [State.segmentDue, hg, hw, State.nowIf, atInstant, State.handSegment]
  · have hdue : s.segmentDue p = some s.time := by simp [State.segmentDue, hg, hphase, hw, State.nowIf]
    rw [hdue, atInstant_next _ (reaches_now (Nat.le_refl _))]

theorem exec_svcAbandon (hphase : (s.port p).te.phase = .abandonWait) :
    exec (.svcAbandon p) s = .next (s.handAbandon p) := by
  change atInstant (s.abandonDue p) (State.handAbandon p) s = _
  by_cases hw : s.handOverTest p 2 = .waits
  · simp [State.abandonDue, hw, State.nowIf, atInstant, State.handAbandon]
  · have hdue : s.abandonDue p = some s.time := by simp [State.abandonDue, hphase, hw, State.nowIf]
    rw [hdue, atInstant_next _ (reaches_now (Nat.le_refl _))]

theorem handToLine_eq (s : State) (p : PortId) (h : Handed) :
    s.handToLine p h = s.withPort p { s.port p with lf := (s.port p).lf.taking h s.time } := rfl

theorem sendSegment_eq (hl : (s.port p).link = some l) (g : Segment) : s.sendSegment p g =
    let x := s.port p
    let toggle := g.toggle.getD (!x.te.lastToggle)
    s.withPort p { x with
      lf := x.lf.taking (.frame
        { engine := .transfer, kind := if g.write then .svcWrite else .svcRead, speed := l.speed, toggle := toggle,
          first := g.first, last := g.last, stale := false, payload := g.payload, replyLen := 0,
          seg := segSize l.desc }) s.time
      te := { x.te with
        phase := .exchange, sent := true, segment := some { g with toggle := some toggle }, lastToggle := toggle } } := by
  unfold State.sendSegment segmentFrame
  simp only [handToLine_eq, modTe_withPort, segSize_of_link hl, hl, Option.map_some, Option.getD_some]

/-- SVC_ABANDON goes out (R117). -/
theorem sendAbandon_eq (hl : (s.port p).link = some l) :
    ((s.handToLine p (.frame (abandonFrame (s.port p)))).modTe p fun te => { te with phase := .abandonExchange }) =
      s.withPort p { s.port p with
        lf := (s.port p).lf.taking (.frame
          { engine := .transfer, kind := .svcAbandon, speed := l.speed, toggle := false, first := false, last := false,
            stale := false, payload := [], replyLen := 0, seg := segSize l.desc }) s.time
        te := { (s.port p).te with phase := .abandonExchange } } := by
  unfold abandonFrame
  simp only [handToLine_eq, modTe_withPort, segSize_of_link hl, hl, Option.map_some, Option.getD_some]

/-! ### A transfer whose segment does not fit (R107) -/

/-- The active transfer is handed over in place of a frame, and the line and the schedule stay (R107). -/
theorem endActive_withoutFrame (hb : (s.port p).te.transfer = some b) (hw : w.id = b.ort) (ho : s.Open [w]) (st : Status)
    (r : Word) :
    let t := s.endActive p st r
    OnlyPort p s t ∧ GroupsKept s t ∧ t.cpl.events = s.cpl.events ∧ TransferEnds p b w st r s t ∧
      (t.port p).lf = (s.port p).lf ∧ (t.port p).sched = (s.port p).sched := by
  intro t
  have hserves : Serves p s t := endActive_serves (.refl p s) st r
  exact ⟨(endActive_at (.refl p s) st r).onlyPort, hserves.lists.groupsKept, hserves.lists.events,
    endActive_transferEnds hb hw (ho.pends (List.mem_singleton_self w)) st r,
    (congrArg Port.lf hserves.beside :), (congrArg Port.sched hserves.beside :)⟩

/-- Settles O58: what the hand-over conditions answer decides what the row does. -/
theorem segmentsGoOutWhenTheyFit : Obligations.SegmentsGoOutWhenTheyFit := by
  intro p l s x hl hh out window fits free scheduled inGap unfit handed
  have hfits : ∀ k, fits k ↔ fitTest x.config l k.period = true := fun k => fitTest_iff.symm
  have hgap : ∀ m yes, inGap m yes → s.InGap p l m yes := fun m yes ⟨k, n, hk, hfit, hwindow⟩ =>
    ⟨k, n, hk, (hfits k).mp hfit, hwindow⟩
  have hunfit : unfit → x.unfit l := fun ⟨k, n, hk, hfit⟩ =>
    ⟨k, n, hk, (Bool.not_eq_true _).mp (mt (hfits k).mpr hfit)⟩
  have hgoes : ∀ m, free ∨ inGap m true → s.handOverTest p m = .goes := fun m h =>
    handOverTest_goes (h.imp id (hgap m true)) hl hh
  refine ⟨fun g hphase hg => ?_, fun hphase => ?_⟩
  · have hexec := exec_segmentHandOver hphase hg
    rw [State.handSegment, hg] at hexec
    refine ⟨fun h => ?_, fun h => ?_, fun b w h hb hw ho => ?_⟩
    · simp only [Segment.chars, hgoes _ h, sendSegment_eq hl] at hexec
      exact hexec
    · simp only [Segment.chars, handOverTest_waits (hgap _ _ h) hl hh] at hexec
      exact hexec
    · simp only [handOverTest_unfit (hunfit h) hl hh] at hexec
      exact ⟨_, hexec, endActive_withoutFrame hb hw ho .windowTooSmall 0⟩
  · have hexec := exec_svcAbandon hphase
    rw [State.handAbandon] at hexec
    refine ⟨fun h => ?_, fun h => ?_, fun b w c h hb hc hw ho => ?_⟩
    · simp only [hgoes _ h, sendAbandon_eq hl] at hexec
      exact hexec
    · simp only [handOverTest_waits (hgap _ _ h) hl hh] at hexec
      exact hexec
    · simp only [handOverTest_unfit (hunfit h) hl hh, endAbandoned_of hc] at hexec
      exact ⟨_, hexec, endActive_withoutFrame hb hw ho _ _⟩

end Sys2Proof.Machine
end

section
/-! PROOFS. The ends of the Transfer Engine's accesses (R102, R103, R109, R110, R116 to R120). -/

namespace Sys2Proof.Machine

/- Each proof waits for the kernel; checked one after another, they need no more threads than the rest of the package. -/
set_option Elab.async false

variable {p : PortId} {s : State} {b : Transfer} {e : OrtEntry} {f : BusFlight} {a : Word} {c : AbandonCause}

/-! ### An access that the engine has given up (R43, R120) -/

/-- Nothing waits for the access: its end only makes the claim listed meanwhile (R101). -/
theorem formerEnded_of_nothing_due (hd : (s.port p).disables = [])
    (hq : (s.port p).queue.filter (Transfer.due false) = []) :
    s.formerEnded p = s.withPort p (s.port p).reclaimed := by
  have hport : (s.withPort p (s.port p).reclaimed).port p = (s.port p).reclaimed := port_withPort _ _ _
  have hstay : (s.port p).queue.filter (fun u => !u.due false) = (s.port p).queue :=
    List.filter_eq_self.mpr fun u hu => by simpa using List.filter_eq_nil_iff.mp hq u hu
  rw [formerEnded_eq hd, handEnded_of_nil (by rw [hport]; exact hq), modPort_withPort, modPort_withPort]
  unfold Port.reclaimed
  dsimp only
  rw [hstay, ← hd]

/-- A transfer that waits for its SVC_ABANDON exchange does not wait for an access. -/
theorem due_eq_nil_of_onExchange {l : List Transfer} (h : ∀ u ∈ l, ∀ e, u.ending = some e → e.onExchange = true) :
    l.filter (Transfer.due false) = [] :=
  List.filter_eq_nil_iff.mpr fun u hu => by
    cases he : u.ending with
    | none => simp [Transfer.due, he]
    | some e => simp [Transfer.due, he, h u hu e he]

/-! ### The rows -/

theorem exec_transferFetchEnd {len : Nat} (hf : s.bus.flight = some f) (hlive : f.live = true)
    (ha : f.access = .transferFetch p a len) (d : Option ReadData) :
    exec (.transferFetchEnd d) s = .next (s.endFlight.fetchEnded p d) := by
  obtain ⟨access, live, wanted⟩ := f
  obtain rfl : live = true := hlive
  subst ha
  change execTransferFetchEnd d s = _
  simp only [execTransferFetchEnd, hf, if_true]

theorem exec_transferStoreEnd {l : List Byte} (hf : s.bus.flight = some f) (hlive : f.live = true)
    (ha : f.access = .transferStore p a l) (ok : Bool) :
    exec (.transferStoreEnd ok) s = .next (s.endFlight.storeEnded p ok) := by
  obtain ⟨access, live, wanted⟩ := f
  obtain rfl : live = true := hlive
  subst ha
  change execTransferStoreEnd ok s = _
  simp only [execTransferStoreEnd, hf, if_true]

/-! ### What the Transfer Engine does at the end of an access -/

theorem fetchEnded_of_cause (hb : (s.port p).te.transfer = some b) (hc : (s.port p).te.cause = some c)
    (d : Option ReadData) :
    s.fetchEnded p d = if (s.port p).te.sent then s.abandonNow p else s.endAbandoned p := by
  simp only [State.fetchEnded, hb, hc, Option.isSome_some, if_true]

theorem fetchEnded_error (hb : (s.port p).te.transfer = some b) (hc : (s.port p).te.cause = none) :
    s.fetchEnded p none = s.abandonFor p .bufferFault := by
  simp only [State.fetchEnded, hb, hc, Option.isSome_none, Bool.false_eq_true, if_false]

theorem length_octets {w : Nat} (n : Nat) (v : BitVec w) : (octets n v).length = n := by simp [octets]

/-- A fetch that ends with data builds the next write segment (R102). -/
theorem fetchEnded_data (hb : (s.port p).te.transfer = some b) (hc : (s.port p).te.cause = none) (d : ReadData) :
    let x := s.port p
    let n := nextWriteLen b x.segSize x.te.octetsDone
    s.fetchEnded p (some d) = s.withPort p (x.withTe { x.te with
      phase := .sendWait, storing := none
      segment := some
        { write := true, first := x.te.octetsDone == 0, last := x.te.octetsDone + n == b.length, dataLen := n, toggle := none
          payload := (if x.te.octetsDone = 0 then firstHeader b else []) ++ octets n d } }) := by
  simp only [State.fetchEnded, hb, hc, Option.isSome_none, Bool.false_eq_true, if_false, modTe_eq_withPort, writeSegment,
    TransferEngine.build, length_octets]
  rfl

section store

variable {len : Nat} {last : Bool} (hb : (s.port p).te.transfer = some b)
  (hst : (s.port p).te.storing = some (len, last))

include hb hst

theorem storeEnded_of_cause (hc : (s.port p).te.cause = some c) (ok : Bool) : s.storeEnded p ok = s.abandonNow p := by
  simp only [State.storeEnded, hb, hst, hc, Option.isSome_some, if_true]

theorem storeEnded_error (hc : (s.port p).te.cause = none) : s.storeEnded p false = s.abandonFor p .bufferFault := by
  simp only [State.storeEnded, hb, hst, hc, Option.isSome_none, Bool.false_eq_true, if_false, Bool.not_false, if_true]

/-- A store that ends with success adds its octets; then the read is complete, or its next segment is built (R110). -/
theorem storeEnded_ok (hc : (s.port p).te.cause = none) :
    let x := s.port p
    let stored := { x.te with octetsDone := x.te.octetsDone + len }
    s.storeEnded p true =
      if last then (s.withPort p (x.withTe stored)).endActive p .ok (BitVec.ofNat 32 (x.te.octetsDone + len))
      else s.withPort p (x.withTe { stored with
        phase := .sendWait, storing := none, segment := some (readSegment b false) }) := by
  simp only [State.storeEnded, hb, hst, hc, Option.isSome_none, Bool.false_eq_true, if_false, Bool.not_true,
    modTe_eq_withPort, port_withPort, withPort_withPort]
  rfl

end store

/-! ### The transfer handed over, or waiting to send SVC_ABANDON (R116, R117) -/

/-- The end of the access in flight, and a new record of the Transfer Engine on its transfer. -/
theorem endFlight_engaged {te : TransferEngine} (hb : te.transfer = some b) (hl : te.lastToggle = (s.port p).te.lastToggle) :
    Engaged p b s (s.endFlight.withPort p ((s.port p).withTe te)) where
  kept := modPort_at (endFlight_at (.refl p s)) fun _ => (s.port p).withTe te
  lists := ⟨rfl, rfl⟩
  hands := .of_eq rfl rfl rfl
  port := ⟨te, port_withPort _ _ _, hb, hl⟩

theorem endActive_bus (s : State) (p : PortId) (st : Status) (r : Word) : (s.endActive p st r).bus = s.bus := by
  unfold State.endActive
  split
  · rfl
  · rw [handOver_bus]
    rfl

/-- The transfer is handed over at the end of its access, the Transfer Engine having counted before. -/
theorem endFlight_endActive {te : TransferEngine} (hb : te.transfer = some b)
    (hl : te.lastToggle = (s.port p).te.lastToggle) (he : e.id = b.ort) (hp : s.Pends e) (st : Status) (r : Word) :
    let t := (s.endFlight.withPort p ((s.port p).withTe te)).endActive p st r
    HandedAlone p b e st r s t ∧ t.bus.flight = none := by
  refine ⟨(endFlight_engaged hb hl).endActive he hp st r, ?_⟩
  rw [endActive_bus]
  rfl

/-- An abandon cause set where nothing has been sent hands the transfer over with it (R116, R117). -/
theorem abandonFor_unsent (hs : (s.port p).te.sent = false) (hc : (s.port p).te.cause = none) (c : AbandonCause) :
    let te := { (s.port p).te with cause := some c }
    s.abandonFor p c = (s.withPort p ((s.port p).withTe te)).endActive p (te.abandonedAs c).1 (te.abandonedAs c).2 := by
  intro te
  have hmarked : (s.modTe p fun te => { te with cause := some (te.cause.getD c) }) = s.withPort p ((s.port p).withTe te) := by
    rw [modTe_eq_withPort, hc]
    rfl
  unfold State.abandonFor
  rw [hmarked]
  dsimp only
  rw [port_withPort, if_neg (by simp [Port.withTe, te, hs]), endAbandoned_of (c := c) (by rw [port_withPort]; rfl),
    port_withPort]
  rfl

/-- The end of an access finds a transfer that is to send SVC_ABANDON for `c` (R116, R117). -/
def State.abandonedAfterAccess (s : State) (p : PortId) (c : AbandonCause) : State :=
  s.endFlight.withPort p { s.port p with
    te := { (s.port p).te with cause := some c }.abandoning, xclaims := (s.port p).xclaims.filter (·.isReport) }

theorem endFlight_abandonNow (hc : (s.port p).te.cause = some c) :
    s.endFlight.abandonNow p = s.abandonedAfterAccess p c := by
  rw [abandonNow_eq, State.port_endFlight, State.abandonedAfterAccess, ← hc]

theorem endFlight_abandonFor_sent (hs : (s.port p).te.sent = true) (hc : (s.port p).te.cause = none) (c : AbandonCause) :
    s.endFlight.abandonFor p c = s.abandonedAfterAccess p c := by
  rw [abandonFor_sent (s := s.endFlight) hs, State.port_endFlight, hc]
  rfl

/-- With nothing counted before, the transfer is handed over as it stood. -/
theorem endFlight_endAbandoned (hc : (s.port p).te.cause = some c) : s.endFlight.endAbandoned p =
    (s.endFlight.withPort p ((s.port p).withTe (s.port p).te)).endActive p ((s.port p).te.abandonedAs c).1
      ((s.port p).te.abandonedAs c).2 := by
  rw [endAbandoned_of (s := s.endFlight) hc]
  exact congrArg (State.endActive p _ _) (withPort_self s.endFlight p).symm

/-- Settles O59: an access given up, then a live one by its abandon cause, a fetch, a store. -/
theorem anEndedAccessMovesTheTransferOn : Obligations.AnEndedAccessMovesTheTransferOn := by
  refine ⟨?_, ?_⟩
  · intro p f i s x ended hf ha hi hdead hd hq
    exact (exec_of_dropped (f := f) (by rw [hf, ← hdead]) ha hi).trans
      (congrArg Host.Outcome.next (formerEnded_of_nothing_due (s := s.endFlight) hd (due_eq_nil_of_onExchange hq)))
  intro p a f b e s x ended hf hlive hb he hst hna handed abandoned
  obtain ⟨hid, hpends⟩ := pends_of_find he hst hna
  have handedOver : ∀ (i : Instr) (te : TransferEngine) (st : Status) (r : Word), te.transfer = some b →
      te.lastToggle = x.te.lastToggle →
      exec i s = .next ((s.endFlight.withPort p (x.withTe te)).endActive p st r) → Completes i s (handed st r) := by
    intro i te st r hte hl hexec
    obtain ⟨⟨honly, hgroups, -, hport, hdone⟩, hflight⟩ := endFlight_endActive hte hl hid hpends st r
    exact ⟨_, hexec, honly, hgroups, hflight, hdone, hport⟩
  refine ⟨fun c hc => ⟨fun len d ha => ?_, fun l ok n last ha hstoring hsent => ?_⟩, fun len hc ha => ?_,
    fun l len last hc ha hstoring => ?_⟩
  · have hexec := exec_transferFetchEnd hf hlive ha d
    rw [fetchEnded_of_cause (s := s.endFlight) hb hc, State.port_endFlight] at hexec
    refine ⟨fun hsent => ?_, fun hsent => ?_⟩
    · rw [if_pos hsent, endFlight_abandonNow hc] at hexec
      exact hexec
    · rw [if_neg (ne_true_of_eq_false hsent), endFlight_endAbandoned hc] at hexec
      exact handedOver _ _ _ _ hb rfl hexec
  · have hexec := exec_transferStoreEnd hf hlive ha ok
    rw [storeEnded_of_cause (s := s.endFlight) hb hstoring hc, endFlight_abandonNow hc] at hexec
    exact hexec
  · refine ⟨fun d => ?_, fun hsent => ?_, fun hsent => ?_⟩
    · rw [exec_transferFetchEnd hf hlive ha, fetchEnded_data (s := s.endFlight) hb hc]
      rfl
    · have hexec := exec_transferFetchEnd hf hlive ha none
      rw [fetchEnded_error (s := s.endFlight) hb hc, abandonFor_unsent (s := s.endFlight) hsent hc] at hexec
      exact handedOver _ { x.te with cause := some .bufferFault } _ _ hb rfl hexec
    · have hexec := exec_transferFetchEnd hf hlive ha none
      rw [fetchEnded_error (s := s.endFlight) hb hc, endFlight_abandonFor_sent hsent hc] at hexec
      exact hexec
  · have hok := exec_transferStoreEnd hf hlive ha true
    rw [storeEnded_ok (s := s.endFlight) hb hstoring hc] at hok
    refine ⟨fun hlast => ?_, fun hlast => ?_, fun hsent => ?_⟩
    · rw [if_pos hlast] at hok
      exact handedOver _ { x.te with octetsDone := x.te.octetsDone + len } _ _ hb rfl hok
    · rw [if_neg (ne_true_of_eq_false hlast)] at hok
      exact hok
    · have hexec := exec_transferStoreEnd hf hlive ha false
      rw [storeEnded_error (s := s.endFlight) hb hstoring hc, endFlight_abandonFor_sent hsent hc] at hexec
      exact hexec

end Sys2Proof.Machine
end

section
/-! PROOFS. What the operations of the ports and of the Schedule Unit are made of, said once: updates of ports and groups, moves
of table entries, hand-overs, posts, and what becomes of the data of an access in flight. What such parts keep, every operation
keeps, by one induction (`Worked`). -/

namespace Sys2Proof.Machine

/- Each proof waits for the kernel; checked one after another, they need no more threads than the rest of the package. -/
set_option Elab.async false

variable {p : PortId} {s t u : State}

/-- From `s` to `t` ports and groups have changed in any way, entries of the table have moved or were handed over (R131, R148),
events were posted (R150), and the access in flight is the one it was. -/
inductive Worked (s : State) : State → Prop
  | refl : Worked s s
  | ports {t : State} (h : Worked s t) (x : Vector Port 8) : Worked s { t with ports := x }
  | groups {t : State} (h : Worked s t) (x : Vector Group 4) : Worked s { t with groups := x }
  | moved {t : State} (h : Worked s t) (id : Nat) (st : OrtState) : Worked s (t.setOrtState id st)
  | completed {t : State} (h : Worked s t) (id : Nat) (st : Status) (r : Word) : Worked s (t.complete id st r)
  | counted {t : State} (h : Worked s t) (id : Nat) : Worked s (t.counted id)
  | posted {t : State} (h : Worked s t) (p : PortId) (k : EventKind) (d : Word) : Worked s (t.post p k d)
  | flight {t : State} (h : Worked s t) (f : BusFlight → BusFlight) (hf : ∀ x, (f x).access = x.access) :
      Worked s (t.modBus fun b => { b with flight := b.flight.map f })

theorem ite_worked {c : Prop} [Decidable c] {a b : State} (ha : Worked s a) (hb : Worked s b) :
    Worked s (if c then a else b) := by
  split
  · exact ha
  · exact hb

theorem foldl_worked {α : Type} {f : State → α → State} (hf : ∀ a u, Worked s u → Worked s (f u a)) (l : List α)
    (h : Worked s t) : Worked s (l.foldl f t) := by
  induction l generalizing t with
  | nil => exact h
  | cons a l ih => exact ih (hf a t h)

section operations

variable (h : Worked s t)
include h

/-! ### Updates -/

theorem modPort_worked (f : Port → Port) : Worked s (t.modPort p f) := h.ports _

theorem modLf_worked (f : Framer → Framer) : Worked s (t.modLf p f) := h.ports _

theorem modSeq_worked (f : Sequencer → Sequencer) : Worked s (t.modSeq p f) := h.ports _

theorem modCyc_worked (f : CycleEngine → CycleEngine) : Worked s (t.modCyc p f) := h.ports _

theorem modTe_worked (f : TransferEngine → TransferEngine) : Worked s (t.modTe p f) := h.ports _

theorem modCounters_worked (f : Counters → Counters) : Worked s (t.modCounters p f) := h.ports _

theorem setPortState_worked (st : PortState) : Worked s (t.setPortState p st) := h.ports _

theorem setNext_worked (n : Option Word) : Worked s (t.setNext p n) := h.ports _

theorem leave_worked : Worked s (t.leave p) := (h.groups _).ports _

theorem modGroup_worked (g : GroupId) (f : Group → Group) : Worked s (t.modGroup g f) := h.groups _

theorem setOrtState_worked (id : Nat) (st : OrtState) : Worked s (t.setOrtState id st) := h.moved id st

theorem disown_worked (of : Access → Option PortId) (q : PortId) : Worked s (t.disown of q) :=
  h.flight _ fun x => by split <;> rfl

theorem unwantSample_worked (q : PortId) : Worked s (t.unwantSample q) :=
  h.flight _ fun x => by
    split
    · split <;> rfl
    · rfl

/-! ### Hand-overs and posts -/

theorem handOver_worked (id : Nat) (st : Status) (r : Word) : Worked s (t.handOver id st r) :=
  foldl_worked (fun _ _ hu => hu.completed _ _ _) _ ((h.completed id st r).counted id)

theorem handAll_worked (ids : List Nat) (st : Status) : Worked s (t.handAll ids st) :=
  foldl_worked (fun _ _ hu => handOver_worked hu _ _ _) _ h

theorem post_worked (q : PortId) (k : EventKind) (d : Word) : Worked s (t.post q k d) := h.posted q k d

/-! ### Line, schedule, sample, sequencer -/

theorem handToLine_worked (x : Handed) : Worked s (t.handToLine p x) := modLf_worked h _

theorem discardSample_worked : Worked s (t.discardSample p) := unwantSample_worked (modCyc_worked h _) _

theorem toReady_worked : Worked s (t.toReady p) := modPort_worked (discardSample_worked (leave_worked h)) _

theorem startSequence_worked (m : SeqMode) : Worked s (t.startSequence p m) := modSeq_worked h _

theorem stopSequence_worked : Worked s (t.stopSequence p) := modSeq_worked h _

/-! ### The queue and the active transfer -/

theorem clearTransfer_worked : Worked s (t.clearTransfer p) := modPort_worked h _

theorem endActive_worked (st : Status) (r : Word) : Worked s (t.endActive p st r) := by
  unfold State.endActive
  split
  · exact h
  · exact handOver_worked (modPort_worked (clearTransfer_worked h) _) _ _ _

theorem deferActive_worked (e : Ending) : Worked s (t.deferActive p e) := by
  unfold State.deferActive
  split
  · exact h
  · exact disown_worked (modPort_worked (clearTransfer_worked h) _) _ _

theorem returnActive_worked : Worked s (t.returnActive p) := by
  unfold State.returnActive
  split
  · exact h
  · exact disown_worked (setOrtState_worked (clearTransfer_worked h) _ _) _ _

theorem endTransfer_worked (st : Status) (r : Word) : Worked s (t.endTransfer p st r) :=
  ite_worked (deferActive_worked h _) (endActive_worked h _ _)

theorem endAbandoned_worked : Worked s (t.endAbandoned p) := by
  unfold State.endAbandoned
  split
  · exact h
  · exact endActive_worked h _ _

theorem stopActive_worked (b i : Bool) : Worked s (t.stopActive p b i) := by
  unfold State.stopActive
  dsimp only
  split
  · exact ite_worked (ite_worked (deferActive_worked h _) (endAbandoned_worked (disown_worked h _ _)))
      (endTransfer_worked h _ _)
  · refine ite_worked (endTransfer_worked h _ _) (ite_worked (deferActive_worked ?_ _) (returnActive_worked h))
    cases (t.port p).te.transfer with
    | none => exact h
    | some a => exact setOrtState_worked h a.ort .queued

theorem handQueue_worked (st : Status) : Worked s (t.handQueue p st) := handAll_worked (modPort_worked h _) _ _

theorem handEnded_worked (x : Bool) : Worked s (t.handEnded p x) := by
  refine foldl_worked (fun e u hu => ?_) _ (modPort_worked h _)
  split
  · exact handOver_worked hu _ _ _
  · exact hu

theorem accessEnded_worked : Worked s (t.accessEnded p) :=
  foldl_worked (fun _ _ hu => handOver_worked hu _ _ _) _ (modPort_worked (handEnded_worked h _) _)

theorem formerEnded_worked : Worked s (t.formerEnded p) := accessEnded_worked (modPort_worked h _)

/-! ### Misses, the end of a link, the end of a port's requests -/

theorem goodExchange_worked : Worked s (t.goodExchange p) := ite_worked (modCounters_worked h _) h

theorem countFailure_worked (c : Cause) : Worked s (t.countFailure p c) := modCounters_worked h _

theorem endSlot_worked (of : ControlKind → Status) (r : Word) : Worked s (t.endSlot p of r) := by
  unfold State.endSlot
  split
  · exact h
  · exact handOver_worked (modPort_worked h _) _ _ _

theorem linkEnd_worked (c : Cause) : Worked s (t.linkEnd p c) :=
  have h₁ := modCounters_worked (post_worked (modPort_worked h _) p .linkLost _) _
  have h₂ := discardSample_worked (ite_worked (modPort_worked (setPortState_worked h₁ _) _)
    (startSequence_worked (setPortState_worked h₁ _) _))
  have h₃ := stopActive_worked (endSlot_worked (ite_worked h₂ (leave_worked h₂)) _ _) _ _
  ite_worked (handQueue_worked h₃ _) h₃

theorem miss_worked (c : Cause) : Worked s (t.miss p c) :=
  ite_worked (ite_worked (linkEnd_worked h c) (modCounters_worked h _)) h

theorem endRequests_worked (st : Status) : Worked s (t.endRequests p st) :=
  handAll_worked (disown_worked (disown_worked (modPort_worked h _) _ _) _ _) _ _

theorem enterFault_worked (c : FaultCause) : Worked s (t.enterFault p c) :=
  ite_worked h (modPort_worked (stopSequence_worked (endRequests_worked (leave_worked (post_worked h _ _ _)) _)) _)

theorem attend_worked (a : Bool) (d : Word) : Worked s (t.attend p a d) :=
  have h₁ := modCounters_worked h _
  ite_worked (post_worked h₁ _ _ _) h₁

/-! ### The Bring-up Sequencer -/

theorem handIdentify_worked : Worked s (t.handIdentify p) := modSeq_worked (handToLine_worked h _) _

theorem beginAttempt_worked : Worked s (t.beginAttempt p) := handToLine_worked (modSeq_worked h _) _

theorem idleWithoutLink_worked : Worked s (t.idleWithoutLink p) := stopSequence_worked (modPort_worked h _)

theorem abortSequence_worked : Worked s (t.abortSequence p) :=
  handQueue_worked (endSlot_worked (idleWithoutLink_worked h) _ _) _

theorem failSequence_worked (n : Nat) : Worked s (t.failSequence p n) := by
  unfold State.failSequence
  split
  · exact handQueue_worked (endSlot_worked (idleWithoutLink_worked h) _ _) _
  · exact handQueue_worked (idleWithoutLink_worked (modPort_worked (leave_worked (post_worked h _ _ _)) _)) _

theorem linkMade_worked (l : Link) (st : PortState) : Worked s (t.linkMade p l st) :=
  stopSequence_worked (modPort_worked h _)

theorem succeedSequence_worked (d : Descriptor) : Worked s (t.succeedSequence p d) := by
  unfold State.succeedSequence
  dsimp only
  split
  · exact endSlot_worked (linkMade_worked h _ _) _ _
  · have h₁ := post_worked (linkMade_worked (p := p) h ⟨d, (t.port p).seq.rungSpeed⟩ .ready) p .linkRestored
    exact ite_worked (modPort_worked (post_worked (linkMade_worked h _ _) _ _ _) _)
      (ite_worked (modPort_worked (leave_worked (h₁ _)) _) (h₁ _))

theorem identifyOutcome_worked (o : Outcome) : Worked s (t.identifyOutcome p o) := by
  refine ite_worked h (ite_worked (abortSequence_worked h) ?_)
  split
  · dsimp only
    split
    · exact failSequence_worked h _
    · exact succeedSequence_worked h _
  · exact ite_worked (handIdentify_worked (modSeq_worked h _)) (ite_worked (modSeq_worked h _) (failSequence_worked h _))

theorem abortBringUp_worked : Worked s (t.abortBringUp p) := by
  unfold State.abortBringUp
  dsimp only
  split
  · exact abortSequence_worked h
  · exact ite_worked (abortSequence_worked h) (modSeq_worked h _)
  · exact modSeq_worked h _
  · exact modSeq_worked h _
  · exact h

/-! ### The Cycle Engine -/

theorem beginSample_worked : Worked s (t.beginSample p) := by
  unfold State.beginSample
  exact modCyc_worked (discardSample_worked h) _

theorem countJudgement_worked (j : Option StaleCause) : Worked s (t.countJudgement p j) := by
  unfold State.countJudgement
  split
  · exact modCounters_worked h _
  · exact ite_worked (post_worked (modCounters_worked h _) _ _ _) (modCounters_worked h _)

theorem finishStop_worked : Worked s (t.finishStop p) := by
  have h₁ : Worked s ((t.toReady p).modPort p fun x => { x with slot := none }) := modPort_worked (toReady_worked h) _
  unfold State.finishStop
  dsimp only
  split
  · exact handOver_worked h₁ _ _ _
  · exact h₁

theorem cycleEnds_worked : Worked s (t.cycleEnds p) := ite_worked (finishStop_worked h) h

theorem runCycle_worked (n : Word) : Worked s (t.runCycle p n) := by
  have hj : Worked s (t.judge p) :=
    discardSample_worked (ite_worked (modCyc_worked (countJudgement_worked h _) _) (countJudgement_worked h _))
  rw [runCycle_eq]
  split
  · exact modCyc_worked (handToLine_worked hj _) _
  · exact cycleEnds_worked hj

theorem slip_worked : Worked s (t.slip p) :=
  cycleEnds_worked (post_worked (modCounters_worked (discardSample_worked h) _) _ _ _)

theorem cycleAtStart_worked (n : Word) : Worked s (t.cycleAtStart p n) :=
  ite_worked (runCycle_worked h n) (ite_worked (modCyc_worked h _) (slip_worked h))

theorem emptyImageList_worked : Worked s (t.emptyImageList p) := unwantSample_worked (modCyc_worked h _) _

theorem imageFaultReady_worked : Worked s (t.imageFaultReady p) :=
  endSlot_worked (toReady_worked (modCyc_worked h _)) _ _

theorem imageFault_worked (a : Word) : Worked s (t.imageFault p a) := by
  have h₁ := emptyImageList_worked (p := p) (post_worked h p .imageFault a)
  unfold State.imageFault
  dsimp only
  split
  · exact imageFaultReady_worked h₁
  · exact ite_worked (imageFaultReady_worked h₁) (modCyc_worked h₁ _)
  · exact modPort_worked (leave_worked h₁) _
  all_goals exact h₁

theorem afterCycle_worked : Worked s (t.afterCycle p) :=
  ite_worked (imageFaultReady_worked h) (cycleEnds_worked h)

theorem cycleOutcome_worked (f : Frame) (o : Outcome) : Worked s (t.cycleOutcome p f o) := by
  have h₁ : Worked s (t.modCyc p fun c => { c with underWay := none }) := modCyc_worked h _
  unfold State.cycleOutcome
  dsimp only
  split
  · have h₂ := attend_worked (p := p) h₁
    exact afterCycle_worked (goodExchange_worked (ite_worked (modCyc_worked (h₂ _ _) _) (h₂ _ _)))
  · exact ite_worked (miss_worked h₁ _) (afterCycle_worked (miss_worked h₁ _))

/-! ### The Transfer Engine -/

theorem claimFetch_worked (x : Transfer) : Worked s (t.claimFetch p x) := modPort_worked h _

theorem activate_worked (x : Transfer) : Worked s (t.activate p x) := by
  have h₁ : Worked s ((t.modTe p fun te => { TransferEngine.reset with
      lastToggle := te.lastToggle, phase := .sendWait, transfer := some x }).setOrtState x.ort .active) :=
    setOrtState_worked (modTe_worked h _) _ _
  exact ite_worked (endActive_worked h₁ _ _) (ite_worked (claimFetch_worked h₁ _) (modTe_worked h₁ _))

theorem abandonNow_worked : Worked s (t.abandonNow p) := modPort_worked h _

theorem abandonFor_worked (c : AbandonCause) : Worked s (t.abandonFor p c) :=
  ite_worked (abandonNow_worked (modTe_worked h _)) (endAbandoned_worked (modTe_worked h _))

theorem sendSegment_worked (g : Segment) : Worked s (t.sendSegment p g) := by
  unfold State.sendSegment
  exact modTe_worked (handToLine_worked h _) _

theorem busyReply_worked (f : TransferEngine → TransferEngine) : Worked s (t.busyReply p f) :=
  ite_worked (endActive_worked (modTe_worked h _) _ _) (modTe_worked (modTe_worked h _) _)

theorem writeAccepted_worked (x : Transfer) (g : Segment) : Worked s (t.writeAccepted p x g) :=
  ite_worked (endActive_worked (modTe_worked h _) _ _) (claimFetch_worked (modTe_worked h _) _)

theorem readAccepted_worked (x : Transfer) (l : List Byte) (b : Bool) :
    Worked s (t.readAccepted p x l b) :=
  have h₁ := fun f => modTe_worked (p := p) h f
  ite_worked (abandonFor_worked (h₁ _) _)
    (ite_worked (ite_worked (endActive_worked (h₁ _) _ _) (busyReply_worked (h₁ _) _)) (modPort_worked (h₁ _) _))

theorem segmentReply_worked (x : Transfer) (g : Segment) (l : List Byte) :
    Worked s (t.segmentReply p x g l) := by
  unfold State.segmentReply
  dsimp only
  split
  · exact endActive_worked h _ _
  · exact busyReply_worked h _
  · exact ite_worked (writeAccepted_worked h _ _) (readAccepted_worked h _ _ _)

theorem segmentReplyAbandoned_worked (g : Segment) (l : List Byte) :
    Worked s (t.segmentReplyAbandoned p g l) := ite_worked (endAbandoned_worked h) (abandonNow_worked h)

theorem segmentFailed_worked : Worked s (t.segmentFailed p) :=
  ite_worked (abandonNow_worked h) (ite_worked (modTe_worked (modTe_worked h _) _) (abandonFor_worked (modTe_worked h _) _))

theorem segmentOutcome_worked (o : Outcome) : Worked s (t.segmentOutcome p o) := by
  unfold State.segmentOutcome
  split
  · split
    · have h₁ := attend_worked (p := p) (goodExchange_worked (p := p) h)
      exact ite_worked (segmentReplyAbandoned_worked (h₁ _ _) _ _) (segmentReply_worked (h₁ _ _) _ _ _)
    · exact ite_worked (miss_worked h _) (segmentFailed_worked (miss_worked h _))
  · exact h

theorem abandonOutcome_worked (o : Outcome) : Worked s (t.abandonOutcome p o) := by
  unfold State.abandonOutcome
  split
  · exact endAbandoned_worked (goodExchange_worked h)
  · exact ite_worked (miss_worked h _) (endAbandoned_worked (miss_worked h _))

theorem transferOutcome_worked (f : Frame) (o : Outcome) : Worked s (t.transferOutcome p f o) := by
  unfold State.transferOutcome
  split
  · exact segmentOutcome_worked h o
  · exact abandonOutcome_worked h o
  · exact handEnded_worked h _
  · exact h

theorem fetchEnded_worked (d : Option ReadData) : Worked s (t.fetchEnded p d) := by
  unfold State.fetchEnded
  dsimp only
  split
  · exact h
  · refine ite_worked (ite_worked (abandonNow_worked h) (endAbandoned_worked h)) ?_
    split
    · exact abandonFor_worked h _
    · exact modTe_worked h _

theorem storeEnded_worked (ok : Bool) : Worked s (t.storeEnded p ok) := by
  unfold State.storeEnded
  dsimp only
  split
  · exact ite_worked (abandonNow_worked h) (ite_worked (abandonFor_worked h _)
      (ite_worked (endActive_worked (modTe_worked h _) _ _) (modTe_worked (modTe_worked h _) _)))
  · exact h

theorem abortActive_worked : Worked s (t.abortActive p) :=
  have h₁ := fun f => modTe_worked (p := p) h f
  ite_worked h (ite_worked (h₁ _) (ite_worked (abandonNow_worked (h₁ _)) (endAbandoned_worked (h₁ _))))

theorem abortTransfer_worked (id : Nat) : Worked s (t.abortTransfer p id) :=
  ite_worked (abortActive_worked h) (ite_worked (handOver_worked (modPort_worked h _) _ _ _) h)

/-! ### The Line Framer -/

theorem deliver_worked (f : Frame) (o : Outcome) : Worked s (t.deliver p f o) := by
  have h₁ : Worked s (match o with
      | .failed c => t.countFailure p c
      | .ok _ => t) := by
    split
    · exact countFailure_worked h _
    · exact h
  unfold State.deliver
  dsimp only
  split
  · exact identifyOutcome_worked h₁ o
  · exact cycleOutcome_worked h₁ f o
  · exact transferOutcome_worked h₁ f o

theorem endExchange_worked (f : Frame) (o : Outcome) (n : Nat) : Worked s (t.endExchange p f o n) :=
  deliver_worked (modLf_worked h _) f o

theorem assertTxen_worked : Worked s (t.assertTxen p) := modPort_worked h _

theorem startOnLine_worked : Worked s (t.startOnLine p) := by
  unfold State.startOnLine
  split
  · exact h
  · exact ite_worked (modCounters_worked (modLf_worked (assertTxen_worked h) _) _) (modLf_worked (assertTxen_worked h) _)
  · exact modLf_worked (assertTxen_worked h) _

theorem guardOver_worked : Worked s (t.guardOver p) := by
  have h₁ : Worked s (t.modLf p fun x => { x with
      state := if x.held.isSome then .waiting else .free, waitSince := t.time, timer := none, flight := none }) :=
    modLf_worked h _
  unfold State.guardOver
  dsimp only
  refine ite_worked h₁ ?_
  split
  · exact ite_worked (abortSequence_worked (runCycle_worked (modCyc_worked h₁ _) _))
      (runCycle_worked (modCyc_worked h₁ _) _)
  · exact ite_worked (abortSequence_worked h₁) h₁

theorem pulseOver_worked : Worked s (t.pulseOver p) :=
  ite_worked (ite_worked (abortSequence_worked (modLf_worked h _)) (handIdentify_worked (modLf_worked h _))) (modLf_worked h _)

/-! ### Requests at a port -/

theorem badPortState_worked (id : Nat) : Worked s (t.badPortState id) := handOver_worked h _ _ _

theorem configurePort_worked (r : ReqRecord) (id : Nat) : Worked s (t.configurePort r id) :=
  ite_worked (handOver_worked (modPort_worked h _) _ _ _) (badPortState_worked h id)

theorem enablePort_worked (r : ReqRecord) (id : Nat) : Worked s (t.enablePort r id) := by
  unfold State.enablePort
  dsimp only
  split
  · exact handOver_worked (modPort_worked h _) _ _ _
  · exact badPortState_worked h id
  all_goals exact handOver_worked h _ _ _

theorem disablePort_worked (r : ReqRecord) (id : Nat) : Worked s (t.disablePort r id) := by
  have h : Worked s (((((t.leave (targetPort r)).endRequests (targetPort r) .portDisabled).stopSequence
      (targetPort r))).modPort (targetPort r) Port.disabled) :=
    modPort_worked (stopSequence_worked (endRequests_worked (leave_worked h) _)) _
  unfold State.disablePort
  exact ite_worked (handOver_worked h _ _ _) (setOrtState_worked (modPort_worked h _) _ _)

theorem queryPort_worked (r : ReqRecord) (id : Nat) : Worked s (t.queryPort r id) :=
  setOrtState_worked (modPort_worked h _) _ _

theorem bringUpPort_worked (r : ReqRecord) (id : Nat) : Worked s (t.bringUpPort r id) := by
  have h₁ : Worked s ((t.modPort (targetPort r) fun x => { x with
      slot := some (.bringUp, id), state := .bringup,
      counters := { x.counters with misses := 0 } }).setOrtState id .active) := setOrtState_worked (modPort_worked h _) _ _
  exact ite_worked (ite_worked (handOver_worked h _ _ _)
    (startSequence_worked (ite_worked (stopActive_worked h₁ _ _) h₁) _))
    (badPortState_worked h id)

theorem arm_worked (id : Nat) (k : Sched) : Worked s (t.arm p id k) := setOrtState_worked (modPort_worked h _) _ _

theorem startCycling_worked (r : ReqRecord) (id : Nat) : Worked s (t.startCycling r id) := by
  unfold State.startCycling
  dsimp only
  split
  · refine ite_worked (handOver_worked h _ _ _) ?_
    split
    · split
      · exact handOver_worked (modGroup_worked (modGroup_worked h _ _) _ _) _ _ _
      · exact arm_worked (modGroup_worked (modGroup_worked h _ _) _ _) _ _
    · split
      · exact handOver_worked h _ _ _
      · exact arm_worked h _ _
  · exact badPortState_worked h id

theorem stopCycling_worked (r : ReqRecord) (id : Nat) : Worked s (t.stopCycling r id) := by
  unfold State.stopCycling
  dsimp only
  split
  · exact handOver_worked h _ _ _
  · exact handOver_worked (modPort_worked (leave_worked h) _) _ _ _
  · exact handOver_worked (endSlot_worked (toReady_worked h) _ _) _ _ _
  · exact ite_worked (handOver_worked h _ _ _)
      (ite_worked (setOrtState_worked (modPort_worked h _) _ _) (handOver_worked (toReady_worked h) _ _ _))
  all_goals exact badPortState_worked h id

theorem queueTransfer_worked (w : Bool) (r : ReqRecord) (id : Nat) : Worked s (t.queueTransfer w r id) := by
  exact ite_worked (badPortState_worked h id)
    (ite_worked (handOver_worked h _ _ _) (setOrtState_worked (modPort_worked h _) _ _))

theorem configureGroup_worked (r : ReqRecord) (id : Nat) : Worked s (t.configureGroup r id) :=
  ite_worked (handOver_worked (modGroup_worked h _ _) _ _ _) (handOver_worked h _ _ _)

/-! ### ABORT -/

theorem abortCycleStart_worked : Worked s (t.abortCycleStart p) := endSlot_worked (toReady_worked h) _ _

theorem abortEntry_worked (e : OrtEntry) : Worked s (t.abortEntry e) :=
  ite_worked h (ite_worked (abortTransfer_worked h _) (ite_worked (abortBringUp_worked h)
    (ite_worked (abortCycleStart_worked h) h)))

theorem abortArrives_worked (a id : Nat) : Worked s (t.abortArrives a id) := by
  unfold State.abortArrives
  split
  · rename_i e _
    exact ite_worked (abortEntry_worked h e) h
  · exact h

/-! ### Fires -/

theorem firstFire_worked (g : GroupId) (m : Member) : Worked s (t.firstFire g m) :=
  ite_worked (setNext_worked h _) h

theorem refire_worked (g : GroupId) (m : Member) : Worked s (t.refire g m) := by
  unfold State.refire
  dsimp only
  split
  · rename_i n _ k _ _
    have h₁ : Worked s (t.setNext m.port (some n)) := setNext_worked h _
    refine ite_worked (post_worked (modCounters_worked ?_ _) _ _ _) ?_ <;>
      exact ite_worked h (ite_worked (cycleEnds_worked (discardSample_worked h₁)) h₁)
  · exact h

theorem fire_worked (g : GroupId) : Worked s (t.fire g) := by
  unfold State.fire
  refine foldl_worked (fun m u hu => ?_) _ (modGroup_worked h g _)
  split
  · exact refire_worked hu g m
  · exact firstFire_worked hu g m

theorem syncFireGroups_worked (r : ReqRecord) (id : Nat) : Worked s (t.syncFireGroups r id) := by
  unfold State.syncFireGroups
  dsimp only
  split
  · exact handOver_worked h _ _ _
  · exact handOver_worked (foldl_worked (fun g _ hu => fire_worked hu g) _ h) _ _ _

/-! ### The end of an arrival's way -/

theorem requestArrives_worked (k : Byte) (r : ReqRecord) (id : Nat) : Worked s (t.requestArrives k r id) := by
  unfold State.requestArrives
  repeat' split
  · exact configurePort_worked h r id
  · exact enablePort_worked h r id
  · exact disablePort_worked h r id
  · exact bringUpPort_worked h r id
  · exact startCycling_worked h r id
  · exact stopCycling_worked h r id
  · exact configureGroup_worked h r id
  · exact syncFireGroups_worked h r id
  · exact queueTransfer_worked h false r id
  · exact queueTransfer_worked h true r id
  · exact queryPort_worked h r id
  · exact h

theorem arrives_worked (a : Arrival) : Worked s (t.arrives a) := by
  cases a with
  | request id k r => exact requestArrives_worked h k r id
  | abort a id => exact abortArrives_worked h a id

theorem portArrival_worked (p : PortId) : Worked s (t.portArrival p) := by
  unfold State.portArrival
  split
  · exact arrives_worked (modPort_worked h _) _
  · exact h

/-! ### Reports and accesses -/

theorem reportEnded_worked (id : Nat) (ok : Bool) : Worked s (t.reportEnded p id ok) := by
  have h₁ := modPort_worked (p := p) h fun x => { x with queries := x.queries.filter fun q => q.ort ≠ id }
  unfold State.reportEnded
  split
  · exact h
  · exact accessEnded_worked (ite_worked (handOver_worked h₁ _ _ _) (handOver_worked h₁ _ _ _))

/-! ### Sampling and starts -/

theorem sampleNow_worked : Worked s (t.sampleNow p) :=
  ite_worked (beginSample_worked (modPort_worked h _)) (modPort_worked h _)

theorem actOnStart_worked (n : Word) : Worked s (t.actOnStart p n) := by
  unfold State.actOnStart
  dsimp only
  split
  · exact cycleAtStart_worked (endSlot_worked (setPortState_worked h _) _ _) _
  · exact ite_worked h (cycleAtStart_worked h n)
  all_goals exact h

theorem startNow_worked : Worked s (t.startNow p) := by
  unfold State.startNow
  split
  · exact actOnStart_worked (setNext_worked h _) _
  · exact h

/-! ### Transfers -/

theorem activateHead_worked : Worked s (t.activateHead p) := by
  unfold State.activateHead
  split
  · exact activate_worked h _
  · exact h

theorem handSegment_worked : Worked s (t.handSegment p) := by
  unfold State.handSegment
  split
  · exact h
  · split
    · exact sendSegment_worked h _
    · exact endActive_worked h _ _
    · exact h

theorem handAbandon_worked : Worked s (t.handAbandon p) := by
  unfold State.handAbandon
  split
  · exact modTe_worked (handToLine_worked h _) _
  · exact endAbandoned_worked h
  · exact h

/-! ### The line -/

theorem collide_worked (e : Exchange) (bit : Nat) : Worked s (t.collide p e bit) :=
  endExchange_worked (modPort_worked h _) _ _ _

theorem releaseLine_worked (n : Nat) : Worked s (t.releaseLine p n) := modPort_worked h _

theorem frameSent_worked : Worked s (t.frameSent p) := by
  unfold State.frameSent
  split
  · exact h
  · exact modPort_worked (releaseLine_worked h _) _

theorem lineIs_worked (told b : Bool) (n : Nat) : Worked s (t.lineIs p told b n) := ite_worked h (modPort_worked h _)

theorem beginReply_worked (told : Bool) (n : Nat) : Worked s (t.beginReply p told n) :=
  modLf_worked (lineIs_worked h _ _ _) _

theorem received_worked (tb : Nat) (told : Bool) (c next : Option Nat) (rx : Rx) :
    Worked s (t.received p tb told c next rx) := by
  unfold State.received
  split
  · exact modLf_worked (lineIs_worked h _ _ _) _
  · exact modPort_worked (lineIs_worked h _ _ _) _

theorem replyEnds_worked (f : Frame) (o : Outcome) (n : Nat) (b : Bool) (m : Nat) :
    Worked s (t.replyEnds p f o n b m) := endExchange_worked (lineIs_worked h _ _ _) _ _ _

theorem pulseSent_worked : Worked s (t.pulseSent p) := modLf_worked (releaseLine_worked h _) _

theorem lineLevel_worked (b : Bool) : Worked s (t.lineLevel p b) := modPort_worked h _
end operations

end Sys2Proof.Machine
end

section
/-! PROOFS. The ledger of the rings: what the invariants of the indices, the table and the completion credit read of the state
(R123, R130, R131, R140, R146, R147), and the changes of it that keep them. The four invariants travel in one relation,
`Ledger.Keeps`, since one needs another before the step. -/

namespace Sys2Proof.Machine

/- Each proof waits for the kernel; checked one after another, they need no more threads than the rest of the package. -/
set_option Elab.async false

/-- A part state in which no setup block is in force (R159, R162). -/
def PartState.Before (q : PartState) : Prop := q = .off ∨ q = .starting ∨ q = .resetting

/-- The record that an access writes, if it writes one: that of a table entry, or an EVENT record (R142). -/
def Access.record : Access → Option (Option Nat)
  | .recordWrite _ _ o => some o
  | _ => none

/-- What the invariants of the rings, the table and the credit read. -/
structure Ledger where
  part : PartState
  setup : Option Setup
  head : Nat
  tail : Nat
  cplTail : Nat
  cplHead : Nat
  used : Nat
  reserved : Nat
  ort : List OrtEntry
  /-- the entries whose completions wait for their records -/
  done : List Nat
  claim : Option RecordClaim
  /-- the record in flight -/
  flying : Option (Option Nat)

def State.ledger (s : State) : Ledger :=
  { part := s.part, setup := s.setup, head := s.head, tail := s.tail, cplTail := s.cpl.tail, cplHead := s.cpl.head,
    used := s.cpl.used, reserved := s.cpl.reserved, ort := s.ort, done := s.cpl.done.map (·.ort), claim := s.bus.recordClaim,
    flying := s.bus.flight.bind (·.access.record) }

namespace Ledger

variable {l a b c : Ledger} {u : Setup}

/-! ### The invariants -/

/-- The entries that wait for their record, and the one whose record is in flight. -/
def reported (l : Ledger) : List Nat := l.done ++ l.flying.join.toList

/-- The EVENT records claimed or in flight. -/
def events (l : Ledger) : Nat := (if l.claim = some .event then 1 else 0) + (if l.flying = some none then 1 else 0)

/-- The reservations are the entries in use, 64 at most (R130). -/
structure Books (l : Ledger) : Prop where
  reserved : l.reserved = l.ort.length
  size : l.ort.length ≤ Config.ortSize

/-- The table names its entries apart; an entry that waits for its record is DONE, and reported once (R130, R131). -/
structure Accounted (l : Ledger) : Prop where
  apart : (l.ort.map (·.id)).Nodup
  once : l.reported.Nodup
  done : ∀ id ∈ l.reported, ∃ e ∈ l.ort, e.id = id ∧ e.st = .done

/-- Used slots, reservations and EVENT records on their way fit the ring in force (R140, R147). -/
structure InCredit (l : Ledger) : Prop where
  single : l.events ≤ 1
  unset : l.setup = none → l.used = 0 ∧ l.reserved = 0
  fits : ∀ u, l.setup = some u → l.used + l.reserved + l.events ≤ u.cplSize

/-- The indices lie below the sizes of the block in force (R123, R140). -/
def IndicesBelow (l : Ledger) : Prop :=
  ∀ u, l.setup = some u → l.head < u.reqSize ∧ l.tail < u.reqSize ∧ l.cplTail < u.cplSize ∧ l.cplHead < u.cplSize

/-- Where no block is in force the indices are 0, and before one is accepted none is in force (R123, R140, R159, R162). -/
structure NoneBefore (l : Ledger) : Prop where
  zero : l.setup = none → l.head = 0 ∧ l.tail = 0 ∧ l.cplTail = 0 ∧ l.cplHead = 0
  unset : l.part.Before → l.setup = none

/-- From `a` to `b` each invariant is kept, given those it rests on. -/
structure Keeps (a b : Ledger) : Prop where
  books : a.Books → b.Books
  accounted : a.Books → a.NoneBefore → a.Accounted → a.InCredit → b.Accounted
  inCredit : a.Books → a.NoneBefore → a.Accounted → a.InCredit → b.InCredit
  indices : a.NoneBefore → a.IndicesBelow → b.IndicesBelow
  noneBefore : a.NoneBefore → b.NoneBefore

theorem Keeps.refl (l : Ledger) : l.Keeps l := ⟨id, fun _ _ h _ => h, fun _ _ _ h => h, fun _ h => h, id⟩

theorem Keeps.trans (h : a.Keeps b) (k : b.Keeps c) : a.Keeps c where
  books ha := k.books (h.books ha)
  accounted hb hn ha hc :=
    k.accounted (h.books hb) (h.noneBefore hn) (h.accounted hb hn ha hc) (h.inCredit hb hn ha hc)
  inCredit hb hn ha hc := k.inCredit (h.books hb) (h.noneBefore hn) (h.accounted hb hn ha hc) (h.inCredit hb hn ha hc)
  indices hn hi := k.indices (h.noneBefore hn) (h.indices hn hi)
  noneBefore hn := k.noneBefore (h.noneBefore hn)

theorem Keeps.ite {q : Prop} [Decidable q] (hb : q → a.Keeps b) (hc : ¬ q → a.Keeps c) : a.Keeps (if q then b else c) := by
  split
  · exact hb ‹_›
  · exact hc ‹_›

/-! ### The table (R130, R131) -/

/-- The entry with a place is one only. -/
theorem Accounted.eq_of_id (h : l.Accounted) {x y : OrtEntry} (hx : x ∈ l.ort) (hy : y ∈ l.ort) (hid : x.id = y.id) : x = y :=
  List.inj_on_of_nodup_map h.apart hx hy hid

/-- An entry that is not DONE has not been reported. -/
theorem Accounted.not_reported (h : l.Accounted) {e : OrtEntry} (he : e ∈ l.ort) (hd : e.st ≠ .done) : e.id ∉ l.reported := by
  intro hr
  obtain ⟨x, hx, hid, hst⟩ := h.done e.id hr
  exact hd (h.eq_of_id he hx hid.symm ▸ hst)

/-- A change of entries that keeps places, and what is DONE as DONE. -/
theorem Accounted.map (h : l.Accounted) {g : OrtEntry → OrtEntry} (hid : ∀ e, (g e).id = e.id)
    (hd : ∀ e ∈ l.ort, e.st = .done → (g e).st = .done) : { l with ort := l.ort.map g }.Accounted where
  apart := by simpa only [List.map_map, Function.comp_def, hid] using h.apart
  once := h.once
  done id hr := by
    obtain ⟨e, he, hi, hst⟩ := h.done id hr
    exact ⟨g e, List.mem_map_of_mem he, (hid e).trans hi, hd e he hst⟩

/-- An entry that becomes DONE is reported. -/
theorem Accounted.report (h : l.Accounted) {e : OrtEntry} (he : e ∈ l.ort) (hd : e.st ≠ .done) :
    { l with ort := l.ort.map (OrtEntry.moved e.id .done), done := l.done ++ [e.id] }.Accounted := by
  have hm := h.map (moved_id e.id .done) fun x _ hx => by rwa [moved_done hx]
  refine ⟨hm.apart, ?_, fun id hr => ?_⟩
  · have hperm : (l.done ++ [e.id] ++ l.flying.join.toList).Perm (e.id :: l.reported) := by
      simp [reported, List.perm_middle]
    exact hperm.nodup_iff.mpr (List.nodup_cons.mpr ⟨h.not_reported he hd, h.once⟩)
  · by_cases hid : id = e.id
    · subst hid
      exact ⟨_, List.mem_map_of_mem he, moved_id _ _ _, by rw [moved_open hd]⟩
    · refine hm.done id ?_
      simpa [reported, hid] using hr

/-- Entries that have not been reported may go. -/
theorem Accounted.erase (h : l.Accounted) {q : OrtEntry → Bool} (hq : ∀ e ∈ l.ort, q e = true → e.id ∉ l.reported)
    (n : Nat) : { l with ort := l.ort.eraseP q, reserved := n }.Accounted where
  apart := h.apart.sublist (List.eraseP_sublist.map _)
  once := h.once
  done id hr := by
    obtain ⟨e, he, hi, hst⟩ := h.done id hr
    refine ⟨e, (List.mem_eraseP_of_neg fun hqe => ?_).mpr he, hi, hst⟩
    exact hq e he hqe (hi ▸ hr)

/-- What no longer is to be reported. -/
theorem Accounted.of_subset (h : l.Accounted) {d : List Nat} {f : Option (Option Nat)} (q : Option RecordClaim)
    (hn : (d ++ f.join.toList).Nodup) (hd : d ++ f.join.toList ⊆ l.reported) :
    { l with done := d, flying := f, claim := q }.Accounted :=
  ⟨h.apart, hn, fun id hr => h.done id (hd hr)⟩

/-- A table of the same length that is still accounted for. -/
theorem keeps_table {o : List OrtEntry} {d : List Nat} (hl : o.length = l.ort.length)
    (h : l.Accounted → { l with ort := o, done := d }.Accounted) : l.Keeps { l with ort := o, done := d } where
  books hb := ⟨hb.reserved.trans hl.symm, hl.trans_le hb.size⟩
  accounted _ _ ha _ := h ha
  inCredit _ _ _ hc := ⟨hc.single, hc.unset, hc.fits⟩
  indices _ hi := hi
  noneBefore hn := ⟨hn.zero, hn.unset⟩

theorem keeps_map {g : OrtEntry → OrtEntry} (hid : ∀ e, (g e).id = e.id)
    (hd : l.Accounted → ∀ e ∈ l.ort, e.st = .done → (g e).st = .done) : l.Keeps { l with ort := l.ort.map g } :=
  keeps_table (d := l.done) (by simp) fun h => h.map hid (hd h)

/-- The first entry that meets `q` gives up its reservation (R130). -/
def free (q : OrtEntry → Bool) (l : Ledger) : Ledger :=
  if l.ort.any q then { l with ort := l.ort.eraseP q, reserved := l.reserved - 1 } else l

theorem Books.free (h : l.Books) (q : OrtEntry → Bool) : (l.free q).Books := by
  unfold Ledger.free
  split
  · rename_i hq
    have hlen := List.length_eraseP (p := q) (l := l.ort)
    rw [if_pos hq] at hlen
    refine ⟨?_, ?_⟩
    · simp only [hlen, h.reserved]
    · simp only [hlen]
      exact (Nat.sub_le _ _).trans h.size
  · exact h

/-- A fetch is dropped: its entry is in FETCHING, and has not been reported (R129). -/
theorem keeps_dropFetch : l.Keeps (l.free fun e => e.st = .fetching) where
  books h := h.free _
  accounted _ _ h _ := by
    unfold Ledger.free
    split
    · refine h.erase (fun e he hst => h.not_reported he fun hd => ?_) _
      simp [hd] at hst
    · exact h
  inCredit _ _ _ h := by
    unfold Ledger.free
    split
    · refine ⟨h.single, fun hs => ?_, fun u hu => (Nat.add_le_add_right (Nat.add_le_add_left (Nat.sub_le _ _) _) _).trans
        (h.fits u hu)⟩
      obtain ⟨hused, hres⟩ := h.unset hs
      exact ⟨hused, by simp [hres]⟩
    · exact h
  indices _ h := by
    unfold Ledger.free
    split <;> exact h
  noneBefore h := by
    unfold Ledger.free
    split
    · exact ⟨h.zero, h.unset⟩
    · exact h

/-- A fetch reserves a slot and takes a free place of the table (R126, R130). -/
theorem keeps_allocate {e : OrtEntry} (hs : l.setup = some u) (hl : l.ort.length < Config.ortSize)
    (hc : l.used + l.reserved + 2 ≤ u.cplSize) (hid : ∀ x ∈ l.ort, x.id ≠ e.id) :
    l.Keeps { l with ort := l.ort ++ [e], reserved := l.reserved + 1 } where
  books h := ⟨by simp [h.reserved], by simpa using hl⟩
  accounted _ _ h _ := by
    refine ⟨?_, h.once, fun id hr => ?_⟩
    · simpa [List.nodup_append] using ⟨h.apart, fun x hx => hid x hx⟩
    · obtain ⟨x, hx, hi⟩ := h.done id hr
      exact ⟨x, List.mem_append_left _ hx, hi⟩
  inCredit _ _ _ h := by
    refine ⟨h.single, fun hn => by simp [hs] at hn, fun v hv => ?_⟩
    obtain rfl := Option.some.inj (hs.symm.trans hv)
    have := h.single
    change l.used + (l.reserved + 1) + l.events ≤ _
    omega
  indices _ h := h
  noneBefore h := ⟨h.zero, h.unset⟩

/-! ### Records on their way (R142, R147) -/

theorem keeps_claim {q : Option RecordClaim} (hf : l.flying = none)
    (h : q = some .event → ∃ u, l.setup = some u ∧ l.used + l.reserved + 1 ≤ u.cplSize) : l.Keeps { l with claim := q } where
  books h := ⟨h.reserved, h.size⟩
  accounted _ _ h _ := ⟨h.apart, h.once, h.done⟩
  inCredit _ _ _ hc := by
    by_cases hq : q = some .event
    · obtain ⟨u, hu, hfit⟩ := h hq
      refine ⟨by simp [events, hq, hf], hc.unset, fun v hv => ?_⟩
      obtain rfl := Option.some.inj (hu.symm.trans hv)
      simpa [events, hq, hf] using hfit
    · refine ⟨by simp [events, hq, hf], hc.unset, fun v hv => ?_⟩
      have := hc.fits v hv
      simp only [events, hq, hf]
      simp
      omega
  indices _ h := h
  noneBefore h := ⟨h.zero, h.unset⟩

/-- The access in flight ends, or gives way, with nothing said of its record. -/
theorem keeps_landed : l.Keeps { l with flying := none } where
  books h := ⟨h.reserved, h.size⟩
  accounted _ _ h _ := h.of_subset l.claim (by simpa using h.once.sublist (List.sublist_append_left ..)) (by simp [reported])
  inCredit _ _ _ h := by
    have hle : { l with flying := none }.events ≤ l.events := by simp [events]
    exact ⟨hle.trans h.single, h.unset, fun u hu => (Nat.add_le_add_left hle _).trans (h.fits u hu)⟩
  indices _ h := h
  noneBefore h := ⟨h.zero, h.unset⟩

theorem keeps_unclaimed : l.Keeps { l with claim := none } where
  books h := ⟨h.reserved, h.size⟩
  accounted _ _ h _ := ⟨h.apart, h.once, h.done⟩
  inCredit _ _ _ h := by
    have hle : { l with claim := none }.events ≤ l.events := by simp [events]
    exact ⟨hle.trans h.single, h.unset, fun u hu => (Nat.add_le_add_left hle _).trans (h.fits u hu)⟩
  indices _ h := h
  noneBefore h := ⟨h.zero, h.unset⟩

/-- The record of the oldest completion goes out (R142). -/
theorem keeps_reportFlies {id : Nat} {rest : List Nat} (hd : l.done = id :: rest) :
    l.Keeps { l with claim := none, done := rest, flying := some (some id) } where
  books h := ⟨h.reserved, h.size⟩
  accounted _ _ h _ := by
    have hperm : (rest ++ [id]).Perm l.done := hd ▸ List.perm_append_singleton id rest
    refine h.of_subset none (hperm.nodup_iff.mpr (h.once.sublist (List.sublist_append_left ..))) fun x hx => ?_
    exact List.mem_append_left _ (hperm.subset hx)
  inCredit _ _ _ h := by
    have hle : { l with claim := none, done := rest, flying := some (some id) }.events ≤ l.events := by simp [events]
    exact ⟨hle.trans h.single, h.unset, fun u hu => (Nat.add_le_add_left hle _).trans (h.fits u hu)⟩
  indices _ h := h
  noneBefore h := ⟨h.zero, h.unset⟩

/-- The EVENT record that was claimed goes out (R142). -/
theorem keeps_eventFlies (hc : l.claim = some .event) : l.Keeps { l with claim := none, flying := some none } where
  books h := ⟨h.reserved, h.size⟩
  accounted _ _ h _ := h.of_subset none (by simpa using h.once.sublist (List.sublist_append_left ..)) (by simp [reported])
  inCredit _ _ _ h := by
    have hle : { l with claim := none, flying := some none }.events ≤ l.events := by simp [events, hc]
    exact ⟨hle.trans h.single, h.unset, fun u hu => (Nat.add_le_add_left hle _).trans (h.fits u hu)⟩
  indices _ h := h
  noneBefore h := ⟨h.zero, h.unset⟩

/-- The tail of the completion ring moves on and a slot is used (R142). -/
def advance (u : Setup) (l : Ledger) : Ledger :=
  { l with flying := none, cplTail := (l.cplTail + 1) % u.cplSize, used := l.used + 1 }

theorem cplSize_pos (u : Setup) : 0 < u.cplSize := Nat.two_pow_pos _

theorem reqSize_pos (u : Setup) : 0 < u.reqSize := Nat.two_pow_pos _

/-- Of the EVENT records none but the one written is counted no more (R142). -/
theorem advance_events (u : Setup) (l : Ledger) : (l.advance u).events + (if l.flying = some none then 1 else 0) = l.events :=
  rfl

theorem advance_indices (hs : l.setup = some u) (h : l.IndicesBelow) : (l.advance u).IndicesBelow := by
  intro v hv
  obtain rfl := Option.some.inj (hs.symm.trans hv)
  obtain ⟨hhead, htail, -, hcpl⟩ := h u hs
  exact ⟨hhead, htail, Nat.mod_lt _ (cplSize_pos u), hcpl⟩

/-- An EVENT record has been written (R142). -/
theorem keeps_eventWritten (hs : l.setup = some u) (hf : l.flying = some none) : l.Keeps (l.advance u) where
  books h := ⟨h.reserved, h.size⟩
  accounted hb hn h hc := ⟨h.apart, (keeps_landed.accounted hb hn h hc).once, (keeps_landed.accounted hb hn h hc).done⟩
  inCredit _ _ _ h := by
    have hle : (l.advance u).events + 1 = l.events := by rw [← advance_events u l, if_pos hf]
    refine ⟨by have := h.single; omega, fun hn => by simp [advance, hs] at hn, fun v hv => ?_⟩
    have := h.fits v hv
    change l.used + 1 + l.reserved + _ ≤ _
    omega
  indices _ h := advance_indices hs h
  noneBefore h := ⟨fun hn => by simp [advance, hs] at hn, h.unset⟩

/-- The record of an entry has been written: the entry is freed and gives up its reservation (R130, R142). -/
theorem keeps_reportWritten {id : Nat} (hs : l.setup = some u) (hf : l.flying = some (some id)) :
    l.Keeps ((l.advance u).free fun e => e.id = id) where
  books h := Books.free (l := l.advance u) ⟨h.reserved, h.size⟩ _
  accounted hb hn h hc := by
    have hland := keeps_landed.accounted hb hn h hc
    have hadv : (l.advance u).Accounted := ⟨hland.apart, hland.once, hland.done⟩
    unfold free
    split
    · refine hadv.erase (fun e _ he => ?_) _
      have honce := h.once
      simp only [reported, hf, Option.join_some, Option.toList_some, List.nodup_append, List.mem_singleton] at honce
      obtain rfl : e.id = id := by simpa using he
      simpa [reported, advance] using fun hm => honce.2.2 _ hm _ rfl rfl
    · exact hadv
  inCredit hb _ h hc := by
    obtain ⟨e, he, hid, -⟩ := h.done id (by simp [reported, hf])
    have hany : (l.advance u).ort.any (fun e => e.id = id) = true := List.any_eq_true.mpr ⟨e, he, by simpa using hid⟩
    have hres : 1 ≤ l.reserved := hb.reserved ▸ List.length_pos_of_mem he
    have hev : (l.advance u).events = l.events := by rw [← advance_events u l, if_neg (by simp [hf]), Nat.add_zero]
    unfold free
    rw [if_pos hany]
    refine ⟨hev.trans_le hc.single, fun hn => by simp [advance, hs] at hn, fun v hv => ?_⟩
    have := hc.fits v hv
    change l.used + 1 + (l.reserved - 1) + (l.advance u).events ≤ _
    omega
  indices _ h := by
    unfold free
    split <;> exact advance_indices hs h
  noneBefore h := by
    unfold free
    split <;> exact ⟨fun hn => by simp [advance, hs] at hn, h.unset⟩

/-! ### Indices and part states (R123, R140, R157) -/

/-- The request ring's indices move within the ring in force (R123). -/
theorem keeps_requests {h t : Nat} (hs : l.setup = some u) (hh : l.head < u.reqSize → h < u.reqSize)
    (ht : l.tail < u.reqSize → t < u.reqSize) : l.Keeps { l with head := h, tail := t } where
  books k := ⟨k.reserved, k.size⟩
  accounted _ _ k _ := ⟨k.apart, k.once, k.done⟩
  inCredit _ _ _ k := ⟨k.single, k.unset, k.fits⟩
  indices _ k v hv := by
    obtain rfl := Option.some.inj (hs.symm.trans hv)
    obtain ⟨hhead, htail, hcpl⟩ := k u hs
    exact ⟨hh hhead, ht htail, hcpl⟩
  noneBefore k := ⟨fun hn => by simp [hs] at hn, k.unset⟩

/-- Software returns slots of the completion ring (R146). -/
theorem keeps_returned {n d : Nat} (hs : l.setup = some u) (hn : n < u.cplSize) :
    l.Keeps { l with cplHead := n, used := l.used - d } where
  books h := ⟨h.reserved, h.size⟩
  accounted _ _ h _ := ⟨h.apart, h.once, h.done⟩
  inCredit _ _ _ h := by
    refine ⟨h.single, fun hn => by simp [hs] at hn, fun v hv => ?_⟩
    have := h.fits v hv
    change l.used - d + l.reserved + l.events ≤ _
    omega
  indices _ h v hv := by
    obtain rfl := Option.some.inj (hs.symm.trans hv)
    obtain ⟨hhead, htail, htl, -⟩ := h u hs
    exact ⟨hhead, htail, htl, hn⟩
  noneBefore h := ⟨fun hn => by simp [hs] at hn, h.unset⟩

theorem keeps_part {q : PartState} (hq : l.NoneBefore → q.Before → l.setup = none) : l.Keeps { l with part := q } where
  books h := ⟨h.reserved, h.size⟩
  accounted _ _ h _ := ⟨h.apart, h.once, h.done⟩
  inCredit _ _ _ h := ⟨h.single, h.unset, h.fits⟩
  indices _ h := h
  noneBefore h := ⟨h.zero, hq h⟩

/-- A setup block comes into force in STARTING, all indices but the held tail being 0 (R159). -/
theorem keeps_accepted {q : PartState} {n : Nat} (hp : l.part = .starting) (hq : ¬ q.Before) (hn : n < u.reqSize) :
    l.Keeps { l with setup := some u, tail := n, part := q } where
  books h := ⟨h.reserved, h.size⟩
  accounted _ _ h _ := ⟨h.apart, h.once, h.done⟩
  inCredit _ hb _ h := by
    obtain ⟨hused, hres⟩ := h.unset (hb.unset (.inr (.inl hp)))
    refine ⟨h.single, (by simp), fun v hv => ?_⟩
    change l.used + l.reserved + l.events ≤ _
    rw [hused, hres, Nat.zero_add]
    exact h.single.trans (cplSize_pos v)
  indices h _ v hv := by
    obtain rfl := Option.some.inj hv
    obtain ⟨hhead, -, htail, hcpl⟩ := h.zero (h.unset (.inr (.inl hp)))
    exact ⟨hhead ▸ reqSize_pos u, hn, htail ▸ cplSize_pos u, hcpl ▸ cplSize_pos u⟩
  noneBefore _ := ⟨by simp, fun h => absurd h hq⟩

/-- Every block at its reset value, in a part state without a setup block (R162, R163). -/
theorem keeps_reset (q : PartState) : l.Keeps { State.reset.ledger with part := q } where
  books _ := ⟨rfl, Nat.zero_le _⟩
  accounted _ _ _ _ := ⟨List.nodup_nil, List.nodup_nil, fun _ h => by cases h⟩
  inCredit _ _ _ _ := ⟨Nat.zero_le _, fun _ => ⟨rfl, rfl⟩, fun _ h => by cases h⟩
  indices _ _ _ h := by cases h
  noneBefore _ := ⟨fun _ => ⟨rfl, rfl, rfl, rfl⟩, fun _ => rfl⟩

end Ledger

end Sys2Proof.Machine
end

section
/-! PROOFS. What each operation of the part makes of the ledger of the rings: it keeps the invariants, as `Ledger.Keeps` says
(R123, R126, R129 to R131, R140, R142, R146, R147, R159, R162). -/

namespace Sys2Proof.Machine

/- Each proof waits for the kernel; checked one after another, they need no more threads than the rest of the package. -/
set_option Elab.async false

variable {p : PortId} {s t u : State} {v : Setup}

/-! ### The claims' invariants are the ledger's -/

theorem books_iff : s.Books ↔ s.ledger.Books := ⟨fun ⟨hr, hl⟩ => ⟨hr, hl⟩, fun ⟨hr, hl⟩ => ⟨hr, hl⟩⟩

theorem indicesBelow_iff : s.IndicesBelow ↔ s.ledger.IndicesBelow := Iff.rfl

theorem noneBefore_iff : s.NoneBefore ↔ s.ledger.NoneBefore := ⟨fun ⟨hz, hn⟩ => ⟨hz, hn⟩, fun ⟨hz, hn⟩ => ⟨hz, hn⟩⟩

theorem credit_iff : s.Credit ↔ s.ledger.Accounted ∧ s.ledger.InCredit := by
  have hsplit : s.Credit ↔ (s.ort.map (·.id)).Nodup ∧ s.ledger.reported.Nodup ∧
      (∀ id ∈ s.ledger.reported, ∃ e ∈ s.ort, e.id = id ∧ e.st = .done) ∧ s.ledger.events ≤ 1 ∧
      (s.setup = none → s.cpl.used = 0 ∧ s.cpl.reserved = 0) ∧
      ∀ u, s.setup = some u → s.cpl.used + s.cpl.reserved + s.ledger.events ≤ u.cplSize := by
    rcases hf : s.bus.flight with _ | ⟨a, live, wanted⟩
    · simp [State.Credit, Ledger.reported, Ledger.events, State.ledger, Nat.add_assoc, hf]
    · cases a with
      | recordWrite addr octets o =>
        cases o <;> simp [State.Credit, Ledger.reported, Ledger.events, State.ledger, Nat.add_assoc, hf, Access.record]
      | _ => simp [State.Credit, Ledger.reported, Ledger.events, State.ledger, Nat.add_assoc, hf, Access.record]
  rw [hsplit]
  exact ⟨fun ⟨ha, ho, hd, hs, hu, hf⟩ => ⟨⟨ha, ho, hd⟩, ⟨hs, hu, hf⟩⟩,
    fun ⟨⟨ha, ho, hd⟩, ⟨hs, hu, hf⟩⟩ => ⟨ha, ho, hd, hs, hu, hf⟩⟩

/-! ### The relation every operation keeps -/

/-- From `s` to `t` the ledger keeps its invariants. -/
def LedgerKept (s t : State) : Prop := s.ledger.Keeps t.ledger

theorem LedgerKept.refl (s : State) : LedgerKept s s := Ledger.Keeps.refl _

theorem LedgerKept.trans (h : LedgerKept s t) (k : LedgerKept t u) : LedgerKept s u := Ledger.Keeps.trans h k

theorem LedgerKept.of_keeps {l : Ledger} (h : s.ledger.Keeps l) (ht : t.ledger = l) : LedgerKept s t := by
  unfold LedgerKept
  rwa [ht]

/-- An operation that begins with what touches nothing of the ledger. -/
theorem LedgerKept.congr (h : LedgerKept t u) (ht : t.ledger = s.ledger) : LedgerKept s u := by
  unfold LedgerKept
  rw [← ht]
  exact h

/-- What touches nothing of the ledger. -/
theorem LedgerKept.of_eq (h : t.ledger = s.ledger) : LedgerKept s t := .of_keeps (.refl _) h

theorem LedgerKept.ite {c : Prop} [Decidable c] (ht : c → LedgerKept s t) (hu : ¬ c → LedgerKept s u) :
    LedgerKept s (if c then t else u) := by
  split
  · exact ht ‹_›
  · exact hu ‹_›

/-! ### The work of the ports and of the Schedule Unit -/

theorem setOrtState_ledgerKept (s : State) (id : Nat) (st : OrtState) : LedgerKept s (s.setOrtState id st) :=
  Ledger.keeps_map (g := OrtEntry.moved id st) (moved_id id st) fun _ e _ hd => by rwa [moved_done hd]

theorem counted_ledgerKept (s : State) (id : Nat) : LedgerKept s (s.counted id) :=
  Ledger.keeps_map (g := fun e => { e with awaited := e.awaited.filter (· ≠ id) }) (fun _ => rfl) fun _ _ _ hd => hd

/-- An entry is reported where it is not DONE, and is DONE then (R131, R148). -/
theorem complete_ledgerKept (s : State) (id : Nat) (st : Status) (r : Word) : LedgerKept s (s.complete id st r) := by
  unfold State.complete
  split
  · exact .refl s
  · rename_i e he
    split
    · exact .refl s
    · rename_i hd
      obtain rfl : e.id = id := by simpa using List.find?_some he
      have htable : ∀ h : s.ledger.Accounted, _ := fun h => h.report (List.mem_of_find?_eq_some he) hd
      exact .of_keeps (Ledger.keeps_table (List.length_map _) htable) (congrArg
        (fun d => { s.ledger with ort := s.ort.map (OrtEntry.moved e.id .done), done := d }) (List.map_append ..))

theorem post_ledger (s : State) (p : PortId) (k : EventKind) (d : Word) : (s.post p k d).ledger = s.ledger := by
  unfold State.post
  split <;> rfl

theorem Worked.ledgerKept (h : Worked s t) : LedgerKept s t := by
  induction h with
  | refl => exact .refl s
  | ports _ _ ih => exact ih
  | groups _ _ ih => exact ih
  | moved _ id st ih => exact ih.trans (setOrtState_ledgerKept _ id st)
  | completed _ id st r ih => exact ih.trans (complete_ledgerKept _ id st r)
  | counted _ id ih => exact ih.trans (counted_ledgerKept _ id)
  | posted _ p k d ih => exact ih.trans (.of_eq (post_ledger _ p k d))
  | flight _ f hf ih =>
    refine ih.trans (.of_eq ?_)
    simp only [State.ledger, State.modBus, Option.bind_map, Function.comp_def, hf]

/-! ### The take (R127) -/

theorem endFlight_ledgerKept (s : State) : LedgerKept s s.endFlight := Ledger.keeps_landed

theorem advanceHead_ledgerKept (s : State) : LedgerKept s s.advanceHead := by
  cases hs : s.setup with
  | none =>
    unfold State.advanceHead
    rw [hs]
    exact .refl s
  | some v =>
    rw [advanceHead_eq s v hs]
    exact Ledger.keeps_requests (t := s.tail) hs (fun _ => Nat.mod_lt _ (Ledger.reqSize_pos v)) id

/-- A change of entries that are not DONE, all others staying. -/
theorem setOrt_ledgerKept {id : Nat} {f : OrtEntry → OrtEntry} (hf : ∀ e, (f e).id = e.id)
    (hd : s.ledger.Accounted → ∀ e ∈ s.ort, e.id = id → e.st ≠ .done) : LedgerKept s (s.setOrt id f) := by
  refine Ledger.keeps_map (g := fun e => if e.id = id then f e else e) (fun e => ?_) fun ha e he hst => ?_
  · split
    · exact hf e
    · rfl
  · split
    · exact absurd hst (hd ha e he ‹_›)
    · exact hst

theorem dropFetch_ledgerKept (s : State) : LedgerKept s s.dropFetch := by
  have hledger : s.dropFetch.ledger = s.ledger.free fun e => e.st = .fetching := by
    unfold State.dropFetch State.freeEntry Ledger.free
    exact apply_ite State.ledger _ _ _
  exact .of_keeps Ledger.keeps_dropFetch hledger

/-- What an act may rest on where its request has just been taken: its entry is not DONE. -/
def TakenKept (act : Nat → State → State) : Prop :=
  ∀ id (u : State), (∀ e ∈ u.ort, e.id = id → e.st ≠ .done) → LedgerKept u (act id u)

theorem TakenKept.of_worked {act : Nat → State → State} (h : ∀ id u, Worked u (act id u)) : TakenKept act :=
  fun id u _ => (h id u).ledgerKept

theorem take_ledgerKept (s : State) (k : Byte) (r : ReqRecord) (c : Option Status) {act : Nat → State → State}
    (h : TakenKept act) : LedgerKept s (s.take k r c act) := by
  unfold State.take
  dsimp only
  refine .ite (fun _ => (endFlight_ledgerKept s).trans ?_) fun _ => .refl s
  refine .ite (fun _ => ?_) fun _ => dropFetch_ledgerKept _
  split
  · exact .refl _
  · rename_i e he
    have hfetching : e.st = .fetching := by simpa using List.find?_some he
    have hort : s.endFlight.advanceHead.ort = s.endFlight.ort := by
      unfold State.advanceHead
      split <;> rfl
    have hmem : e ∈ s.endFlight.advanceHead.ort := hort ▸ List.mem_of_find?_eq_some he
    refine (advanceHead_ledgerKept _).trans (LedgerKept.trans
      (t := s.endFlight.advanceHead.setOrt e.id fun x => { x with tag := r.tag, kind := k, target := r.target, st := .routed })
      (setOrt_ledgerKept (fun _ => rfl) fun ha x hx hid => ?_) ?_)
    · rw [ha.eq_of_id hx hmem hid, hfetching]
      decide
    · split
      · exact (handOver_worked .refl _ _ _).ledgerKept
      · refine h e.id _ fun x hx hid => ?_
        obtain ⟨y, -, rfl⟩ := List.mem_map.mp hx
        by_cases hy : y.id = e.id
        · simp [hy]
        · simp [hy] at hid

/-! ### Arrivals (R134, R135) -/

theorem atPort_worked (h : Worked s t) {act : State → State} (ha : Worked s (act t)) (q : PortId) (late : Bool) (a : Arrival) :
    Worked s (t.atPort q late a act) := ite_worked (modPort_worked h _) ha

theorem toPort_takenKept {k : Byte} {q : Routed} {act : Nat → State → State} (h : ∀ id u, Worked u (act id u)) :
    TakenKept (State.toPort k q act) := .of_worked fun id u => atPort_worked .refl (h id u) _ _ _

theorem toUnit_takenKept {k : Byte} {q : Routed} {act : Nat → State → State} (h : ∀ id u, Worked u (act id u)) :
    TakenKept (State.toUnit k q act) := fun id u _ =>
  .ite (fun _ => .of_eq rfl) fun _ => (h id u).ledgerKept

/-- The ABORT's own entry, which its take has just filled, waits from now on (R137). -/
theorem runAbort_takenKept (r : ReqRecord) (late : Bool) : TakenKept (State.runAbort r late) := by
  intro id u hu
  refine .ite (fun _ => (handOver_worked .refl _ _ _).ledgerKept) fun _ =>
    LedgerKept.trans (t := u.setOrt id fun e => { e with
        st := .waiting, matched := (u.abortMatches r).length, awaited := (u.abortMatches r).map (·.id) })
      (setOrt_ledgerKept (fun _ => rfl) fun _ => hu) (Worked.ledgerKept ?_)
  exact foldl_worked (fun _ _ hw => atPort_worked hw (abortArrives_worked hw _ _) _ _ _) _ .refl

theorem unitArrival_ledgerKept (s : State) : LedgerKept s s.unitArrival := by
  unfold State.unitArrival
  split
  · exact (arrives_worked .refl _).ledgerKept.congr rfl
  · exact .refl s

/-! ### Halts, registers and resets -/

theorem withdrawFetch_ledgerKept (s : State) : LedgerKept s s.withdrawFetch :=
  .ite (fun _ => (dropFetch_ledgerKept _).congr rfl) fun _ => .refl s

theorem halt_ledgerKept (s : State) (c : HaltCause) : LedgerKept s (s.halt c) := by
  have hpart : LedgerKept s { s with part := .halted, haltCause := some c } :=
    Ledger.keeps_part (q := .halted) fun _ h => by simp [PartState.Before] at h
  exact hpart.trans ((withdrawFetch_ledgerKept _).trans Ledger.keeps_unclaimed)

theorem writeReqTail_ledgerKept (s : State) (w : Word) : LedgerKept s (s.writeReqTail w) := by
  refine .ite (fun _ => .ite (fun _ => (halt_ledgerKept _ _).congr rfl) fun ht => ?_) fun _ => .of_eq rfl
  rcases Option.eq_none_or_eq_some s.setup with hs | ⟨v, hs⟩
  · simp [State.tailOut, hs] at ht
  · have hw : w.toNat < v.reqSize := by simpa [State.tailOut, hs] using ht
    exact Ledger.keeps_requests (l := s.ledger) hs id fun _ => hw

theorem writeCplHead_ledgerKept (s : State) (w : Word) : LedgerKept s (s.writeCplHead w) := by
  have hheld : LedgerKept s ({ s with cplHeadReg := w }.modCpl CompletionWriter.acknowledge) := .of_eq rfl
  unfold State.writeCplHead State.returnSlots
  refine .ite (fun _ => ?_) fun _ => hheld
  refine .ite (fun _ => hheld.trans (halt_ledgerKept _ _)) fun hsize => ?_
  refine .ite (fun _ => hheld.trans (halt_ledgerKept _ _)) fun _ => ?_
  rcases Option.eq_none_or_eq_some s.setup with hs | ⟨v, hs⟩
  · simp [hs] at hsize
  · have hw : w.toNat < v.cplSize := by simpa [hs] using hsize
    exact hheld.trans (Ledger.keeps_returned (l := s.ledger) hs hw)

theorem enterStarting_ledgerKept (h : s.part = .off) : LedgerKept s s.enterStarting := by
  have hpart : LedgerKept s { s with part := .starting } := Ledger.keeps_part (q := .starting) fun hn _ => hn.unset (.inl h)
  exact .ite (fun _ => hpart.trans (halt_ledgerKept _ _)) fun _ => hpart.trans (.of_eq rfl)

theorem writeEnable_ledgerKept (s : State) (b : Bool) : LedgerKept s (s.writeEnable b) := by
  have hheld : LedgerKept s { s with ctrlEnable := b } := .of_eq rfl
  unfold State.writeEnable
  refine .ite (fun _ => hheld) fun _ => .ite (fun _ => ?_) fun _ => ?_
  · split
    · exact hheld.trans (enterStarting_ledgerKept ‹_›)
    · exact hheld.trans (Ledger.keeps_part (q := .running) fun _ h => by simp [PartState.Before] at h)
    all_goals exact hheld
  · split
    · have hpaused : LedgerKept s { s with ctrlEnable := b, part := .paused } :=
        Ledger.keeps_part (l := s.ledger) (q := .paused) fun _ h => by simp [PartState.Before] at h
      exact hpaused.trans (withdrawFetch_ledgerKept _)
    all_goals exact hheld

theorem cleared_ledgerKept (s : State) (a : Word) : LedgerKept s (s.cleared a) := Ledger.keeps_reset .off

theorem softReset_ledgerKept (s : State) : LedgerKept s s.softReset :=
  .ite (fun _ => Ledger.keeps_reset .resetting) fun _ => cleared_ledgerKept s _

theorem writeCtrl_ledgerKept (s : State) (w : Word) : LedgerKept s (s.writeCtrl w) :=
  .ite (fun _ => softReset_ledgerKept s) fun _ => (writeEnable_ledgerKept s _).trans (.of_eq rfl)

theorem writeRegister_ledgerKept (s : State) (o : Nat) (w : AccessWidth) (x : Word) : LedgerKept s (s.writeRegister o w x) :=
  .ite (fun _ => .refl s) fun _ => .ite (fun _ => writeCtrl_ledgerKept s x) fun _ => .ite (fun _ => .of_eq rfl) fun _ =>
    .ite (fun _ => writeReqTail_ledgerKept s x) fun _ => .ite (fun _ => writeCplHead_ledgerKept s x) fun _ => .refl s

theorem softResetEnded_ledgerKept (h : s.part = .resetting) : LedgerKept s s.softResetEnded :=
  (endFlight_ledgerKept s).trans (Ledger.keeps_part (q := .off) fun hn _ => hn.unset (.inr (.inr h)))

theorem setupRead_ledgerKept (h : s.part = .starting) (d : Option ReadData) : LedgerKept s (s.setupRead d) := by
  unfold State.setupRead
  split
  · exact halt_ledgerKept _ _
  · split
    · exact halt_ledgerKept _ _
    · refine .ite (fun _ => halt_ledgerKept _ _) fun htail => .ite (fun _ => halt_ledgerKept _ _) fun _ => ?_
      have hpart : ¬ (if s.ctrlEnable then PartState.running else .paused).Before := by
        split <;> simp [PartState.Before]
      exact Ledger.keeps_accepted h hpart (Nat.not_le.mp htail)

/-! ### The fetch (R126) -/

/-- The conditions of a fetch under the setup block in force (R126). -/
theorem fetchDue_isSome (hs : s.setup = some v) : s.fetchDue.isSome = true ↔
    s.part = .running ∧ s.head ≠ s.tail ∧ s.ort.length < Config.ortSize ∧ s.cpl.used + s.cpl.reserved + 2 ≤ v.cplSize ∧
      s.bus.fetchClaim = false ∧ s.fetchFlying = false := by
  have heq : s.fetchDue = s.nowIf (!s.bus.fetchClaim && !s.fetchFlying && s.part = .running && s.head != s.tail &&
      s.ort.length < Config.ortSize && s.cpl.used + s.cpl.reserved + 2 ≤ v.cplSize) := by
    unfold State.fetchDue
    rw [hs]
    rfl
  rw [heq, State.nowIf]
  split
  · rename_i hc
    simp only [Bool.and_eq_true, Bool.not_eq_true', decide_eq_true_eq, bne_iff_ne] at hc
    obtain ⟨⟨⟨⟨⟨hclaim, hfly⟩, hpart⟩, hne⟩, hlen⟩, hcredit⟩ := hc
    exact iff_of_true rfl ⟨hpart, hne, hlen, hcredit, hclaim, hfly⟩
  · rename_i hc
    refine iff_of_false (by simp) fun ⟨hpart, hne, hlen, hcredit, hclaim, hfly⟩ => hc ?_
    simp [hpart, hne, hlen, hcredit, hclaim, hfly]

theorem fetchDue_unset (hs : s.setup = none) : s.fetchDue = none := by
  unfold State.fetchDue
  rw [hs]

/-- A table that is not full has a free place (R130). -/
theorem freeId_free (h : s.ort.length < Config.ortSize) : s.freeId < Config.ortSize ∧ ∀ e ∈ s.ort, e.id ≠ s.freeId := by
  have hex : ∃ i ∈ List.range Config.ortSize, (s.ort.all fun e => e.id ≠ i) = true := by
    by_contra hno
    have hsub : List.range Config.ortSize ⊆ s.ort.map (·.id) := fun i hi => by
      by_contra hm
      refine hno ⟨i, hi, List.all_eq_true.mpr fun e he => ?_⟩
      simpa using fun hid => hm (List.mem_map.mpr ⟨e, he, hid⟩)
    have hlen := (List.nodup_range.subperm hsub).length_le
    rw [List.length_range, List.length_map] at hlen
    exact absurd h (Nat.not_lt.mpr hlen)
  obtain ⟨i, hi⟩ := Option.isSome_iff_exists.mp (List.find?_isSome.mpr hex)
  have hfree : s.freeId = i := by
    unfold State.freeId
    rw [hi]
    rfl
  rw [hfree]
  exact ⟨List.mem_range.mp (List.mem_of_find?_eq_some hi), fun e he => by
    simpa using List.all_eq_true.mp (List.find?_some (p := fun i => s.ort.all fun e => decide (e.id ≠ i)) hi) e he⟩

theorem fetch_ledgerKept (h : s.fetchDue.isSome = true) :
    LedgerKept s (s.allocate.modBus fun b => { b with fetchClaim := true }) := by
  cases hs : s.setup with
  | none => simp [fetchDue_unset hs] at h
  | some v =>
    obtain ⟨-, -, hlen, hcredit, -⟩ := (fetchDue_isSome hs).mp h
    exact Ledger.keeps_allocate (l := s.ledger) (u := v) hs hlen hcredit (freeId_free hlen).2

/-! ### Records (R142, R151) -/

/-- An EVENT record is next only where a slot is free for it (R147, R151). -/
theorem nextRecord_event (h : s.nextRecord = some .event) :
    ∃ v, s.setup = some v ∧ s.cpl.used + s.cpl.reserved + 1 ≤ v.cplSize := by
  unfold State.nextRecord at h
  cases hs : s.setup with
  | none =>
    rw [hs] at h
    cases hd : s.cpl.done <;> cases he : s.cpl.events <;> simp [hd, he] at h
  | some v =>
    refine ⟨v, rfl, ?_⟩
    by_contra hc
    rw [hs] at h
    cases hd : s.cpl.done <;> cases he : s.cpl.events <;> simp [hd, he, hc] at h

/-- No record is claimed while one is in flight (R142). -/
theorem recordDue_isSome (h : s.recordDue.isSome = true) : s.ledger.flying = none := by
  unfold State.ledger
  rcases hf : s.bus.flight with _ | ⟨a, live, wanted⟩
  · rfl
  · cases a with
    | recordWrite addr octets o => simp [State.recordDue, State.nowIf, hf] at h
    | _ => rfl

theorem claimRecord_ledgerKept (h : s.recordDue.isSome = true) :
    LedgerKept s (s.modBus fun b => { b with recordClaim := s.nextRecord }) :=
  Ledger.keeps_claim (recordDue_isSome h) nextRecord_event

theorem recordWritten_ledgerKept {f : BusFlight} {o : Option Nat} (hs : s.setup = some v) (hf : s.bus.flight = some f)
    (ha : f.access.record = some o) : LedgerKept s (s.endFlight.recordWritten v o) := by
  have hfly : s.ledger.flying = some o := by simp [State.ledger, hf, ha]
  cases o with
  | none => exact Ledger.keeps_eventWritten hs hfly
  | some id =>
    have hledger : (s.endFlight.recordWritten v (some id)).ledger = (s.ledger.advance v).free fun e => e.id = id := by
      unfold State.recordWritten State.freeEntry Ledger.free
      exact apply_ite (fun u : State => (u.modCpl (CompletionWriter.moderate v.threshold v.holdoff u.time)).ledger) _ _ _
    exact .of_keeps (Ledger.keeps_reportWritten hs hfly) hledger

/-! ### The grant (R164) -/

/-- A record is granted where one was claimed (R164). -/
theorem nextGrant_record {c : RecordClaim} (h : s.nextGrant = some (.record c)) : s.bus.recordClaim = some c := by
  unfold State.nextGrant at h
  split at h
  · cases h
  · split at h
    · cases h
    · split at h
      · cases h
        assumption
      · cases h
      · split at h <;> cases h

theorem imageAccess_record (p : PortId) (x : Port) (a : ImageAccess) : (imageAccess p x a).record = none := by
  cases a with
  | sample stage => cases stage <;> rfl
  | write header addr l => rfl

theorem claimAccess_record {x : Port} {c : XClaim} {a : Access} (h : claimAccess p x c = some a) : a.record = none := by
  cases c with
  | fetch addr len => cases h; rfl
  | store addr l => cases h; rfl
  | report id =>
    obtain ⟨q, -, rfl⟩ := Option.map_eq_some_iff.mp h
    rfl

/-- An access that writes no record goes out. -/
theorem start_ledgerKept (h : LedgerKept s t) {f : Bus → Bus} {a : Access} (ha : a.record = none)
    (hf : (f t.bus).flight = some { access := a, live := true, wanted := true })
    (hc : (f t.bus).recordClaim = t.bus.recordClaim) : LedgerKept s (t.modBus f) := by
  have hledger : (t.modBus f).ledger = { t.ledger with flying := none } := by
    simp [State.ledger, State.modBus, hf, hc, ha]
  exact h.trans (.of_keeps Ledger.keeps_landed hledger)

theorem grantRecord_ledgerKept {c : RecordClaim} (h : s.bus.recordClaim = some c) : LedgerKept s (s.grantRecord c) := by
  unfold State.grantRecord
  dsimp only
  split
  · rename_i d rest hd
    have hd' : s.cpl.done = d :: rest := hd
    exact Ledger.keeps_reportFlies (l := s.ledger) (rest := rest.map (·.ort)) (id := d.ort) (by simp [State.ledger, hd'])
  · exact Ledger.keeps_eventFlies (l := s.ledger) h
  · exact Ledger.keeps_unclaimed

theorem grant_ledgerKept (s : State) : LedgerKept s s.grant := by
  unfold State.grant
  split
  · unfold State.grantImage
    split
    · exact .refl s
    · exact start_ledgerKept (modCyc_worked .refl _).ledgerKept (imageAccess_record _ _ _) rfl rfl
  · unfold State.grantTransfer
    split
    · exact .refl s
    · split
      · exact start_ledgerKept (modPort_worked .refl _).ledgerKept (claimAccess_record ‹_›) rfl rfl
      · exact .of_eq rfl
  · exact grantRecord_ledgerKept (nextGrant_record ‹_›)
  · exact start_ledgerKept (.refl s) (a := .setupRead _) rfl rfl rfl
  · exact start_ledgerKept (.refl s) (a := .requestFetch _) rfl rfl rfl
  · exact .refl s

end Sys2Proof.Machine
end

section
/-! PROOFS. Every step keeps the ledger of the rings: the books of the table and of the completion credit (R130, R131, R147) and
the ring indices (R123, R124, R140, R146). A command is work of the ports, or one of the operations on the ledger. -/

namespace Sys2Proof.Machine

/- Each proof waits for the kernel; checked one after another, they need no more threads than the rest of the package. -/
set_option Elab.async false

variable {p : PortId} {s t : State}

/-! ### What a command answers -/

/-- What a command answers from `s` has kept the ledger. -/
def AnswersLedgerKept (s : State) (r : Result) : Prop := ∀ t, r = .next t → LedgerKept s t

theorem AnswersLedgerKept.next (h : LedgerKept s t) : AnswersLedgerKept s (.next t) := by
  rintro _ ⟨⟩
  exact h

/-- A command without an effect. -/
theorem AnswersLedgerKept.same (s : State) : AnswersLedgerKept s (.next s) := .next (.refl s)

theorem onlyIf_ledgerKept {c : Bool} {act : State → State} (h : c = true → LedgerKept s (act s)) :
    AnswersLedgerKept s (onlyIf c act s) := .next (.ite h fun _ => .refl s)

theorem exactlyAt_ledgerKept {n : Nat} {act : State → State} (h : ∀ v, LedgerKept v (act v)) :
    AnswersLedgerKept s (exactlyAt n act s) := by
  unfold exactlyAt
  split
  · rename_i v hv
    rw [(reach_eq hv).1]
    exact .next ((h _).congr rfl)
  · exact .same s

theorem atInstant_ledgerKept {due : Option Nat} {act : State → State} (h : ∀ v, LedgerKept v (act v)) :
    AnswersLedgerKept s (atInstant due act s) := by
  unfold atInstant
  split
  · exact exactlyAt_ledgerKept h
  · exact .same s

/-- A step of the ports at its instant. -/
theorem atInstant_worked {due : Option Nat} {act : State → State} (h : ∀ v, Worked v (act v)) :
    AnswersLedgerKept s (atInstant due act s) := atInstant_ledgerKept fun v => (h v).ledgerKept

theorem replyAt_worked {n : Nat} {act : State → State} (h : ∀ v, Worked v (act v)) :
    AnswersLedgerKept s (s.replyAt p n act) := by
  unfold State.replyAt
  split
  · rename_i v hv
    rw [(reach_eq hv).1]
    exact .next ((h _).ledgerKept.congr rfl)
  · exact .same s

theorem expire_ledgerKept (s : State) (p : PortId) (c : Cause) (due : Option Nat) (n : Nat) :
    AnswersLedgerKept s (s.expire p c due n) := by
  unfold State.expire
  split
  · split
    · exact exactlyAt_ledgerKept fun v => (endExchange_worked .refl _ _ _).ledgerKept
    · exact .same s
  · exact .same s

theorem replyEffect_worked {f : Frame} {rx : Rx} {chars : List RxChar} {next : Option Nat} {n : Nat} {act : State → State}
    (h : s.replyEffect p f rx chars next = some (n, act)) (v : State) : Worked v (act v) := by
  unfold State.replyEffect at h
  dsimp only at h
  split at h
  · cases h
  · split at h
    · split at h
      · cases h
      · cases h
        exact received_worked .refl _ _ _ _ _
    · cases h
      exact replyEnds_worked .refl _ _ _ _ _
    · cases h

/-! ### Commands that look at the state -/

theorem execCollision_ledgerKept (s : State) (p : PortId) (bit : Nat) : AnswersLedgerKept s (execCollision p bit s) := by
  unfold execCollision
  split
  · split
    · exact exactlyAt_ledgerKept fun v => (collide_worked .refl _ bit).ledgerKept
    · exact .same s
  · exact .same s

theorem execReplyStartEdge_ledgerKept (s : State) (p : PortId) (n : Nat) : AnswersLedgerKept s (execReplyStartEdge p n s) := by
  unfold execReplyStartEdge
  dsimp only
  split
  · split
    · exact replyAt_worked fun v => beginReply_worked .refl _ _
    · exact .same s
  · exact .same s

theorem execStationReply_ledgerKept (s : State) (p : PortId) (chars : List RxChar) (next : Option Nat) :
    AnswersLedgerKept s (execStationReply p chars next s) := by
  unfold execStationReply
  split
  · split
    · exact replyAt_worked (replyEffect_worked ‹_›)
    · exact .same s
  · exact .same s

/-- The end of an access, and what it brings at its port. -/
theorem endFlight_worked (h : Worked s.endFlight t) : LedgerKept s t := (endFlight_ledgerKept s).trans h.ledgerKept

theorem execSamplingReadEnd_ledgerKept (s : State) (d : Option ReadData) : AnswersLedgerKept s (execSamplingReadEnd d s) := by
  unfold execSamplingReadEnd
  split
  · dsimp only
    split
    · split
      · exact .next (endFlight_worked (imageFault_worked .refl _))
      · exact .next (endFlight_worked (ite_worked (modCyc_worked .refl _) .refl))
    · exact .next (endFlight_ledgerKept s)
  · exact .same s

theorem execInputImageWriteEnd_ledgerKept (s : State) (ok : Bool) : AnswersLedgerKept s (execInputImageWriteEnd ok s) := by
  unfold execInputImageWriteEnd
  split
  · dsimp only
    split
    · exact .next (endFlight_worked (ite_worked (imageFault_worked .refl _) (ite_worked (modCyc_worked .refl _) .refl)))
    · exact .next (endFlight_ledgerKept s)
  · exact .same s

theorem execTransferFetchEnd_ledgerKept (s : State) (d : Option ReadData) : AnswersLedgerKept s (execTransferFetchEnd d s) := by
  unfold execTransferFetchEnd
  split
  · exact .next (endFlight_worked (ite_worked (fetchEnded_worked .refl _) (formerEnded_worked .refl)))
  · exact .same s

theorem execTransferStoreEnd_ledgerKept (s : State) (ok : Bool) : AnswersLedgerKept s (execTransferStoreEnd ok s) := by
  unfold execTransferStoreEnd
  split
  · exact .next (endFlight_worked (ite_worked (storeEnded_worked .refl _) (formerEnded_worked .refl)))
  · exact .same s

theorem execPortReportWriteEnd_ledgerKept (s : State) (ok : Bool) : AnswersLedgerKept s (execPortReportWriteEnd ok s) := by
  unfold execPortReportWriteEnd
  split
  · exact .next (endFlight_worked (reportEnded_worked .refl _ _))
  · exact .same s

theorem execReqBusError_ledgerKept (s : State) : AnswersLedgerKept s (execReqBusError s) :=
  onlyIf_ledgerKept fun _ => (endFlight_ledgerKept s).trans
    (.ite (fun _ => halt_ledgerKept _ _) fun _ => dropFetch_ledgerKept _)

theorem execRecordWriteEnd_ledgerKept (s : State) (ok : Bool) : AnswersLedgerKept s (execRecordWriteEnd ok s) := by
  unfold execRecordWriteEnd
  split
  · rename_i hf hs
    exact .next (.ite (fun _ => recordWritten_ledgerKept hs hf rfl) fun _ =>
      .ite (fun _ => (endFlight_ledgerKept s).trans (halt_ledgerKept _ _)) fun _ => endFlight_ledgerKept s)
  · exact .same s

theorem execSetupReadEnd_ledgerKept (s : State) (d : Option ReadData) : AnswersLedgerKept s (execSetupReadEnd d s) := by
  unfold execSetupReadEnd
  split
  · exact .next (.ite (fun hp => (endFlight_ledgerKept s).trans (setupRead_ledgerKept (s := s.endFlight) hp d)) fun _ =>
      endFlight_ledgerKept s)
  · exact .same s

theorem execSyncIn_ledgerKept (s : State) (high : Bool) : AnswersLedgerKept s (execSyncIn high s) :=
  onlyIf_ledgerKept fun _ => LedgerKept.congr (t := { s with syncInLevel := high })
    (ite_worked (foldl_worked (fun g _ hu => fire_worked hu g) _ .refl) .refl).ledgerKept rfl

theorem takeBeat_ledger (s : State) (g : GroupId) : (s.takeBeat g).ledger = s.ledger := by
  unfold State.takeBeat
  split
  · rfl
  · dsimp only
    split <;> split <;> rfl

/-! ### Every command -/

theorem exec_ledgerKept (s : State) (i : Instr) : AnswersLedgerKept s (exec i s) := by
  cases i with
  | nop r => exact .next (take_ledgerKept s _ _ _ (.of_worked fun _ _ => handOver_worked .refl _ _ _))
  | portConfig q => exact .next (take_ledgerKept s _ _ _ (toPort_takenKept fun id _ => configurePort_worked .refl _ id))
  | portEnable q => exact .next (take_ledgerKept s _ _ _ (toPort_takenKept fun id _ => enablePort_worked .refl _ id))
  | portDisable q => exact .next (take_ledgerKept s _ _ _ (toPort_takenKept fun id _ => disablePort_worked .refl _ id))
  | bringUp q => exact .next (take_ledgerKept s _ _ _ (toPort_takenKept fun id _ => bringUpPort_worked .refl _ id))
  | cycleStart q => exact .next (take_ledgerKept s _ _ _ (toPort_takenKept fun id _ => startCycling_worked .refl _ id))
  | cycleStop q => exact .next (take_ledgerKept s _ _ _ (toPort_takenKept fun id _ => stopCycling_worked .refl _ id))
  | groupConfig q => exact .next (take_ledgerKept s _ _ _ (toUnit_takenKept fun id _ => configureGroup_worked .refl _ id))
  | syncFire q => exact .next (take_ledgerKept s _ _ _ (toUnit_takenKept fun id _ => syncFireGroups_worked .refl _ id))
  | paramRead q => exact .next (take_ledgerKept s _ _ _ (toPort_takenKept fun id _ => queueTransfer_worked .refl false _ id))
  | paramWrite q => exact .next (take_ledgerKept s _ _ _ (toPort_takenKept fun id _ => queueTransfer_worked .refl true _ id))
  | abort q => exact .next (take_ledgerKept s _ _ _ (runAbort_takenKept _ _))
  | portQuery q => exact .next (take_ledgerKept s _ _ _ (toPort_takenKept fun id _ => queryPort_worked .refl _ id))
  | unknownRequestKind kind r =>
    exact onlyIf_ledgerKept fun _ => take_ledgerKept s _ _ _ (.of_worked fun _ _ => .refl)
  | reqBusError => exact execReqBusError_ledgerKept s
  | fetch =>
    exact onlyIf_ledgerKept (act := fun u => u.allocate.modBus fun b => { b with fetchClaim := true }) fetch_ledgerKept
  | bmuGrant => exact onlyIf_ledgerKept fun _ => grant_ledgerKept s
  | completionWriteClaim => exact onlyIf_ledgerKept claimRecord_ledgerKept
  | recordWriteEnd ok => exact execRecordWriteEnd_ledgerKept s ok
  | holdoffExpiry => exact atInstant_ledgerKept fun v => .of_eq rfl
  | reqTail v => exact onlyIf_ledgerKept fun _ => writeReqTail_ledgerKept s v
  | cplHead v => exact onlyIf_ledgerKept fun _ => writeCplHead_ledgerKept s v
  | enable v => exact onlyIf_ledgerKept fun _ => writeCtrl_ledgerKept s v
  | softReset v => exact onlyIf_ledgerKept fun _ => writeCtrl_ledgerKept s v
  | softResetEnd => exact onlyIf_ledgerKept fun h => softResetEnded_ledgerKept (of_decide_eq_true h)
  | intEnable v => exact onlyIf_ledgerKept fun _ => writeCtrl_ledgerKept s v
  | registerWrite o w v => exact onlyIf_ledgerKept fun _ => writeRegister_ledgerKept s _ w v
  | powerOnReset => exact .next (Ledger.keeps_reset .off)
  | resetNDeasserted => exact .next (.of_eq rfl)
  | setupReadEnd d => exact execSetupReadEnd_ledgerKept s d
  | syncIn high => exact execSyncIn_ledgerKept s high
  | beat g => exact atInstant_ledgerKept fun v => .of_eq (takeBeat_ledger v g)
  | syncOutPulseEnd => exact atInstant_ledgerKept fun v => .of_eq rfl
  | samplingInstant p => exact atInstant_worked fun v => sampleNow_worked .refl
  | samplingReadEnd d => exact execSamplingReadEnd_ledgerKept s d
  | startInstant p => exact atInstant_worked fun v => startNow_worked .refl
  | inputImageWriteEnd ok => exact execInputImageWriteEnd_ledgerKept s ok
  | idleCheck p => exact atInstant_worked fun v => startOnLine_worked .refl
  | collision p bit => exact execCollision_ledgerKept s p bit
  | masterFrameEnd p => exact atInstant_worked fun v => frameSent_worked .refl
  | noReply p n => exact expire_ledgerKept s p _ _ n
  | gap p n => exact expire_ledgerKept s p _ _ n
  | stationReply p chars next => exact execStationReply_ledgerKept s p chars next
  | guardEnd p => exact atInstant_worked fun v => guardOver_worked .refl
  | wakeDominantEnd p => exact atInstant_worked fun v => pulseSent_worked .refl
  | quietTimeEnd p => exact atInstant_worked fun v => pulseOver_worked .refl
  | lineStuck p => exact atInstant_worked fun v => enterFault_worked .refl _
  | fltNAsserted p => exact .next (modPort_worked .refl _).ledgerKept
  | fltNDeasserted p => exact .next (modPort_worked .refl _).ledgerKept
  | overcurrent p => exact atInstant_worked fun v => enterFault_worked .refl _
  | attempt p => exact atInstant_worked fun v => beginAttempt_worked .refl
  | backoffExpiry p => exact atInstant_worked fun v => modSeq_worked .refl _
  | activation p => exact atInstant_worked fun v => activateHead_worked .refl
  | segmentHandOver p => exact atInstant_worked fun v => handSegment_worked .refl
  | svcAbandon p => exact atInstant_worked fun v => handAbandon_worked .refl
  | transferFetchEnd d => exact execTransferFetchEnd_ledgerKept s d
  | transferStoreEnd ok => exact execTransferStoreEnd_ledgerKept s ok
  | portReportWriteEnd ok => exact execPortReportWriteEnd_ledgerKept s ok
  | replyStartEdge p n => exact execReplyStartEdge_ledgerKept s p n
  | rxdLevelChange p b => exact onlyIf_ledgerKept fun _ => (lineLevel_worked .refl b).ledgerKept

/-! ### Every step -/

theorem tick_ledger (s : State) : s.tick.ledger = s.ledger := by
  unfold State.tick
  split
  · rfl
  · cases h : s.reach (s.time + 1) with
    | none => rfl
    | some v =>
      rw [Option.getD_some, (reach_eq h).1]
      rfl

/-- A step is a command, an arrival or a tick. -/
theorem step_ledgerKept (h : step s = .next t) : LedgerKept s t := by
  unfold step idleStep at h
  split at h
  · exact (exec_ledgerKept _ _ t h).congr rfl
  · split at h
    · exact (exec_ledgerKept _ _ t h).congr rfl
    · cases h
      exact (portArrival_worked .refl _).ledgerKept.congr rfl
    · cases h
      exact (unitArrival_ledgerKept _).congr rfl
    · cases h
      exact .of_eq (tick_ledger s)

/-- Settles O5: every step keeps the ledger, and the ledger's books and credit are the claim's. -/
theorem everyStepKeepsTheBooks : Obligations.EveryStepKeepsTheBooks := by
  intro s t hb h
  have hk := step_ledgerKept h
  have hbooks := books_iff.mp hb
  refine ⟨books_iff.mpr (hk.books hbooks), fun hc hn => credit_iff.mpr ?_⟩
  obtain ⟨haccounted, hcredit⟩ := credit_iff.mp hc
  have hnone := noneBefore_iff.mp hn
  exact ⟨hk.accounted hbooks hnone haccounted hcredit, hk.inCredit hbooks hnone haccounted hcredit⟩

/-- Settles O7: every step keeps the ledger, its indices among it. -/
theorem everyStepKeepsIndicesBelow : Obligations.EveryStepKeepsIndicesBelow := by
  intro s t ⟨hi, hn⟩ h
  have hk := step_ledgerKept h
  have hnone := noneBefore_iff.mp hn
  exact ⟨indicesBelow_iff.mpr (hk.indices hnone (indicesBelow_iff.mp hi)), noneBefore_iff.mpr (hk.noneBefore hnone)⟩

end Sys2Proof.Machine
end

section
/-! PROOFS. Request records and the rows that take them (R127, R132, section 10.2): the octets of a record, the row of a kind, and
what each row makes of a record fetched, by the validation of its kind. -/

namespace Sys2Proof.Machine

/- Each proof waits for the kernel; checked one after another, they need no more threads than the rest of the package. -/
set_option Elab.async false

variable {s : State} {u : Setup} {e : OrtEntry} {k : Byte} {r : ReqRecord} {i : Instr} {late : Bool}

/-! ### The octets of a record (section 10.2) -/

/-- The bits of a record: its kind, its target, its tag, its fields. -/
theorem getLsbD_packRecord (k : Byte) (r : ReqRecord) (n : Nat) : (packRecord k r).getLsbD n =
    if n < 8 then k.getLsbD n else if n < 16 then r.target.getLsbD (n - 8)
    else if n < 32 then r.tag.getLsbD (n - 16) else r.fields.getLsbD (n - 32) := by
  have happ : (packRecord k r).getLsbD n =
      BitVec.getLsbD (((r.fields ++ r.tag) ++ r.target) ++ k : BitVec (224 + 16 + 8 + 8)) n := rfl
  rw [happ]
  simp only [BitVec.getLsbD_append]
  grind

theorem octetAt_packRecord (k : Byte) (r : ReqRecord) : octetAt (packRecord k r) 0 = k := by
  refine BitVec.eq_of_getLsbD_eq fun n hn => ?_
  simp [octetAt, getLsbD_packRecord, hn]

theorem recordBody_packRecord (k : Byte) (r : ReqRecord) : recordBody (packRecord k r) = r := by
  obtain ⟨target, tag, fields⟩ := r
  simp only [recordBody, octetAt, ReqRecord.mk.injEq]
  refine ⟨BitVec.eq_of_getLsbD_eq fun n hn => ?_, BitVec.eq_of_getLsbD_eq fun n hn => ?_,
    BitVec.eq_of_getLsbD_eq fun n hn => ?_⟩
  all_goals
    simp only [BitVec.getLsbD_extractLsb', getLsbD_packRecord, hn, decide_true, Bool.true_and]
    grind

theorem packRecord_recordBody (d : BitVec 256) : packRecord (octetAt d 0) (recordBody d) = d := by
  refine BitVec.eq_of_getLsbD_eq fun n hn => ?_
  simp only [getLsbD_packRecord, recordBody, octetAt, BitVec.getLsbD_extractLsb']
  grind

/-! ### The row of a kind (R132) -/

/-- A kind octet is that of its number. -/
theorem kind_eq {a b : Byte} (h : a.toNat = b.toNat) : a = b := BitVec.eq_of_toNat_eq h

theorem recordOf_rowOfKind (k : Byte) (late : Bool) (r : ReqRecord) : recordOf (rowOfKind k late r) = some (k, r) := by
  unfold rowOfKind
  split
  case h_14 => rfl
  all_goals exact congrArg (fun x => some (x, r)) (kind_eq (by rw [‹k.toNat = _›]; rfl))

theorem wellFormed_rowOfKind (k : Byte) (late : Bool) (r : ReqRecord) : (rowOfKind k late r).wellFormed = true := by
  unfold rowOfKind
  split
  case h_14 =>
    have hk : kindNamed k = false := by
      simp only [kindNamed, Bool.and_eq_false_iff, decide_eq_false_iff_not]
      grind
    simp [Instr.wellFormed, hk]
  all_goals rfl

/-- A well-formed row that takes a record is the row of its kind (R132). -/
theorem rowOfKind_of_recordOf (h : recordOf i = some (k, r)) (hw : i.wellFormed = true) : ∃ late, rowOfKind k late r = i := by
  cases i with
  | nop _ => cases h; exact Laws.RowOfKind.nop _ hw
  | portConfig _ => cases h; exact Laws.RowOfKind.portConfig _ hw
  | portEnable _ => cases h; exact Laws.RowOfKind.portEnable _ hw
  | portDisable _ => cases h; exact Laws.RowOfKind.portDisable _ hw
  | bringUp _ => cases h; exact Laws.RowOfKind.bringUp _ hw
  | cycleStart _ => cases h; exact Laws.RowOfKind.cycleStart _ hw
  | cycleStop _ => cases h; exact Laws.RowOfKind.cycleStop _ hw
  | groupConfig _ => cases h; exact Laws.RowOfKind.groupConfig _ hw
  | syncFire _ => cases h; exact Laws.RowOfKind.syncFire _ hw
  | paramRead _ => cases h; exact Laws.RowOfKind.paramRead _ hw
  | paramWrite _ => cases h; exact Laws.RowOfKind.paramWrite _ hw
  | abort _ => cases h; exact Laws.RowOfKind.abort _ hw
  | portQuery _ => cases h; exact Laws.RowOfKind.portQuery _ hw
  | unknownRequestKind _ _ => cases h; exact Laws.RowOfKind.unknownRequestKind _ _ hw
  | _ => cases h

/-- Settles O4, by the record a row encodes to and the row a kind names. -/
theorem recordsDecodeToTheirRows : Obligations.RecordsDecodeToTheirRows := by
  refine ⟨fun i d hw hd => ?_, fun late d => ⟨wellFormed_rowOfKind _ late _, ?_⟩⟩
  · obtain ⟨⟨k, r⟩, hrec, rfl⟩ := Option.map_eq_some_iff.mp hd
    obtain ⟨late, hi⟩ := rowOfKind_of_recordOf hrec hw
    refine ⟨late, ?_⟩
    rw [decodeRecord, octetAt_packRecord, recordBody_packRecord, hi]
  · rw [encodeRecord, decodeRecord, recordOf_rowOfKind, Option.map_some, packRecord_recordBody]

end Sys2Proof.Machine
end

section
/-! PROOFS. Takes of the Dispatcher: what each row makes of the record a fetch brought in (R127, R132, R134 to R136). -/

namespace Sys2Proof.Machine

/- Each proof waits for the kernel; checked one after another, they need no more threads than the rest of the package. -/
set_option Elab.async false

variable {s t : State} {u : Setup} {e : OrtEntry} {k : Byte} {r : ReqRecord} {i : Instr} {c : Option Status} {late : Bool}

/-! ### The rows that take records -/

/-- A row that validates a record takes it. -/
theorem exec_of_checkOf (h : recordOf i = some (k, r)) (hc : checkOf i = some c) (s : State) :
    ∃ act, exec i s = .next (s.take k r c act) := by
  cases i with
  | nop _ | portConfig _ | portEnable _ | portDisable _ | bringUp _ | cycleStart _ | cycleStop _ | groupConfig _ | syncFire _
  | paramRead _ | paramWrite _ | abort _ | portQuery _ =>
    cases h
    cases hc
    exact ⟨_, rfl⟩
  | unknownRequestKind _ _ => cases hc
  | _ => cases h

/-- A kind that names no request is taken as BAD_REQUEST (R132). -/
theorem exec_unknownRequestKind (hk : kindNamed k = false) (r : ReqRecord) (s : State) :
    exec (.unknownRequestKind k r) s = .next (s.take k r (some .badRequest) fun _ v => v) := by
  simp [exec, execUnknownRequestKind, onlyIf, hk]

/-- Every well-formed row of a record takes it. -/
theorem exec_of_recordOf (h : recordOf i = some (k, r)) (hw : i.wellFormed = true) (s : State) :
    ∃ c act, exec i s = .next (s.take k r c act) := by
  cases hc : checkOf i with
  | some c => exact ⟨c, exec_of_checkOf h hc s⟩
  | none =>
    cases i with
    | unknownRequestKind k' r' =>
      cases h
      exact ⟨_, _, exec_unknownRequestKind (by simpa [Instr.wellFormed] using hw) r s⟩
    | nop _ | portConfig _ | portEnable _ | portDisable _ | bringUp _ | cycleStart _ | cycleStop _ | groupConfig _ | syncFire _
    | paramRead _ | paramWrite _ | abort _ | portQuery _ => cases hc
    | _ => cases h

/-! ### Records handed over at their take (R127, R131, R132) -/

theorem routed_eq_afterTake (s : State) (u : Setup) (e : OrtEntry) (k : Byte) (r : ReqRecord) :
    s.routed u e k r = s.afterTake u e k r := rfl

theorem routed_handedAtTake (hf : s.Fetched u e) (hn : s.TableSound e) (st : Status) (x : Word) :
    HandedAtTake s ((s.routed u e k r).handOver e.id st x) u e k r st x :=
  ⟨routed_reported s u e k r st x hf hn, by rw [handOver_control, routed_control], by rw [handOver_bus]; rfl,
    by rw [handOver_events]; rfl, fun q => by rw [handOver_port]; rfl, handOver_groupsKept rfl _ _ _⟩

/-- A record that fails its validation is handed over with the status of the failed check (R132). -/
theorem take_failed_handedAtTake {act : Nat → State → State} {st : Status} (hf : s.Fetched u e) (hn : s.TableSound e)
    (hi : exec i s = .next (s.take k r (some st) act)) : Completes i s fun t => HandedAtTake s t u e k r st 0 :=
  ⟨_, by rw [hi, take_invalid u e k r st act hf], routed_handedAtTake hf hn st 0⟩

/-- Settles O12, as a record that fails its validation. -/
theorem anUnknownKindIsBadRequest : Obligations.AnUnknownKindIsBadRequest := fun _ r _ _ s hk hf hn =>
  take_failed_handedAtTake hf hn (exec_unknownRequestKind hk r s)

/-! ### Records that reach a target (R134, R135) -/

/-- The kinds of a port (R130, section 10.2). -/
theorem kindOfPort_cases : ∀ k : Byte, kindOfPort k = true → k ∈ [kindPortConfig, kindPortEnable, kindPortDisable, kindBringUp,
    kindCycleStart, kindCycleStop, kindParamRead, kindParamWrite, kindPortQuery] := by decide

theorem exec_of_kindOfPort (hk : kindOfPort k = true) (hc : checkOf (rowOfKind k false r) = some c) (late : Bool) (s : State) :
    exec (rowOfKind k late r) s =
      .next (s.take k r c (State.toPort k ⟨r, late⟩ fun id v => v.requestArrives k r id)) := by
  have hmem := kindOfPort_cases k hk
  simp only [List.mem_cons, List.not_mem_nil, or_false] at hmem
  rcases hmem with rfl | rfl | rfl | rfl | rfl | rfl | rfl | rfl | rfl
  all_goals
    cases hc
    rfl

theorem exec_of_kindOfUnit (hk : kindOfUnit k = true) (hc : checkOf (rowOfKind k false r) = some c) (late : Bool) (s : State) :
    exec (rowOfKind k late r) s =
      .next (s.take k r c (State.toUnit k ⟨r, late⟩ fun id v => v.requestArrives k r id)) := by
  have hmem : k = kindGroupConfig ∨ k = kindSyncFire := by simpa [kindOfUnit] using hk
  rcases hmem with rfl | rfl
  all_goals
    cases hc
    rfl

/-- What alone waits at a port acts as if it had never waited. -/
theorem portArrival_of_single {p : PortId} {x : Port} (hp : s.port p = x) (hx : x.inbox = []) (a : Arrival) :
    (s.withPort p { x with inbox := [a] }).portArrival p = s.arrives a := by
  have hself : ({ x with inbox := [] } : Port) = s.port p := by rw [hp, ← hx]
  unfold State.portArrival
  rw [port_withPort]
  dsimp only
  rw [modPort_withPort]
  exact congrArg (State.arrives a) ((congrArg (s.withPort p) hself).trans (withPort_self s p))

theorem unitArrival_of_single (hx : s.unitInbox = []) (a : Arrival) :
    { s with unitInbox := [a] }.unitArrival = s.arrives a := by
  refine congrArg (State.arrives a) (show { s with unitInbox := [] } = s from ?_)
  rw [← hx]

/-- Settles O11: a failed record, then a valid one at a port and at the Schedule Unit. -/
theorem aFailedCheckIsReported : Obligations.AFailedCheckIsReported := by
  refine ⟨fun i k r st u e s hi hc hf hn => ?_, ?_⟩
  · obtain ⟨act, hact⟩ := exec_of_checkOf hi hc s
    exact take_failed_handedAtTake hf hn hact
  intro k r u e s hc hf taken p x
  refine ⟨fun hk => ?_, fun hk => ?_⟩
  · have hexec := fun late => (exec_of_kindOfPort hk hc late s).trans (congrArg _ (take_valid u e k r _ hf))
    refine ⟨fun late hw => (hexec late).trans (congrArg _ ?_), fun hx => (hexec false).trans (congrArg _ ?_)⟩
    · exact atPort_waits (s := s.routed u e k r) hw
    · exact (atPort_now (s := s.routed u e k r) hx).trans (portArrival_of_single (s := taken) rfl hx (.request e.id k r)).symm
  · have hexec := fun late => (exec_of_kindOfUnit hk hc late s).trans (congrArg _ (take_valid u e k r _ hf))
    refine ⟨fun late hw => (hexec late).trans (congrArg _ ?_), fun hx => (hexec false).trans (congrArg _ ?_)⟩
    · exact atUnit_waits (s := s.routed u e k r) hw
    · exact (atUnit_now (s := s.routed u e k r) hx).trans (unitArrival_of_single (s := taken) hx (.request e.id k r)).symm

/-! ### NOP (R136, R144) -/

/-- An entry filled and handed over at once stands DONE in the table (R127, R131). -/
theorem routed_moved_ort (s : State) (u : Setup) (e : OrtEntry) (k : Byte) (r : ReqRecord) :
    ((s.routed u e k r).setOrtState e.id .done).ort = s.tableWith e k r .done := by
  rw [setOrtState_ort, routed_eq_afterTake]
  refine (List.map_map ..).trans (List.map_congr_left fun x _ => ?_)
  by_cases hid : x.id = e.id
  · simp [hid, OrtEntry.moved]
  · simp [hid, moved_ne]

/-- The whole state after a take that hands its request over, no ABORT waiting for it (R127, R131, R148). -/
theorem routed_handOver (hf : s.Fetched u e) (hn : s.TableSound e) (ha : s.NotAwaited e.id) (st : Status) (x : Word) :
    (s.routed u e k r).handOver e.id st x = { s.afterTake u e k r with
      ort := s.tableWith e k r .done
      cpl := { s.cpl with done := s.cpl.done ++ [(e.filled k r).completion st x s.arrivals] }
      arrivals := s.arrivals + 1 } :=
  (handOver_of_pends (routed_pends hf hn ha) st x).trans (congrArg
    (fun o => { s.afterTake u e k r with
      ort := o
      cpl := { s.cpl with done := s.cpl.done ++ [(e.filled k r).completion st x s.arrivals] }
      arrivals := s.arrivals + 1 }) (routed_moved_ort s u e k r))

/-- Timestamp and head stand in octets 8 to 13 of a REQUEST_DONE record (R144). -/
theorem doneRecord_stamp (c : Completion) (phase : Bool) (now : Word) (head : Nat) :
    ((doneRecord c phase now head).drop 8).take 6 = octets 4 now ++ octets 2 (BitVec.ofNat 16 head) := rfl

/-- Settles O13: the take hands the NOP over with the number of entries, its own among them. -/
theorem aNopReportsTheEntriesInUse : Obligations.ANopReportsTheEntriesInUse := by
  refine ⟨fun r u e s hc hf hn ha ⟨_, hsize⟩ => ⟨?_, List.length_pos_of_mem (fetched_mem hf).1, hsize⟩, doneRecord_stamp⟩
  have hlen : (s.routed u e kindNop r).ort.length = s.ort.length := List.length_map _
  have htarget : r.target = 0 := by
    have hclear := firstFailure_eq_none.mp hc _ (List.mem_singleton_self _)
    simp only [Bool.and_eq_true, beq_iff_eq] at hclear
    exact hclear.2
  have htake : exec (.nop r) s = .next (s.take kindNop r (checkNop r) fun id v =>
      v.handOver id .ok (BitVec.ofNat 32 v.ort.length)) := rfl
  rw [htake, hc, take_valid u e kindNop r _ hf, hlen, routed_handOver hf hn ha]
  simp only [State.afterTake, OrtEntry.completion, OrtEntry.filled, htarget]

end Sys2Proof.Machine
end

section
/-! PROOFS. The fetch and its end in HALTED or by a bus error (R126, R128, R129), the halt (R129, R161), and the writes to REQ_TAIL
and CTRL (R124, R156 to R158). -/

namespace Sys2Proof.Machine

/- Each proof waits for the kernel; checked one after another, they need no more threads than the rest of the package. -/
set_option Elab.async false

variable {s t : State} {u : Setup} {k : Byte} {r : ReqRecord} {i : Instr}

/-! ### A fetch that is dropped (R129) -/

theorem dropFetch_fetching (h : ∃ e ∈ s.ort, e.st = .fetching) : s.dropFetch =
    { s with ort := s.ort.eraseP fun e => e.st = .fetching, cpl := { s.cpl with reserved := s.cpl.reserved - 1 } } :=
  if_pos (List.any_eq_true.mpr (by simpa using h))

theorem dropFetch_ort (s : State) : s.dropFetch.ort = s.ort.eraseP fun e => e.st = .fetching := by
  by_cases h : ∃ e ∈ s.ort, e.st = .fetching
  · rw [dropFetch_fetching h]
  · have hnone : ∀ e ∈ s.ort, ¬ (decide (e.st = .fetching)) = true := by simpa using h
    rw [List.eraseP_of_forall_not hnone, State.dropFetch, State.freeEntry, if_neg]
    simpa using h

/-- A drop changes the table and the reservations only. -/
theorem dropFetch_rest (s : State) : s.dropFetch =
    { s with ort := s.dropFetch.ort, cpl := { s.cpl with reserved := s.dropFetch.cpl.reserved } } := by
  unfold State.dropFetch State.freeEntry
  split <;> rfl

theorem withdrawFetch_unclaimed (h : s.bus.fetchClaim = false) : s.withdrawFetch = s :=
  if_neg (by simp [h])

theorem withdrawFetch_claimed (h : s.bus.fetchClaim = true) :
    s.withdrawFetch = { s with bus := { s.bus with fetchClaim := false } }.dropFetch :=
  if_pos h

/-- A fetch claimed and not yet granted is withdrawn, its entry and its reservation with it (R129). -/
theorem withdrawFetch_fetching (h : s.bus.fetchClaim = true) (hx : ∃ e ∈ s.ort, e.st = .fetching) : s.withdrawFetch =
    { s with
      bus := { s.bus with fetchClaim := false }
      ort := s.ort.eraseP fun e => e.st = .fetching
      cpl := { s.cpl with reserved := s.cpl.reserved - 1 } } :=
  (withdrawFetch_claimed h).trans (dropFetch_fetching (s := { s with bus := { s.bus with fetchClaim := false } }) hx)

/-! ### The halt (R129, R161) -/

/-- A halt with no fetch claimed. -/
theorem halt_unclaimed (c : HaltCause) (h : s.bus.fetchClaim = false) : s.halt c =
    { s with part := .halted, haltCause := some c, bus := { s.bus with recordClaim := none } } :=
  congrArg (State.modBus fun b => { b with recordClaim := none })
    (withdrawFetch_unclaimed (s := { s with part := .halted, haltCause := some c }) h)

/-- A halt with a fetch claimed: the claim is withdrawn. -/
theorem halt_claimed (c : HaltCause) (h : s.bus.fetchClaim = true) : s.halt c =
    { s with
      part := .halted
      haltCause := some c
      ort := s.ort.eraseP fun e => e.st = .fetching
      cpl := { s.cpl with reserved := (s.halt c).cpl.reserved }
      bus := { s.bus with fetchClaim := false, recordClaim := none } } := by
  let shown : State := { s with part := .halted, haltCause := some c, bus := { s.bus with fetchClaim := false } }
  have hdrop : s.halt c = shown.dropFetch.modBus fun b => { b with recordClaim := none } :=
    congrArg (State.modBus fun b => { b with recordClaim := none })
      (withdrawFetch_claimed (s := { s with part := .halted, haltCause := some c }) h)
  rw [hdrop, dropFetch_rest, dropFetch_ort]
  rfl

theorem halt_haltedBy (c : HaltCause) (s : State) : HaltedBy c s (s.halt c) := by
  cases h : s.bus.fetchClaim with
  | false =>
    rw [halt_unclaimed c h]
    exact ⟨rfl, rfl, rfl, rfl, fun _ => rfl, fun _ => rfl, rfl, rfl, h, rfl, fun _ => ⟨rfl, rfl⟩, fun hc => by simp [h] at hc⟩
  | true =>
    rw [halt_claimed c h]
    exact ⟨rfl, rfl, rfl, rfl, fun _ => rfl, fun _ => rfl, rfl, rfl, rfl, rfl, fun hc => by simp [h] at hc, fun _ => rfl⟩

theorem halt_setupClaim (c : HaltCause) (s : State) : (s.halt c).bus.setupClaim = s.bus.setupClaim := by
  cases h : s.bus.fetchClaim with
  | false => rw [halt_unclaimed c h]
  | true => rw [halt_claimed c h]

/-- In HALTED the Completion Writer claims no record (R142, R161). -/
theorem recordDue_halted (h : s.part = .halted) : s.recordDue = none := by
  simp [State.recordDue, State.nowIf, State.runningOrPaused, h]

/-- In HALTED the Dispatcher fetches nothing (R126). -/
theorem fetchDue_notRunning (h : s.part ≠ .running) : s.fetchDue = none := by
  cases hs : s.setup with
  | none => exact fetchDue_unset hs
  | some u => exact Option.not_isSome_iff_eq_none.mp fun hd => h ((fetchDue_isSome hs).mp hd).1

/-! ### The fetch (R126, R129) -/

/-- The data of a fetch that ends in HALTED are dropped, whatever the record (R129). -/
theorem take_halted (hp : s.part = .halted) (hf : s.fetchFlying = true) (c : Option Status) (act : Nat → State → State) :
    s.take k r c act = s.endFlight.dropFetch := by
  have hstop : s.endFlight.runningOrPaused = false := by simp [State.runningOrPaused, hp]
  simp [State.take, hf, hstop]

theorem exec_reqBusError_halted (hp : s.part = .halted) (hf : s.fetchFlying = true) :
    exec .reqBusError s = .next s.endFlight.dropFetch := by
  have hstop : s.endFlight.runningOrPaused = false := by simp [State.runningOrPaused, hp]
  simp [exec, execReqBusError, onlyIf, hf, hstop]

/-- A due fetch reserves, allocates and claims; otherwise FETCH does nothing (R126). -/
theorem exec_fetch (s : State) : exec .fetch s =
    .next (if s.fetchDue.isSome then s.allocate.modBus fun b => { b with fetchClaim := true } else s) := rfl

/-- Settles O26: the fetch that ends in HALTED, then the conditions of a fetch. -/
theorem aFetchReservesAllocatesAndClaims : Obligations.AFetchReservesAllocatesAndClaims := by
  refine ⟨?_, fun u s hu => ⟨fun hdue => ?_, fun hnot => ?_⟩⟩
  · intro e s hp hf he dropped
    have hfetching : ∃ x ∈ s.endFlight.ort, x.st = .fetching :=
      ⟨e, List.mem_of_find?_eq_some he, by simpa using List.find?_some he⟩
    have hdrop : s.endFlight.dropFetch = dropped := dropFetch_fetching hfetching
    refine ⟨(exec_reqBusError_halted hp hf).trans (congrArg _ hdrop), fun i hi hw => ?_⟩
    obtain ⟨⟨k, r⟩, hrec⟩ := Option.isSome_iff_exists.mp hi
    obtain ⟨c, act, hexec⟩ := exec_of_recordOf hrec hw s
    exact hexec.trans (congrArg _ ((take_halted hp hf c act).trans hdrop))
  · have hd := (fetchDue_isSome hu).mpr hdue
    obtain ⟨-, -, hlen, -⟩ := hdue
    exact ⟨(exec_fetch s).trans (congrArg _ (if_pos hd)), freeId_free hlen⟩
  · refine (exec_fetch s).trans (congrArg _ (if_neg fun hd => ?_))
    obtain ⟨hpart, hne, hlen, hcredit, hclaim, hfly⟩ := (fetchDue_isSome hu).mp hd
    have hsize : s.ort.length < 64 := hlen
    rcases hnot with h | h | h | h | h | h
    · exact h hpart
    · exact hne h
    · omega
    · omega
    · simp [hclaim] at h
    · simp [hfly] at h

/-! ### A bus error on the fetch (R128) -/

theorem softReset_dispatcher (s : State) :
    s.softReset.ort = [] ∧ s.softReset.cpl.reserved = 0 ∧ s.softReset.head = 0 ∧ s.softReset.tail = 0 := by
  unfold State.softReset
  dsimp only
  split <;> exact ⟨rfl, rfl, rfl, rfl⟩

/-- Settles O25, by the halt that the bus error brings. -/
theorem aFetchBusErrorHalts : Obligations.AFetchBusErrorHalts := by
  intro s hf hr hc
  have hexec : exec .reqBusError s = .next (s.endFlight.halt .reqBusError) := by
    have hgo : s.endFlight.runningOrPaused = true := hr
    simp [exec, execReqBusError, onlyIf, hf, hgo]
  have hhalt := halt_unclaimed (s := s.endFlight) .reqBusError hc
  have hpart : (s.endFlight.halt .reqBusError).part = .halted := by rw [hhalt]
  refine ⟨_, hexec, hhalt, ?_, recordDue_halted hpart, fetchDue_notRunning (by simp [hpart]), softReset_dispatcher _⟩
  rw [hhalt]
  rfl

/-! ### REQ_TAIL (R124, R154) -/

theorem exec_reqTail_open (h : s.windowOpen = true) (v : Word) : exec (.reqTail v) s = .next (s.writeReqTail v) :=
  congrArg _ (if_pos h)

theorem tailOut_iff (hu : s.setup = some u) (v : Word) : s.tailOut v = true ↔ u.reqSize ≤ v.toNat := by
  simp [State.tailOut, hu]

/-- Where the part has not read its setup block in force, or is halted, REQ_TAIL holds what is written (R124). -/
theorem writeReqTail_held (h : s.runningOrPaused = false) (v : Word) : s.writeReqTail v = { s with reqTailReg := v } :=
  if_neg (Bool.eq_false_iff.mp h)

theorem writeReqTail_judged (h : s.runningOrPaused = true) (v : Word) : s.writeReqTail v =
    if s.tailOut v then { s with reqTailReg := v }.halt .badTail else { s with reqTailReg := v, tail := v.toNat } :=
  if_pos h

/-- Settles O31, by the state of the window, of the part, and the value. -/
theorem reqTailMovesTheTail : Obligations.ReqTailMovesTheTail := by
  intro v s held
  refine ⟨fun hw => congrArg _ (if_neg (by simp [hw])), fun hw => ⟨rfl, fun hr => ?_, fun u hr hu => ⟨fun hv => ?_, fun hv => ?_⟩⟩⟩
  · exact (exec_reqTail_open hw v).trans (congrArg _ (writeReqTail_held hr v))
  · rw [exec_reqTail_open hw, writeReqTail_judged hr, if_neg fun h => Nat.not_le.mpr hv ((tailOut_iff hu v).mp h)]
  · have hwrite : s.writeReqTail v = held.halt .badTail :=
      (writeReqTail_judged hr v).trans (if_pos ((tailOut_iff hu v).mpr hv))
    exact ⟨_, (exec_reqTail_open hw v).trans (congrArg _ hwrite), halt_haltedBy _ _⟩

/-! ### CTRL (R156 to R158) -/

theorem exec_ctrlRow (b : Bool) {v : Word} (hv : v.getLsbD 1 = false) (hw : s.windowOpen = true) :
    exec (ctrlRow b v) s = .next { s.writeEnable (v.getLsbD 0) with intEnable := v.getLsbD 2 } := by
  have hctrl : s.writeCtrl v = { s.writeEnable (v.getLsbD 0) with intEnable := v.getLsbD 2 } := if_neg (Bool.eq_false_iff.mp hv)
  cases b <;> exact congrArg _ ((if_pos hw).trans hctrl)

/-- A write that leaves ENABLE as it is, or changes it where the part does not act on it, stores it (R156, R157). -/
theorem writeEnable_stored {b : Bool} (h : s.ctrlEnable = b ∨ s.part = .starting ∨ s.part = .halted ∨
    (b = false ∧ s.part ≠ .running) ∨ (b = true ∧ s.part = .running)) : s.writeEnable b = { s with ctrlEnable := b } := by
  unfold State.writeEnable
  by_cases hsame : s.ctrlEnable = b
  · exact if_pos hsame
  refine (if_neg hsame).trans ?_
  cases b with
  | true =>
    have hpart : s.part = .starting ∨ s.part = .halted ∨ s.part = .running := by simpa [hsame] using h
    rcases hpart with hp | hp | hp <;> simp [hp]
  | false =>
    have hpart : s.part ≠ .running := fun hr => by simp [hsame, hr] at h
    refine (if_neg Bool.false_ne_true).trans ?_
    split
    · exact absurd ‹s.part = .running› hpart
    all_goals rfl

theorem writeEnable_off (he : s.ctrlEnable = false) (hp : s.part = .off) :
    s.writeEnable true = { s with ctrlEnable := true }.enterStarting := by
  simp [State.writeEnable, he, hp]

theorem writeEnable_paused (he : s.ctrlEnable = false) (hp : s.part = .paused) :
    s.writeEnable true = { s with ctrlEnable := true, part := .running } := by
  simp [State.writeEnable, he, hp]

theorem writeEnable_running (he : s.ctrlEnable = true) (hp : s.part = .running) :
    s.writeEnable false = { s with ctrlEnable := false, part := .paused }.withdrawFetch := by
  simp [State.writeEnable, he, hp]

theorem enterStarting_claims (ha : s.setupAddr ≠ 0) : s.enterStarting =
    { s with part := .starting, bus := { s.bus with setupClaim := some s.setupAddr } } :=
  if_neg ha

theorem enterStarting_halts (ha : s.setupAddr = 0) : s.enterStarting = { s with part := .starting }.halt .badSetup :=
  if_pos ha

/-- Settles O33, by what the write makes of ENABLE and the part's state. -/
theorem ctrlStartsPausesAndResumes : Obligations.CtrlStartsPausesAndResumes := by
  intro b v s hv hw e stored
  have hexec : ∀ {x t}, e = x → s.writeEnable x = t → exec (ctrlRow b v) s = .next { t with intEnable := v.getLsbD 2 } :=
    fun he ht => by rw [← ht, ← he, exec_ctrlRow b hv hw]
  refine ⟨fun h => hexec rfl (writeEnable_stored h), fun hc he hp => ?_, fun hc he hp => ?_,
    fun hc he hp => ?_⟩
  · have hoff := writeEnable_off hc hp
    refine ⟨fun ha => (hexec he (hoff.trans (enterStarting_claims ha))).trans (by rw [← he]), fun ha => ?_⟩
    exact ⟨_, hexec he (hoff.trans (enterStarting_halts ha)),
      halt_haltedBy .badSetup { s with ctrlEnable := true, part := .starting }, halt_setupClaim _ _⟩
  · exact (hexec he (writeEnable_paused hc hp)).trans (by rw [← he])
  · have hpause := writeEnable_running hc hp
    refine ⟨fun hclaim => (hexec he (hpause.trans (withdrawFetch_unclaimed hclaim))).trans (by rw [← he]), fun hclaim hx => ?_⟩
    have hwithdraw := withdrawFetch_fetching (s := { s with ctrlEnable := false, part := .paused }) hclaim hx
    exact (hexec he (hpause.trans hwithdraw)).trans (by rw [← he])

end Sys2Proof.Machine
end

section
/-! PROOFS. Every step keeps the entries of the Event Pending List apart in port and kind (R149). The idea: only a post adds an
entry, and only where none of its port and kind is pending (R150); whatever else a command does leaves the list or shortens it. -/

namespace Sys2Proof.Machine

/- Each proof waits for the kernel; checked one after another, they need no more threads than the rest of the package. -/
set_option Elab.async false

variable {p : PortId} {s t u : State}

/-! ### The relation every operation keeps -/

/-- From `s` to `t` the entries of the Event Pending List stay apart. -/
def EventsKept (s t : State) : Prop := s.EventsDistinct → t.EventsDistinct

theorem EventsKept.refl (s : State) : EventsKept s s := id

theorem EventsKept.trans (h : EventsKept s t) (k : EventsKept t u) : EventsKept s u := fun hs => k (h hs)

theorem EventsKept.ite {c : Prop} [Decidable c] (ht : EventsKept s t) (hu : EventsKept s u) :
    EventsKept s (if c then t else u) := by
  split
  · exact ht
  · exact hu

/-- What posts nothing leaves the list or takes entries from it. -/
theorem EventsKept.of_sublist (h : t.cpl.events.Sublist s.cpl.events) : EventsKept s t := fun hs => hs.sublist h

theorem EventsKept.of_eq (h : t.cpl.events = s.cpl.events) : EventsKept s t := .of_sublist (h ▸ .refl _)

/-- An operation that begins with what leaves the list as it was. -/
theorem EventsKept.congr (h : EventsKept t u) (ht : t.cpl.events = s.cpl.events) : EventsKept s u :=
  (EventsKept.of_eq ht).trans h

/-- Of the work of the ports and of the Schedule Unit, posts alone touch the list (R150). -/
theorem Worked.eventsKept (h : Worked s t) : EventsKept s t := by
  induction h with
  | refl => exact .refl s
  | ports _ _ ih => exact ih
  | groups _ _ ih => exact ih
  | moved _ _ _ ih => exact ih
  | @completed t _ id st r ih => exact ih.trans (complete_at (p := 0) (.refl 0 t) id st r).events
  | counted _ _ ih => exact ih
  | @posted t _ p k d ih => exact ih.trans (post_events t p k d)
  | flight _ _ _ ih => exact ih

/-! ### The Dispatcher and the arrivals (R127, R129, R134, R135) -/

theorem advanceHead_events (s : State) : s.advanceHead.cpl.events = s.cpl.events := by
  unfold State.advanceHead
  split <;> rfl

theorem dropFetch_events (s : State) : s.dropFetch.cpl.events = s.cpl.events := by rw [dropFetch_rest]

theorem take_eventsKept (s : State) (k : Byte) (r : ReqRecord) (c : Option Status) {act : Nat → State → State}
    (h : ∀ id u, EventsKept u (act id u)) : EventsKept s (s.take k r c act) := by
  unfold State.take
  dsimp only
  refine .ite (.ite ?_ (.of_eq (dropFetch_events s.endFlight))) (.refl s)
  split
  · exact .of_eq rfl
  · rename_i e _
    have hfilled : EventsKept s (s.endFlight.advanceHead.setOrt e.id fun x =>
        { x with tag := r.tag, kind := k, target := r.target, st := .routed }) := .of_eq (advanceHead_events s.endFlight)
    split
    · exact hfilled.trans (handOver_worked .refl _ _ _).eventsKept
    · exact hfilled.trans (h _ _)

theorem toPort_eventsKept {k : Byte} {q : Routed} {act : Nat → State → State} (h : ∀ id u, Worked u (act id u)) (id : Nat)
    (u : State) : EventsKept u (State.toPort k q act id u) := (atPort_worked .refl (h id u) _ _ _).eventsKept

theorem toUnit_eventsKept {k : Byte} {q : Routed} {act : Nat → State → State} (h : ∀ id u, Worked u (act id u)) (id : Nat)
    (u : State) : EventsKept u (State.toUnit k q act id u) := .ite (.of_eq rfl) (h id u).eventsKept

theorem unitArrival_eventsKept (s : State) : EventsKept s s.unitArrival := by
  unfold State.unitArrival
  split
  · exact (arrives_worked .refl _).eventsKept.congr rfl
  · exact .refl s

/-! ### Halts, registers and resets -/

theorem withdrawFetch_events (s : State) : s.withdrawFetch.cpl.events = s.cpl.events := by
  unfold State.withdrawFetch
  split
  · exact dropFetch_events _
  · rfl

theorem halt_events (s : State) (c : HaltCause) : (s.halt c).cpl.events = s.cpl.events :=
  withdrawFetch_events { s with part := .halted, haltCause := some c }

theorem halt_eventsKept (s : State) (c : HaltCause) : EventsKept s (s.halt c) := .of_eq (halt_events s c)

theorem writeReqTail_eventsKept (s : State) (v : Word) : EventsKept s (s.writeReqTail v) :=
  .ite (.ite (halt_eventsKept { s with reqTailReg := v } _) (.of_eq rfl)) (.of_eq rfl)

theorem writeCplHead_eventsKept (s : State) (v : Word) : EventsKept s (s.writeCplHead v) :=
  have hhalt := halt_eventsKept ({ s with cplHeadReg := v }.modCpl CompletionWriter.acknowledge) .badHead
  .ite (.ite hhalt (.ite hhalt (.of_eq rfl))) (.of_eq rfl)

theorem writeEnable_eventsKept (s : State) (b : Bool) : EventsKept s (s.writeEnable b) := by
  have hheld : EventsKept s { s with ctrlEnable := b } := .refl s
  unfold State.writeEnable
  refine .ite hheld (.ite ?_ ?_)
  · split
    · exact .ite (halt_eventsKept { s with ctrlEnable := b, part := .starting } _) hheld
    all_goals exact hheld
  · split
    · exact .of_eq (withdrawFetch_events _)
    all_goals exact hheld

/-- A reset empties the list (R162). -/
theorem softReset_eventsKept (s : State) : EventsKept s s.softReset :=
  .ite (.of_sublist (List.nil_sublist _)) (.of_sublist (List.nil_sublist _))

theorem writeCtrl_eventsKept (s : State) (v : Word) : EventsKept s (s.writeCtrl v) :=
  .ite (softReset_eventsKept s) (writeEnable_eventsKept s _)

theorem writeRegister_eventsKept (s : State) (o : Nat) (w : AccessWidth) (v : Word) : EventsKept s (s.writeRegister o w v) :=
  .ite (.refl s) <| .ite (writeCtrl_eventsKept s v) <| .ite (.refl s) <| .ite (writeReqTail_eventsKept s v) <|
    .ite (writeCplHead_eventsKept s v) (.refl s)

theorem setupRead_eventsKept (s : State) (d : Option ReadData) : EventsKept s (s.setupRead d) := by
  unfold State.setupRead
  split
  · exact halt_eventsKept s _
  · split
    · exact halt_eventsKept s _
    · exact .ite (halt_eventsKept s _) (.ite (halt_eventsKept s _) (.refl s))

/-! ### Records (R142, R164) -/

/-- A grant takes an entry from the list only where it is the record granted (R142). -/
theorem grant_eventsKept (s : State) : EventsKept s s.grant := by
  unfold State.grant
  split
  · unfold State.grantImage
    split <;> exact .of_eq rfl
  · unfold State.grantTransfer
    split <;> exact .of_eq rfl
  · unfold State.grantRecord
    dsimp only
    split
    · exact .of_eq rfl
    · rename_i e rest he _
      have hlist : s.cpl.events = e :: rest := he
      exact .of_sublist (hlist ▸ List.sublist_cons_self e rest)
    · exact .of_eq rfl
  all_goals exact .of_eq rfl

theorem recordWritten_events (s : State) (v : Setup) (o : Option Nat) : (s.recordWritten v o).cpl.events = s.cpl.events := by
  unfold State.recordWritten State.freeEntry
  cases o with
  | none => rfl
  | some id =>
    dsimp only
    split <;> rfl

/-! ### What a command answers -/

/-- What a command answers from `s` has kept the list. -/
def AnswersEventsKept (s : State) (r : Result) : Prop := ∀ t, r = .next t → EventsKept s t

theorem AnswersEventsKept.next (h : EventsKept s t) : AnswersEventsKept s (.next t) := by
  rintro _ ⟨⟩
  exact h

/-- A command without an effect. -/
theorem AnswersEventsKept.same (s : State) : AnswersEventsKept s (.next s) := .next (.refl s)

theorem onlyIf_eventsKept {c : Bool} {act : State → State} (h : EventsKept s (act s)) : AnswersEventsKept s (onlyIf c act s) :=
  .next (.ite h (.refl s))

theorem exactlyAt_eventsKept {n : Nat} {act : State → State} (h : ∀ v, EventsKept v (act v)) :
    AnswersEventsKept s (exactlyAt n act s) := by
  unfold exactlyAt
  split
  · rename_i v hv
    rw [(reach_eq hv).1]
    exact .next ((h _).congr rfl)
  · exact .same s

theorem atInstant_eventsKept {due : Option Nat} {act : State → State} (h : ∀ v, EventsKept v (act v)) :
    AnswersEventsKept s (atInstant due act s) := by
  unfold atInstant
  split
  · exact exactlyAt_eventsKept h
  · exact .same s

/-- A step of the ports at its instant. -/
theorem atInstant_worked_eventsKept {due : Option Nat} {act : State → State} (h : ∀ v, Worked v (act v)) :
    AnswersEventsKept s (atInstant due act s) := atInstant_eventsKept fun v => (h v).eventsKept

theorem replyAt_eventsKept {n : Nat} {act : State → State} (h : ∀ v, Worked v (act v)) :
    AnswersEventsKept s (s.replyAt p n act) := by
  unfold State.replyAt
  split
  · rename_i v hv
    rw [(reach_eq hv).1]
    exact .next ((h _).eventsKept.congr rfl)
  · exact .same s

theorem expire_eventsKept (s : State) (p : PortId) (c : Cause) (due : Option Nat) (n : Nat) :
    AnswersEventsKept s (s.expire p c due n) := by
  unfold State.expire
  split
  · split
    · exact exactlyAt_eventsKept fun v => (endExchange_worked .refl _ _ _).eventsKept
    · exact .same s
  · exact .same s

/-! ### Commands that look at the state -/

theorem execCollision_eventsKept (s : State) (p : PortId) (bit : Nat) : AnswersEventsKept s (execCollision p bit s) := by
  unfold execCollision
  split
  · split
    · exact exactlyAt_eventsKept fun v => (collide_worked .refl _ bit).eventsKept
    · exact .same s
  · exact .same s

theorem execReplyStartEdge_eventsKept (s : State) (p : PortId) (n : Nat) :
    AnswersEventsKept s (execReplyStartEdge p n s) := by
  unfold execReplyStartEdge
  dsimp only
  split
  · split
    · exact replyAt_eventsKept fun v => beginReply_worked .refl _ _
    · exact .same s
  · exact .same s

theorem execStationReply_eventsKept (s : State) (p : PortId) (chars : List RxChar) (next : Option Nat) :
    AnswersEventsKept s (execStationReply p chars next s) := by
  unfold execStationReply
  split
  · split
    · exact replyAt_eventsKept (replyEffect_worked ‹_›)
    · exact .same s
  · exact .same s

/-- The end of an access, and what it brings at its port. -/
theorem eventsKept_of_endFlight (h : Worked s.endFlight t) : EventsKept s t := h.eventsKept.congr rfl

theorem execSamplingReadEnd_eventsKept (s : State) (d : Option ReadData) : AnswersEventsKept s (execSamplingReadEnd d s) := by
  unfold execSamplingReadEnd
  split
  · dsimp only
    split
    · split
      · exact .next (eventsKept_of_endFlight (imageFault_worked .refl _))
      · exact .next (eventsKept_of_endFlight (ite_worked (modCyc_worked .refl _) .refl))
    · exact .same s.endFlight
  · exact .same s

theorem execInputImageWriteEnd_eventsKept (s : State) (ok : Bool) : AnswersEventsKept s (execInputImageWriteEnd ok s) := by
  unfold execInputImageWriteEnd
  split
  · dsimp only
    split
    · exact .next (eventsKept_of_endFlight
        (ite_worked (imageFault_worked .refl _) (ite_worked (modCyc_worked .refl _) .refl)))
    · exact .same s.endFlight
  · exact .same s

theorem execTransferFetchEnd_eventsKept (s : State) (d : Option ReadData) :
    AnswersEventsKept s (execTransferFetchEnd d s) := by
  unfold execTransferFetchEnd
  split
  · exact .next (eventsKept_of_endFlight (ite_worked (fetchEnded_worked .refl _) (formerEnded_worked .refl)))
  · exact .same s

theorem execTransferStoreEnd_eventsKept (s : State) (ok : Bool) : AnswersEventsKept s (execTransferStoreEnd ok s) := by
  unfold execTransferStoreEnd
  split
  · exact .next (eventsKept_of_endFlight (ite_worked (storeEnded_worked .refl _) (formerEnded_worked .refl)))
  · exact .same s

theorem execPortReportWriteEnd_eventsKept (s : State) (ok : Bool) : AnswersEventsKept s (execPortReportWriteEnd ok s) := by
  unfold execPortReportWriteEnd
  split
  · exact .next (eventsKept_of_endFlight (reportEnded_worked .refl _ _))
  · exact .same s

theorem execReqBusError_eventsKept (s : State) : AnswersEventsKept s (execReqBusError s) :=
  onlyIf_eventsKept (.ite (halt_eventsKept s.endFlight _) (.of_eq (dropFetch_events s.endFlight)))

theorem execRecordWriteEnd_eventsKept (s : State) (ok : Bool) : AnswersEventsKept s (execRecordWriteEnd ok s) := by
  unfold execRecordWriteEnd
  split
  · exact .next (.ite (.of_eq (recordWritten_events s.endFlight _ _)) (.ite (halt_eventsKept s.endFlight _) (.refl s)))
  · exact .same s

theorem execSetupReadEnd_eventsKept (s : State) (d : Option ReadData) : AnswersEventsKept s (execSetupReadEnd d s) := by
  unfold execSetupReadEnd
  split
  · exact .next (.ite (setupRead_eventsKept s.endFlight d) (.refl s))
  · exact .same s

theorem execSyncIn_eventsKept (s : State) (high : Bool) : AnswersEventsKept s (execSyncIn high s) :=
  have hfires : Worked { s with syncInLevel := high } _ :=
    ite_worked (foldl_worked (fun g _ hu => fire_worked hu g) _ .refl) .refl
  onlyIf_eventsKept hfires.eventsKept

theorem takeBeat_events (s : State) (g : GroupId) : (s.takeBeat g).cpl.events = s.cpl.events := by
  unfold State.takeBeat
  split
  · rfl
  · dsimp only
    split <;> split <;> rfl

/-! ### Every command -/

theorem exec_eventsKept (s : State) (i : Instr) : AnswersEventsKept s (exec i s) := by
  cases i with
  | nop r => exact .next (take_eventsKept s _ _ _ fun _ _ => (handOver_worked .refl _ _ _).eventsKept)
  | portConfig q => exact .next (take_eventsKept s _ _ _ (toPort_eventsKept fun id _ => configurePort_worked .refl _ id))
  | portEnable q => exact .next (take_eventsKept s _ _ _ (toPort_eventsKept fun id _ => enablePort_worked .refl _ id))
  | portDisable q => exact .next (take_eventsKept s _ _ _ (toPort_eventsKept fun id _ => disablePort_worked .refl _ id))
  | bringUp q => exact .next (take_eventsKept s _ _ _ (toPort_eventsKept fun id _ => bringUpPort_worked .refl _ id))
  | cycleStart q => exact .next (take_eventsKept s _ _ _ (toPort_eventsKept fun id _ => startCycling_worked .refl _ id))
  | cycleStop q => exact .next (take_eventsKept s _ _ _ (toPort_eventsKept fun id _ => stopCycling_worked .refl _ id))
  | groupConfig q => exact .next (take_eventsKept s _ _ _ (toUnit_eventsKept fun id _ => configureGroup_worked .refl _ id))
  | syncFire q => exact .next (take_eventsKept s _ _ _ (toUnit_eventsKept fun id _ => syncFireGroups_worked .refl _ id))
  | paramRead q => exact .next (take_eventsKept s _ _ _ (toPort_eventsKept fun id _ => queueTransfer_worked .refl false _ id))
  | paramWrite q => exact .next (take_eventsKept s _ _ _ (toPort_eventsKept fun id _ => queueTransfer_worked .refl true _ id))
  | abort q => exact .next (take_eventsKept s _ _ _ fun id u => (runAbort_side _ _ id u).events)
  | portQuery q => exact .next (take_eventsKept s _ _ _ (toPort_eventsKept fun id _ => queryPort_worked .refl _ id))
  | unknownRequestKind kind r => exact onlyIf_eventsKept (take_eventsKept s kind r _ fun _ => .refl)
  | reqBusError => exact execReqBusError_eventsKept s
  | fetch => exact .next (.ite (.refl s) (.refl s))
  | bmuGrant => exact onlyIf_eventsKept (grant_eventsKept s)
  | completionWriteClaim => exact .next (.ite (.refl s) (.refl s))
  | recordWriteEnd ok => exact execRecordWriteEnd_eventsKept s ok
  | holdoffExpiry => exact atInstant_eventsKept fun v => .refl v
  | reqTail v => exact onlyIf_eventsKept (writeReqTail_eventsKept s v)
  | cplHead v => exact onlyIf_eventsKept (writeCplHead_eventsKept s v)
  | enable v => exact onlyIf_eventsKept (writeCtrl_eventsKept s v)
  | softReset v => exact onlyIf_eventsKept (writeCtrl_eventsKept s v)
  | softResetEnd => exact .next (.ite (.refl s) (.refl s))
  | intEnable v => exact onlyIf_eventsKept (writeCtrl_eventsKept s v)
  | registerWrite o w v => exact onlyIf_eventsKept (writeRegister_eventsKept s _ w v)
  | powerOnReset => exact .next (.of_sublist (List.nil_sublist _))
  | resetNDeasserted => exact .next (.refl s)
  | setupReadEnd d => exact execSetupReadEnd_eventsKept s d
  | syncIn high => exact execSyncIn_eventsKept s high
  | beat g => exact atInstant_eventsKept fun v => .of_eq (takeBeat_events v g)
  | syncOutPulseEnd => exact atInstant_eventsKept fun v => .refl v
  | samplingInstant p => exact atInstant_worked_eventsKept fun v => sampleNow_worked .refl
  | samplingReadEnd d => exact execSamplingReadEnd_eventsKept s d
  | startInstant p => exact atInstant_worked_eventsKept fun v => startNow_worked .refl
  | inputImageWriteEnd ok => exact execInputImageWriteEnd_eventsKept s ok
  | idleCheck p => exact atInstant_worked_eventsKept fun v => startOnLine_worked .refl
  | collision p bit => exact execCollision_eventsKept s p bit
  | masterFrameEnd p => exact atInstant_worked_eventsKept fun v => frameSent_worked .refl
  | noReply p n => exact expire_eventsKept s p _ _ n
  | gap p n => exact expire_eventsKept s p _ _ n
  | stationReply p chars next => exact execStationReply_eventsKept s p chars next
  | guardEnd p => exact atInstant_worked_eventsKept fun v => guardOver_worked .refl
  | wakeDominantEnd p => exact atInstant_worked_eventsKept fun v => pulseSent_worked .refl
  | quietTimeEnd p => exact atInstant_worked_eventsKept fun v => pulseOver_worked .refl
  | lineStuck p => exact atInstant_worked_eventsKept fun v => enterFault_worked .refl _
  | fltNAsserted p => exact .next (modPort_worked .refl _).eventsKept
  | fltNDeasserted p => exact .next (modPort_worked .refl _).eventsKept
  | overcurrent p => exact atInstant_worked_eventsKept fun v => enterFault_worked .refl _
  | attempt p => exact atInstant_worked_eventsKept fun v => beginAttempt_worked .refl
  | backoffExpiry p => exact atInstant_worked_eventsKept fun v => modSeq_worked .refl _
  | activation p => exact atInstant_worked_eventsKept fun v => activateHead_worked .refl
  | segmentHandOver p => exact atInstant_worked_eventsKept fun v => handSegment_worked .refl
  | svcAbandon p => exact atInstant_worked_eventsKept fun v => handAbandon_worked .refl
  | transferFetchEnd d => exact execTransferFetchEnd_eventsKept s d
  | transferStoreEnd ok => exact execTransferStoreEnd_eventsKept s ok
  | portReportWriteEnd ok => exact execPortReportWriteEnd_eventsKept s ok
  | replyStartEdge p n => exact execReplyStartEdge_eventsKept s p n
  | rxdLevelChange p b => exact onlyIf_eventsKept (lineLevel_worked .refl b).eventsKept

/-! ### Every step -/

theorem tick_cpl (s : State) : s.tick.cpl = s.cpl := by
  unfold State.tick
  split
  · rfl
  · cases h : s.reach (s.time + 1) with
    | none => rfl
    | some v => rw [Option.getD_some, (reach_eq h).1]

/-- Settles O6: a step is a command, an arrival or a tick, and each keeps the list's entries apart. -/
theorem everyStepKeepsEventsDistinct : Obligations.EveryStepKeepsEventsDistinct := by
  intro s t hs h
  unfold step idleStep at h
  split at h
  · exact exec_eventsKept _ _ t h hs
  · split at h
    · exact exec_eventsKept _ _ t h hs
    · cases h
      exact (portArrival_side _ s.chosen).events hs
    · cases h
      exact unitArrival_eventsKept s.chosen hs
    · cases h
      exact EventsKept.of_eq (congrArg CompletionWriter.events (tick_cpl s)) hs

end Sys2Proof.Machine
end

section
/-! PROOFS. The grants of the arbiter (R142, R144, R145, R164): whose turn it is, the class that is granted, and the access that
each class starts. -/

namespace Sys2Proof.Machine

/- Each proof waits for the kernel; checked one after another, they need no more threads than the rest of the package. -/
set_option Elab.async false

variable {p : PortId} {s : State} {u : Setup}

/-! ### The port whose turn it is (R164) -/

/-- The port that comes `i + 1` places after `last`, going on from port 7 to port 0. -/
def portAfter (last : PortId) (i : Nat) : PortId := ⟨(last.val + 1 + i) % 8, Nat.mod_lt _ (by decide)⟩

theorem nextInTurn_eq (last : PortId) (w : PortId → Bool) :
    nextInTurn last w = ((List.range 8).find? (w ∘ portAfter last)).map (portAfter last) := List.find?_map ..

theorem portAfter_turn (last p : PortId) : portAfter last ((p.val + 7 - last.val) % 8) = p := by
  apply Fin.ext
  dsimp only [portAfter]
  omega

theorem turn_portAfter (last : PortId) {i : Nat} (h : i < 8) : ((portAfter last i).val + 7 - last.val) % 8 = i := by
  dsimp only [portAfter]
  omega

/-- The search of the arbiter finds the port that is served next. -/
theorem nextInTurn_served {last : PortId} {w : PortId → Bool} {waiting : PortId → Prop} (hw : ∀ q, w q = true ↔ waiting q)
    (h : ServedNext last waiting p) : nextInTurn last w = some p := by
  obtain ⟨hp, hfirst⟩ := h
  have hfound : (List.range 8).find? (w ∘ portAfter last) = some ((p.val + 7 - last.val) % 8) := by
    refine List.find?_range_eq_some.mpr ⟨?_, List.mem_range.mpr (Nat.mod_lt _ (by decide)), fun j hj => ?_⟩
    · rw [Function.comp_apply, portAfter_turn]
      exact (hw p).mpr hp
    · by_contra hj'
      have hle := hfirst (portAfter last j) ((hw _).mp (by simpa using hj'))
      rw [turn_portAfter last (by omega)] at hle
      omega
  rw [nextInTurn_eq, hfound, Option.map_some, portAfter_turn]

theorem nextInTurn_idle (last : PortId) {w : PortId → Bool} (h : ∀ q, w q = false) : nextInTurn last w = none :=
  List.find?_eq_none.mpr fun q _ => by simp [h q]

/-! ### The class that is granted (R164) -/

theorem nextGrant_image (h : ServedNext s.bus.last1 (fun q => (s.port q).cyc.list ≠ []) p) : s.nextGrant = some (.image p) := by
  unfold State.nextGrant
  rw [nextInTurn_served (fun q => by simp) h]

theorem nextGrant_transfer (h₁ : ∀ q, (s.port q).cyc.list = [])
    (h : ServedNext s.bus.last2 (fun q => (s.port q).xclaims ≠ []) p) : s.nextGrant = some (.transfer p) := by
  unfold State.nextGrant
  rw [nextInTurn_idle _ fun q => by simp [h₁ q], nextInTurn_served (fun q => by simp) h]

section part

variable (h₁ : ∀ q, (s.port q).cyc.list = []) (h₂ : ∀ q, (s.port q).xclaims = [])
include h₁ h₂

theorem nextGrant_ofRecordClaim {c : RecordClaim} (hr : s.bus.recordClaim = some c) : s.nextGrant = some (.record c) := by
  simp [State.nextGrant, nextInTurn_idle, h₁, h₂, hr]

theorem nextGrant_setupRead {a : Word} (hr : s.bus.recordClaim = none) (hs : s.bus.setupClaim = some a) :
    s.nextGrant = some (.setupRead a) := by
  simp [State.nextGrant, nextInTurn_idle, h₁, h₂, hr, hs]

theorem nextGrant_requestFetch (hr : s.bus.recordClaim = none) (hs : s.bus.setupClaim = none)
    (hc : s.bus.fetchClaim = true) : s.nextGrant = some .requestFetch := by
  simp [State.nextGrant, nextInTurn_idle, h₁, h₂, hr, hs, hc]

end part

/-- What the arbiter makes of the claim that it serves. -/
def State.serve (s : State) : Grant → State
  | .image p => s.grantImage p
  | .transfer p => s.grantTransfer p
  | .record c => s.grantRecord c
  | .setupRead a => s.grantSetup a
  | .requestFetch => s.grantFetch

/-- With no access in flight the claim that is next is granted. -/
theorem exec_bmuGrant {g : Grant} (hf : s.bus.flight = none) (hg : s.nextGrant = some g) :
    exec .bmuGrant s = .next (s.serve g) := by
  have hdue : s.grantDue.isSome = true := by simp [State.grantDue, State.nowIf, hf, hg]
  have hserve : s.grant = s.serve g := by
    unfold State.grant
    rw [hg]
    cases g <;> rfl
  exact congrArg _ ((if_pos hdue).trans hserve)

/-! ### The access that a grant starts -/

theorem grantImage_cons {a : ImageAccess} {rest : List ImageAccess} (h : (s.port p).cyc.list = a :: rest) : s.grantImage p =
    { s.withPort p { s.port p with cyc := { (s.port p).cyc with list := rest } } with
      bus := { s.bus.start (imageAccess p (s.port p) a) with last1 := p } } := by
  unfold State.grantImage
  rw [h]
  rfl

theorem grantTransfer_cons {c : XClaim} {rest : List XClaim} {a : Access} (h : (s.port p).xclaims = c :: rest)
    (ha : claimAccess p (s.port p) c = some a) : s.grantTransfer p =
    { s.withPort p { s.port p with xclaims := rest } with bus := { s.bus.start a with last2 := p } } := by
  unfold State.grantTransfer
  rw [h]
  dsimp only
  rw [ha]
  rfl

theorem recordAddr_eq (hu : s.setup = some u) : s.recordAddr = u.cplSlot s.cpl.tail := by
  simp [State.recordAddr, hu]

/-- A REQUEST_DONE record is fixed as it is granted, and leaves its list (R142, R144). -/
theorem grantRecord_completion {d : Completion} {rest : List Completion} (hu : s.setup = some u)
    (h : s.cpl.done = d :: rest) : s.grantRecord .completion =
    { s with
      cpl := { s.cpl with done := rest }
      bus := { s.bus with recordClaim := none }.start
        (.recordWrite (u.cplSlot s.cpl.tail) (doneRecord d s.cpl.phase s.timebase s.head) (some d.ort)) } := by
  rw [← recordAddr_eq hu]
  unfold State.grantRecord
  simp only [State.modBus_cpl, h]
  rfl

/-- An EVENT record is fixed as it is granted, and leaves its list (R142, R145). -/
theorem grantRecord_event {e : Event} {rest : List Event} (hu : s.setup = some u) (h : s.cpl.events = e :: rest) :
    s.grantRecord .event =
    { s with
      cpl := { s.cpl with events := rest }
      bus := { s.bus with recordClaim := none }.start
        (.recordWrite (u.cplSlot s.cpl.tail) (eventRecord e s.cpl.phase s.head) none) } := by
  rw [← recordAddr_eq hu]
  unfold State.grantRecord
  simp only [State.modBus_cpl, h]
  rfl

theorem grantFetch_eq (hu : s.setup = some u) : s.grantFetch =
    { s with bus := { s.bus.start (.requestFetch (u.reqEntry s.head)) with fetchClaim := false } } := by
  simp [State.grantFetch, State.modBus, hu]

/-- Settles O27, by the class of the claim that is next. -/
theorem theArbiterGrantsTheLowestClass : Obligations.TheArbiterGrantsTheLowestClass := by
  intro s hf go
  have hgrant : ∀ g {t}, s.nextGrant = some g → s.serve g = t → exec .bmuGrant s = .next t :=
    fun _ _ hg ht => ht ▸ exec_bmuGrant hf hg
  refine ⟨fun p a rest hp ha => hgrant (.image p) (nextGrant_image hp) (grantImage_cons ha), fun h₁ =>
    ⟨fun p c rest a hp hc ha => hgrant (.transfer p) (nextGrant_transfer h₁ hp) (grantTransfer_cons hc ha),
      fun h₂ u hu => ⟨fun d rest hr hd => ?_, fun e rest hr he => ?_, fun hr hs hc => ?_⟩, fun h₂ a hr hs => ?_⟩⟩
  · exact hgrant (.record .completion) (nextGrant_ofRecordClaim h₁ h₂ hr) (grantRecord_completion hu hd)
  · exact hgrant (.record .event) (nextGrant_ofRecordClaim h₁ h₂ hr) (grantRecord_event hu he)
  · exact hgrant .requestFetch (nextGrant_requestFetch h₁ h₂ hr hs hc) (grantFetch_eq hu)
  · exact hgrant (.setupRead a) (nextGrant_setupRead h₁ h₂ hr hs) rfl

end Sys2Proof.Machine
end

section
/-! PROOFS. The Completion Writer: the head whose write is claimed (R151), the record that has been written (R142, R143), the
holdoff and the acknowledgement of the interrupt (R152, R153), and the slots that CPL_HEAD returns (R146). -/

namespace Sys2Proof.Machine

/- Each proof waits for the kernel; checked one after another, they need no more threads than the rest of the package. -/
set_option Elab.async false

variable {s : State} {u : Setup}

/-! ### The claim (R151) -/

/-- With a credit of 1 the head that came first is next. -/
theorem nextRecord_credit (hu : s.setup = some u) (h : s.cpl.used + s.cpl.reserved + 1 ≤ u.cplSize) : s.nextRecord =
    match s.cpl.done, s.cpl.events with
    | [], [] => none
    | [], _ :: _ => some .event
    | _ :: _, [] => some .completion
    | c :: _, e :: _ => if e.arrival < c.arrival then some .event else some .completion := by
  unfold State.nextRecord
  rw [hu]
  cases s.cpl.done <;> cases s.cpl.events <;> simp [h]

/-- Without it an event waits, and does not hold up a completion. -/
theorem nextRecord_noCredit (hu : s.setup = some u) (h : u.cplSize < s.cpl.used + s.cpl.reserved + 1) :
    s.nextRecord = if s.cpl.done = [] then none else some .completion := by
  unfold State.nextRecord
  rw [hu]
  cases s.cpl.done <;> cases s.cpl.events <;> simp [Nat.not_le.mpr h]

/-- Where the Completion Writer has no write claimed or in flight, it claims the next one, if there is one. -/
theorem exec_completionWriteClaim (hr : s.runningOrPaused = true) (hc : s.bus.recordClaim = none)
    (hf : ∀ f, s.bus.flight = some f → ∀ a l o, f.access ≠ .recordWrite a l o) : exec .completionWriteClaim s =
    .next (if s.nextRecord.isSome then { s with bus := { s.bus with recordClaim := s.nextRecord } } else s) := by
  have hdue : s.recordDue.isSome = s.nextRecord.isSome := by
    unfold State.recordDue
    split
    · exact absurd rfl (hf _ ‹_› _ _ _)
    · cases hn : s.nextRecord <;> simp [State.nowIf, hr, hc]
  rw [← hdue]
  rfl

/-- Settles O28, by the two heads and the credit. -/
theorem theOlderHeadIsClaimed : Obligations.TheOlderHeadIsClaimed := by
  intro u s hu hr hc hf claims waits
  have hwaits : s.nextRecord = none → waits := fun hn =>
    (exec_completionWriteClaim hr hc hf).trans (by simp [hn])
  have hclaims : ∀ {c}, s.nextRecord = some c → claims c := fun hn =>
    (exec_completionWriteClaim hr hc hf).trans (by simp [hn])
  refine ⟨fun hcredit => ?_, fun hcredit => ?_⟩
  · have hnext := nextRecord_credit hu hcredit
    split <;> rename_i hd he <;> rw [hd, he] at hnext
    · exact hwaits hnext
    · exact hclaims hnext
    · exact hclaims hnext
    · split
      · exact hclaims (hnext.trans (if_pos ‹_›))
      · exact hclaims (hnext.trans (if_neg ‹_›))
  · have hnext := nextRecord_noCredit hu hcredit
    split
    · exact hwaits (hnext.trans (if_pos ‹_›))
    · exact hclaims (hnext.trans (if_neg ‹_›))

/-! ### The record that has been written (R142, R143, R152) -/

section flying

variable {f : BusFlight} {a : Word} {l : List Byte} {o : Option Nat} (hu : s.setup = some u) (hf : s.bus.flight = some f)
  (ha : f.access = .recordWrite a l o)
include hu hf ha

theorem exec_recordWriteEnd_written : exec (.recordWriteEnd true) s = .next (s.endFlight.recordWritten u o) := by
  obtain ⟨access, live, wanted⟩ := f
  subst ha
  simp [exec, execRecordWriteEnd, hf, hu]

theorem exec_recordWriteEnd_failed : exec (.recordWriteEnd false) s =
    .next (if s.runningOrPaused then s.endFlight.halt .cplBusError else s.endFlight) := by
  obtain ⟨access, live, wanted⟩ := f
  subst ha
  simp [exec, execRecordWriteEnd, hf, hu]

end flying

/-- The entry of a REQUEST_DONE record is freed with its reservation (R130, R142). -/
theorem freeEntry_id {id : Nat} (h : ∃ e ∈ s.ort, e.id = id) : (s.freeEntry fun e => e.id = id) =
    { s with ort := s.ort.eraseP fun e => e.id = id, cpl := { s.cpl with reserved := s.cpl.reserved - 1 } } :=
  if_pos (List.any_eq_true.mpr (by simpa using h))

/-- A record has reached memory: the tail, the phase, the used count, the entry it reports, and the interrupt moderator. -/
theorem recordWritten_eq (s : State) (u : Setup) (o : Option Nat) : (∀ id, o = some id → ∃ e ∈ s.ort, e.id = id) →
    s.recordWritten u o = { s with
      ort := match o with
        | some id => s.ort.eraseP fun e => e.id = id
        | none => s.ort
      cpl := CompletionWriter.moderate u.threshold u.holdoff s.time
        { s.cpl.advance u.cplSize with reserved := if o.isSome then s.cpl.reserved - 1 else s.cpl.reserved } } := by
  intro h
  unfold State.recordWritten
  cases o with
  | none => rfl
  | some id =>
    have hfree := freeEntry_id (s := s.modCpl (CompletionWriter.advance u.cplSize)) (h id rfl)
    dsimp only
    rw [hfree]
    rfl

/-- Settles O29, by how the write ends. -/
theorem aWrittenRecordIsCounted : Obligations.AWrittenRecordIsCounted := by
  intro u f a l o s hu hf ha ho tail ended
  have hfailed := exec_recordWriteEnd_failed hu hf ha
  refine ⟨?_, fun hr => ⟨_, hfailed.trans (congrArg _ (if_pos hr)), halt_haltedBy _ _⟩, fun hp => ?_⟩
  · rw [exec_recordWriteEnd_written hu hf ha, recordWritten_eq s.endFlight u o ho, Nat.mul_comm 32]
    rfl
  · exact hfailed.trans (congrArg _ (if_neg (by simp [State.runningOrPaused, hp])))

/-! ### The holdoff (R152) -/

/-- Settles O30: the timer that expires stops and meets the condition. -/
theorem theHoldoffMeetsTheCondition : Obligations.TheHoldoffMeetsTheCondition := by
  intro n s s' hn hs
  have hexec : exec .holdoffExpiry s = .next (s'.modCpl CompletionWriter.expire) := by
    have hdue : s.holdoffDue = some n := hn
    rw [exec, execHoldoffExpiry, hdue, atInstant_next _ hs]
  obtain ⟨rfl, -⟩ := reach_eq hs
  exact ⟨_, hexec, rfl, fun hcount => by simp [intPin, State.modCpl, CompletionWriter.expire, hcount]⟩

/-! ### CPL_HEAD (R146, R153) -/

theorem exec_cplHead_open (h : s.windowOpen = true) (v : Word) : exec (.cplHead v) s = .next (s.writeCplHead v) :=
  congrArg _ (if_pos h)

/-- The distance of a place of the ring from the head. -/
theorem delta_eq {size d : Nat} {v : Word} {c : CompletionWriter} (hc : c.head < size) (hd : d < size)
    (hv : (c.head + d) % size = v.toNat) : c.delta size v = d := by
  unfold CompletionWriter.delta
  rw [← hv]
  rcases Nat.lt_or_ge (c.head + d) size with h | h
  · rw [Nat.mod_eq_of_lt h, show c.head + d + size - c.head = d + size by omega, Nat.add_mod_right, Nat.mod_eq_of_lt hd]
  · rw [Nat.mod_eq_sub_mod h, Nat.mod_eq_of_lt (a := c.head + d - size) (by omega),
      show c.head + d - size + size - c.head = d by omega, Nat.mod_eq_of_lt hd]

/-- Settles O32, by the state of the window, of the part, and the value. -/
theorem cplHeadReturnsSlots : Obligations.CplHeadReturnsSlots := by
  intro v s ack
  refine ⟨fun hw => congrArg _ (if_neg (by simp [hw])), fun hw => ⟨rfl, rfl, fun hr => ?_, fun u hr hu hhead => ?_⟩⟩
  · exact (exec_cplHead_open hw v).trans (congrArg _ (if_neg (Bool.eq_false_iff.mp hr)))
  have hexec : exec (.cplHead v) s = .next (ack.returnSlots u.cplSize v) := by
    have hjudged : s.writeCplHead v = ack.returnSlots ((s.setup.map (·.cplSize)).getD 0) v := if_pos hr
    rw [exec_cplHead_open hw, hjudged, hu]
    rfl
  refine ⟨fun hv => ⟨_, hexec.trans (congrArg _ (if_pos hv)), halt_haltedBy _ _⟩, fun d hd hv => ?_⟩
  have hin : ¬ u.cplSize ≤ v.toNat := Nat.not_le.mpr (hv ▸ Nat.mod_lt _ (Ledger.cplSize_pos u))
  have hdelta : ack.cpl.delta u.cplSize v = d := delta_eq hhead hd hv
  have hjudge : ack.returnSlots u.cplSize v = if s.cpl.used < d then ack.halt .badHead else
      { ack with cpl := { ack.cpl with head := v.toNat, used := s.cpl.used - d } } := by
    rw [← hdelta]
    exact if_neg hin
  exact ⟨fun h => hexec.trans (congrArg _ (hjudge.trans (if_neg (Nat.not_lt.mpr h)))),
    fun h => ⟨_, hexec.trans (congrArg _ (hjudge.trans (if_pos h))), halt_haltedBy _ _⟩⟩

end Sys2Proof.Machine
end

section
/-! PROOFS. SOFT_RESET and the end of the access left on the bus (R155, R162), the writes by offset (R154, R155), and the setup
read (R158, R159): what a legal setup block is, and what each block makes of the part. -/

namespace Sys2Proof.Machine

/- Each proof waits for the kernel; checked one after another, they need no more threads than the rest of the package. -/
set_option Elab.async false

variable {s : State}

/-! ### SOFT_RESET (R155, R162) -/

theorem softReset_idle (h : s.bus.flight = none) : s.softReset = s.cleared s.setupAddr :=
  if_neg (by simp [h])

/-- An access in flight is left on the bus, and the part waits for its end. -/
theorem softReset_flying (h : s.bus.flight ≠ none) : s.softReset = { s.cleared s.setupAddr with
    part := .resetting
    bus := { Bus.reset with flight := some { access := .left, live := false, wanted := false } } } :=
  if_pos (Option.isSome_iff_ne_none.mpr h)

theorem exec_softReset_open {v : Word} (hv : v.getLsbD 1 = true) (hw : s.windowOpen = true) :
    exec (.softReset v) s = .next s.softReset := by
  have hctrl : s.writeCtrl v = s.softReset := if_pos hv
  exact congrArg _ ((if_pos hw).trans hctrl)

/-- Settles O34, by whether an access is in flight. -/
theorem softResetClearsEveryBlock : Obligations.SoftResetClearsEveryBlock := by
  refine ⟨fun v s hv hw => ⟨_, exec_softReset_open hv hw, ?_⟩, fun s hp => congrArg _ (if_pos (decide_eq_true hp))⟩
  by_cases hf : s.bus.flight = none
  · rw [softReset_idle hf, if_pos hf, if_pos hf]
    exact ⟨⟨rfl, rfl, rfl, reset_group, cleared_port s s.setupAddr⟩, rfl, fun h => absurd hf h, rfl⟩
  · rw [softReset_flying hf, if_neg hf, if_neg hf]
    exact ⟨⟨rfl, rfl, rfl, reset_group, cleared_port s s.setupAddr⟩, rfl, fun _ => rfl, rfl⟩

/-! ### Writes by offset (R154, R155) -/

/-- SETUP_ADDR as stored: the value with its five low bits 0. -/
theorem setupAddrOf_eq (v : Word) : setupAddrOf v = (v >>> 5) <<< 5 := by
  have hmask : (0xFFFFFFE0#32 : Word) = BitVec.allOnes 32 <<< 5 := by decide
  refine BitVec.eq_of_getLsbD_eq fun i hi => ?_
  rw [setupAddrOf, hmask]
  simp only [BitVec.getLsbD_and, BitVec.getLsbD_shiftLeft, BitVec.getLsbD_allOnes, BitVec.getLsbD_ushiftRight]
  grind

theorem writeRegister_narrow {w : AccessWidth} (hw : w ≠ .w32) (o : Nat) (v : Word) : s.writeRegister o w v = s := if_pos hw

/-- An offset that is none of the four that take a write holds nothing that changes (R154). -/
theorem writeRegister_elsewhere {o : Nat} (h04 : o ≠ 0x04) (h0C : o ≠ 0x0C) (h10 : o ≠ 0x10) (h18 : o ≠ 0x18)
    (w : AccessWidth) (v : Word) : s.writeRegister o w v = s := by
  simp [State.writeRegister, h04, h0C, h10, h18]

theorem exec_registerWrite_closed (h : s.windowOpen = false) (o : BitVec 6) (w : AccessWidth) (v : Word) :
    exec (.registerWrite o w v) s = .next s := congrArg _ (if_neg (by simp [h]))

theorem exec_registerWrite_open (h : s.windowOpen = true) (o : BitVec 6) (w : AccessWidth) (v : Word) :
    exec (.registerWrite o w v) s = .next (s.writeRegister o.toNat w v) := congrArg _ (if_pos h)

/-- A write that the register window drops, whether it is open or closed. -/
theorem exec_registerWrite_same {o : BitVec 6} {w : AccessWidth} {v : Word} (h : s.writeRegister o.toNat w v = s) :
    exec (.registerWrite o w v) s = .next s := by
  cases hw : s.windowOpen with
  | false => exact exec_registerWrite_closed hw o w v
  | true => rw [exec_registerWrite_open hw, h]

/-- Settles O35: the writes that are dropped, then the four offsets that take one. -/
theorem registerWritesFollowTheWindow : Obligations.RegisterWritesFollowTheWindow := by
  intro o w v s
  refine ⟨?_, fun hw => ⟨?_, rfl, fun _ => rfl, fun _ => rfl, rfl, rfl⟩⟩
  · rintro (hw | hnarrow | ⟨h04, h0C, h10, h18⟩)
    · exact exec_registerWrite_closed hw o w v
    · exact exec_registerWrite_same (writeRegister_narrow hnarrow _ v)
    · have hne : ∀ {x : BitVec 6}, o ≠ x → o.toNat ≠ x.toNat := fun h => mt BitVec.eq_of_toNat_eq h
      exact exec_registerWrite_same (writeRegister_elsewhere (hne h04) (hne h0C) (hne h10) (hne h18) w v)
  · rw [exec_registerWrite_open hw, ← setupAddrOf_eq]
    rfl

/-! ### A legal setup block (R159, section 10.4) -/

theorem inRange_iff {n lo hi : Nat} : inRange n lo hi = true ↔ lo ≤ n ∧ n ≤ hi := by
  simp [inRange]

theorem ringOk_iff {base align entry k : Nat} :
    ringOk base align entry k = true ↔ base ≠ 0 ∧ base % align = 0 ∧ base + entry * 2 ^ k ≤ 2 ^ 32 := by
  simp [ringOk, and_assoc]

theorem setupReservedClear_iff {d : ReadData} : setupReservedClear d = true ↔
    ∀ i, (5 ≤ i ∧ i ≤ 7) ∨ (18 ≤ i ∧ i ≤ 31) → (octetAt d i).toNat = 0 := by
  have hzero : ∀ x : Byte, x = 0 ↔ x.toNat = 0 := fun x => BitVec.toNat_inj.symm
  have hbelow : ∀ i, (5 ≤ i ∧ i ≤ 7) ∨ (18 ≤ i ∧ i ≤ 31) → i < 32 := by omega
  simp only [setupReservedClear, List.all_eq_true, List.mem_filter, List.mem_range, Bool.or_eq_true, inRange_iff,
    beq_iff_eq, hzero]
  exact ⟨fun h i hi => h i ⟨hbelow i hi, hi⟩, fun h i hi => h i hi.2⟩

/-- The SYNC_OUT octet names a group or none. -/
theorem syncOutOctet_iff {x : Byte} : (x.toNat < 4 || x == 0xFF#8) = true ↔ x.toNat ≤ 3 ∨ x.toNat = 255 := by
  have hnone : x = 0xFF#8 ↔ x.toNat = 255 := BitVec.toNat_inj.symm
  simp [hnone, Nat.lt_succ_iff]

/-- A block is taken where every field is legal. The upper bound of the threshold is that of any octet. -/
theorem setupOf_isSome_iff {d : ReadData} : (setupOf d).isSome = true ↔
    (∀ i, (5 ≤ i ∧ i ≤ 7) ∨ (18 ≤ i ∧ i ≤ 31) → (octetAt d i).toNat = 0) ∧
    (d.extractLsb' 0 32).toNat ≠ 0 ∧ (d.extractLsb' 0 32).toNat % 32 = 0 ∧
    3 ≤ (octetAt d 4).toNat ∧ (octetAt d 4).toNat ≤ 12 ∧
    (d.extractLsb' 0 32).toNat + 32 * 2 ^ (octetAt d 4).toNat ≤ 2 ^ 32 ∧
    (d.extractLsb' 64 32).toNat ≠ 0 ∧ (d.extractLsb' 64 32).toNat % 16 = 0 ∧
    4 ≤ (octetAt d 12).toNat ∧ (octetAt d 12).toNat ≤ 12 ∧
    (d.extractLsb' 64 32).toNat + 16 * 2 ^ (octetAt d 12).toNat ≤ 2 ^ 32 ∧
    1 ≤ (octetAt d 13).toNat ∧ ((octetAt d 16).toNat ≤ 3 ∨ (octetAt d 16).toNat = 255) ∧ (octetAt d 17).toNat ≤ 1 := by
  have hthreshold : inRange (octetAt d 13).toNat 1 255 = true ↔ 1 ≤ (octetAt d 13).toNat :=
    inRange_iff.trans (and_iff_left (Nat.le_of_lt_succ (octetAt d 13).isLt))
  have hedge : (octetAt d 17).toNat < 2 ↔ (octetAt d 17).toNat ≤ 1 := Nat.lt_succ_iff
  simp only [setupOf, Option.isSome_ite, Bool.and_eq_true, setupReservedClear_iff, hthreshold, inRange_iff, ringOk_iff,
    syncOutOctet_iff, hedge, decide_eq_true_eq]
  grind

/-! ### The setup read (R158, R159) -/

theorem halt_setup (c : HaltCause) (s : State) : (s.halt c).setup = s.setup := by
  cases h : s.bus.fetchClaim with
  | false => rw [halt_unclaimed c h]
  | true => rw [halt_claimed c h]

/-- In STARTING the end of the setup read has its data judged. -/
theorem exec_setupReadEnd {a : Word} {f : BusFlight} (hf : s.bus.flight = some f) (ha : f.access = .setupRead a)
    (hp : s.part = .starting) (d : Option ReadData) :
    exec (.setupReadEnd d) s = .next (s.endFlight.setupRead d) := by
  obtain ⟨access, live, wanted⟩ := f
  subst ha
  simp [exec, execSetupReadEnd, hf, hp]

theorem setupRead_invalid {d : ReadData} (h : setupOf d = none) : s.setupRead (some d) = s.halt .badSetup := by
  simp [State.setupRead, h]

/-- A valid block is judged against the indices held. -/
theorem setupRead_valid {d : ReadData} {u : Setup} (h : setupOf d = some u) : s.setupRead (some d) =
    if u.reqSize ≤ s.reqTailReg.toNat then s.halt .badTail
    else if s.cplHeadReg ≠ 0 then s.halt .badHead
    else s.accept u := by
  simp [State.setupRead, h]

/-- Settles O37: the bus error, the block, then the two indices. -/
theorem theSetupBlockIsJudged : Obligations.TheSetupBlockIsJudged := by
  refine ⟨fun a f s hf ha hp => ⟨⟨_, exec_setupReadEnd hf ha hp none, halt_haltedBy _ _⟩, fun d => ?_⟩,
    fun _ => setupOf_isSome_iff⟩
  have hexec := exec_setupReadEnd hf ha hp (some d)
  split
  · rename_i hnone
    exact ⟨_, hexec.trans (congrArg _ (setupRead_invalid hnone)), halt_haltedBy _ _⟩
  · rename_i u hsome
    have hjudged := hexec.trans (congrArg _ (setupRead_valid hsome))
    split
    · rename_i htail
      exact ⟨_, hjudged.trans (congrArg _ (if_pos htail)), halt_haltedBy _ _, halt_setup _ _⟩
    · rename_i htail
      have htailIn := hjudged.trans (congrArg _ (if_neg htail))
      split
      · rename_i hhead
        exact ⟨_, htailIn.trans (congrArg _ (if_pos hhead)), halt_haltedBy _ _, halt_setup _ _⟩
      · rename_i hhead
        exact htailIn.trans (congrArg _ (if_neg hhead))

end Sys2Proof.Machine
end

section
/-! PROOFS. The queue of commands. Every command answers a next state in which the queue is as it was, the resets among them (log
entries 3 and 30), and a step runs the command at its front or, with none, what the part does by itself (log entries 1 and 6). The
idea: the work of the ports keeps the queue by the induction on `Worked`, so that only the blocks shared by all ports are left to
look at. -/

namespace Sys2Proof.Machine

/- Each proof waits for the kernel; checked one after another, they need no more threads than the rest of the package. -/
set_option Elab.async false

variable {p : PortId} {s t u : State}

/-! ### The work of the ports and of the Schedule Unit -/

theorem ite_pending {c : Prop} [Decidable c] (ht : t.pending = s.pending) (hu : u.pending = s.pending) :
    (if c then t else u).pending = s.pending := by
  split
  · exact ht
  · exact hu

theorem complete_pending (s : State) (id : Nat) (st : Status) (r : Word) : (s.complete id st r).pending = s.pending :=
  congrArg Control.pending (complete_tablesOnly s id st r).control

theorem post_pending (s : State) (p : PortId) (k : EventKind) (d : Word) : (s.post p k d).pending = s.pending :=
  congrArg Control.pending (post_control s p k d)

theorem Worked.pending (h : Worked s t) : t.pending = s.pending := by
  induction h with
  | refl => rfl
  | ports _ _ ih => exact ih
  | groups _ _ ih => exact ih
  | moved _ _ _ ih => exact ih
  | completed _ id st r ih => exact (complete_pending _ id st r).trans ih
  | counted _ _ ih => exact ih
  | posted _ p k d ih => exact (post_pending _ p k d).trans ih
  | flight _ _ _ ih => exact ih

theorem takeBeat_pending (s : State) (g : GroupId) : (s.takeBeat g).pending = s.pending := by
  unfold State.takeBeat
  split
  · rfl
  · exact ite_pending (t := { s with syncOutEnd := _ }) rfl rfl

/-! ### The take (R127, R134, R135) -/

theorem advanceHead_pending (s : State) : s.advanceHead.pending = s.pending := by
  unfold State.advanceHead
  split <;> rfl

theorem dropFetch_pending (s : State) : s.dropFetch.pending = s.pending := by rw [dropFetch_rest]

/-- An act of a take that leaves the queue. -/
def ActKeepsQueue (act : Nat → State → State) : Prop := ∀ id u, (act id u).pending = u.pending

theorem take_pending (s : State) (k : Byte) (r : ReqRecord) (c : Option Status) {act : Nat → State → State}
    (h : ActKeepsQueue act) : (s.take k r c act).pending = s.pending := by
  unfold State.take
  refine ite_pending (ite_pending ?_ (dropFetch_pending s.endFlight)) rfl
  split
  · rfl
  · have hfilled := advanceHead_pending s.endFlight
    split
    · exact (handOver_worked .refl _ _ _).pending.trans hfilled
    · exact (h _ _).trans hfilled

theorem toPort_keepsQueue {k : Byte} {q : Routed} {act : Nat → State → State} (h : ∀ id u, Worked u (act id u)) :
    ActKeepsQueue (State.toPort k q act) := fun id u => (atPort_worked .refl (h id u) _ _ _).pending

theorem toUnit_keepsQueue {k : Byte} {q : Routed} {act : Nat → State → State} (h : ∀ id u, Worked u (act id u)) :
    ActKeepsQueue (State.toUnit k q act) := fun id u => ite_pending rfl (h id u).pending

theorem runAbort_keepsQueue (r : ReqRecord) (late : Bool) : ActKeepsQueue (State.runAbort r late) :=
  fun id u => congrArg Control.pending (runAbort_side r late id u).control

/-! ### Halts, registers and resets (R129, R154 to R163) -/

theorem withdrawFetch_pending (s : State) : s.withdrawFetch.pending = s.pending :=
  ite_pending (dropFetch_pending _) rfl

theorem halt_pending (s : State) (c : HaltCause) : (s.halt c).pending = s.pending :=
  withdrawFetch_pending { s with part := .halted, haltCause := some c }

theorem writeReqTail_pending (s : State) (v : Word) : (s.writeReqTail v).pending = s.pending :=
  ite_pending (ite_pending (halt_pending _ _) rfl) rfl

theorem writeCplHead_pending (s : State) (v : Word) : (s.writeCplHead v).pending = s.pending :=
  ite_pending (ite_pending (halt_pending _ _) (ite_pending (halt_pending _ _) rfl)) rfl

theorem writeEnable_pending (s : State) (b : Bool) : (s.writeEnable b).pending = s.pending := by
  unfold State.writeEnable
  refine ite_pending rfl (ite_pending ?_ ?_)
  · split
    · exact ite_pending (halt_pending _ _) rfl
    all_goals rfl
  · split
    · exact withdrawFetch_pending _
    all_goals rfl

/-- A soft reset keeps the queue, whether or not an access is left to end (R162; log entry 30). -/
theorem softReset_pending (s : State) : s.softReset.pending = s.pending := ite_pending rfl rfl

theorem writeCtrl_pending (s : State) (v : Word) : (s.writeCtrl v).pending = s.pending :=
  ite_pending (softReset_pending s) (writeEnable_pending s _)

theorem writeRegister_pending (s : State) (o : Nat) (w : AccessWidth) (v : Word) :
    (s.writeRegister o w v).pending = s.pending :=
  ite_pending rfl <| ite_pending (writeCtrl_pending s v) <| ite_pending rfl <| ite_pending (writeReqTail_pending s v) <|
    ite_pending (writeCplHead_pending s v) rfl

theorem setupRead_pending (s : State) (d : Option ReadData) : (s.setupRead d).pending = s.pending := by
  unfold State.setupRead
  split
  · exact halt_pending s _
  · split
    · exact halt_pending s _
    · exact ite_pending (halt_pending s _) (ite_pending (halt_pending s _) rfl)

/-! ### The arbiter and the records (R142, R164) -/

theorem grant_pending (s : State) : s.grant.pending = s.pending := by
  unfold State.grant
  split
  · unfold State.grantImage
    split <;> rfl
  · unfold State.grantTransfer
    split <;> rfl
  · unfold State.grantRecord
    dsimp only
    split <;> rfl
  all_goals rfl

theorem recordWritten_pending (s : State) (v : Setup) (o : Option Nat) : (s.recordWritten v o).pending = s.pending := by
  cases o with
  | none => rfl
  | some id => exact ite_pending (s := s) rfl rfl

/-! ### What a command answers -/

/-- The answer to a command from `s` is a next state with the queue of `s`. -/
def AnswersQueueKept (s : State) (r : Result) : Prop := ∃ t, r = .next t ∧ t.pending = s.pending

theorem AnswersQueueKept.next (h : t.pending = s.pending) : AnswersQueueKept s (.next t) := ⟨t, rfl, h⟩

/-- A command without an effect. -/
theorem AnswersQueueKept.same (s : State) : AnswersQueueKept s (.next s) := .next rfl

theorem onlyIf_queueKept {c : Bool} {act : State → State} (h : (act s).pending = s.pending) :
    AnswersQueueKept s (onlyIf c act s) := .next (ite_pending h rfl)

/-- Time reaches an instant with the queue as it is. -/
theorem reach_pending {n : Nat} (h : s.reach n = some t) : t.pending = s.pending := by rw [(reach_eq h).1]

theorem exactlyAt_queueKept {n : Nat} {act : State → State} (h : ∀ v, (act v).pending = v.pending) :
    AnswersQueueKept s (exactlyAt n act s) := by
  unfold exactlyAt
  split
  · exact .next ((h _).trans (reach_pending ‹_›))
  · exact .same s

theorem atInstant_queueKept {due : Option Nat} {act : State → State} (h : ∀ v, (act v).pending = v.pending) :
    AnswersQueueKept s (atInstant due act s) := by
  unfold atInstant
  split
  · exact exactlyAt_queueKept h
  · exact .same s

/-- A step of the ports at its instant. -/
theorem atInstant_worked_queueKept {due : Option Nat} {act : State → State} (h : ∀ v, Worked v (act v)) :
    AnswersQueueKept s (atInstant due act s) := atInstant_queueKept fun v => (h v).pending

theorem replyAt_queueKept {n : Nat} {act : State → State} (h : ∀ v, Worked v (act v)) :
    AnswersQueueKept s (s.replyAt p n act) := by
  unfold State.replyAt
  split
  · rename_i v hv
    have hline : v.pending = (s.modLf p _).pending := reach_pending hv
    exact .next ((h v).pending.trans hline)
  · exact .same s

theorem expire_queueKept (s : State) (p : PortId) (c : Cause) (due : Option Nat) (n : Nat) :
    AnswersQueueKept s (s.expire p c due n) := by
  unfold State.expire
  split
  · split
    · exact exactlyAt_queueKept fun v => (endExchange_worked .refl _ _ _).pending
    · exact .same s
  · exact .same s

/-! ### Commands that look at the state -/

theorem execCollision_queueKept (s : State) (p : PortId) (bit : Nat) : AnswersQueueKept s (execCollision p bit s) := by
  unfold execCollision
  split
  · split
    · exact exactlyAt_queueKept fun v => (collide_worked .refl _ bit).pending
    · exact .same s
  · exact .same s

theorem execReplyStartEdge_queueKept (s : State) (p : PortId) (n : Nat) :
    AnswersQueueKept s (execReplyStartEdge p n s) := by
  unfold execReplyStartEdge
  dsimp only
  split
  · split
    · exact replyAt_queueKept fun v => beginReply_worked .refl _ _
    · exact .same s
  · exact .same s

theorem execStationReply_queueKept (s : State) (p : PortId) (chars : List RxChar) (next : Option Nat) :
    AnswersQueueKept s (execStationReply p chars next s) := by
  unfold execStationReply
  split
  · split
    · exact replyAt_queueKept (replyEffect_worked ‹_›)
    · exact .same s
  · exact .same s

/-- The end of an access, and what it brings at its port. -/
theorem AnswersQueueKept.of_endFlight (h : Worked s.endFlight t) : AnswersQueueKept s (.next t) := .next h.pending

theorem execSamplingReadEnd_queueKept (s : State) (d : Option ReadData) : AnswersQueueKept s (execSamplingReadEnd d s) := by
  unfold execSamplingReadEnd
  split
  · dsimp only
    split
    · split
      · exact .of_endFlight (imageFault_worked .refl _)
      · exact .of_endFlight (ite_worked (modCyc_worked .refl _) .refl)
    · exact .of_endFlight .refl
  · exact .same s

theorem execInputImageWriteEnd_queueKept (s : State) (ok : Bool) : AnswersQueueKept s (execInputImageWriteEnd ok s) := by
  unfold execInputImageWriteEnd
  split
  · dsimp only
    split
    · exact .of_endFlight (ite_worked (imageFault_worked .refl _) (ite_worked (modCyc_worked .refl _) .refl))
    · exact .of_endFlight .refl
  · exact .same s

theorem execTransferFetchEnd_queueKept (s : State) (d : Option ReadData) :
    AnswersQueueKept s (execTransferFetchEnd d s) := by
  unfold execTransferFetchEnd
  split
  · exact .of_endFlight (ite_worked (fetchEnded_worked .refl _) (formerEnded_worked .refl))
  · exact .same s

theorem execTransferStoreEnd_queueKept (s : State) (ok : Bool) : AnswersQueueKept s (execTransferStoreEnd ok s) := by
  unfold execTransferStoreEnd
  split
  · exact .of_endFlight (ite_worked (storeEnded_worked .refl _) (formerEnded_worked .refl))
  · exact .same s

theorem execPortReportWriteEnd_queueKept (s : State) (ok : Bool) : AnswersQueueKept s (execPortReportWriteEnd ok s) := by
  unfold execPortReportWriteEnd
  split
  · exact .of_endFlight (reportEnded_worked .refl _ _)
  · exact .same s

theorem execReqBusError_queueKept (s : State) : AnswersQueueKept s (execReqBusError s) :=
  onlyIf_queueKept (ite_pending (halt_pending s.endFlight _) (dropFetch_pending s.endFlight))

theorem execRecordWriteEnd_queueKept (s : State) (ok : Bool) : AnswersQueueKept s (execRecordWriteEnd ok s) := by
  unfold execRecordWriteEnd
  split
  · exact .next (ite_pending (recordWritten_pending s.endFlight _ _) (ite_pending (halt_pending s.endFlight _) rfl))
  · exact .same s

theorem execSetupReadEnd_queueKept (s : State) (d : Option ReadData) : AnswersQueueKept s (execSetupReadEnd d s) := by
  unfold execSetupReadEnd
  split
  · exact .next (ite_pending (setupRead_pending s.endFlight d) rfl)
  · exact .same s

theorem execSyncIn_queueKept (s : State) (high : Bool) : AnswersQueueKept s (execSyncIn high s) :=
  have hfires : Worked { s with syncInLevel := high } _ :=
    ite_worked (foldl_worked (fun g _ hu => fire_worked hu g) _ .refl) .refl
  onlyIf_queueKept hfires.pending

/-! ### Every command -/

theorem exec_queueKept (i : Instr) (s : State) : AnswersQueueKept s (exec i s) := by
  cases i with
  | nop r => exact .next (take_pending s _ _ _ fun _ _ => (handOver_worked .refl _ _ _).pending)
  | portConfig q => exact .next (take_pending s _ _ _ (toPort_keepsQueue fun id _ => configurePort_worked .refl _ id))
  | portEnable q => exact .next (take_pending s _ _ _ (toPort_keepsQueue fun id _ => enablePort_worked .refl _ id))
  | portDisable q => exact .next (take_pending s _ _ _ (toPort_keepsQueue fun id _ => disablePort_worked .refl _ id))
  | bringUp q => exact .next (take_pending s _ _ _ (toPort_keepsQueue fun id _ => bringUpPort_worked .refl _ id))
  | cycleStart q => exact .next (take_pending s _ _ _ (toPort_keepsQueue fun id _ => startCycling_worked .refl _ id))
  | cycleStop q => exact .next (take_pending s _ _ _ (toPort_keepsQueue fun id _ => stopCycling_worked .refl _ id))
  | groupConfig q => exact .next (take_pending s _ _ _ (toUnit_keepsQueue fun id _ => configureGroup_worked .refl _ id))
  | syncFire q => exact .next (take_pending s _ _ _ (toUnit_keepsQueue fun id _ => syncFireGroups_worked .refl _ id))
  | paramRead q => exact .next (take_pending s _ _ _ (toPort_keepsQueue fun id _ => queueTransfer_worked .refl false _ id))
  | paramWrite q => exact .next (take_pending s _ _ _ (toPort_keepsQueue fun id _ => queueTransfer_worked .refl true _ id))
  | abort q => exact .next (take_pending s _ _ _ (runAbort_keepsQueue _ _))
  | portQuery q => exact .next (take_pending s _ _ _ (toPort_keepsQueue fun id _ => queryPort_worked .refl _ id))
  | unknownRequestKind kind r => exact onlyIf_queueKept (take_pending s kind r _ fun _ _ => rfl)
  | reqBusError => exact execReqBusError_queueKept s
  | fetch => exact .next (ite_pending rfl rfl)
  | bmuGrant => exact onlyIf_queueKept (grant_pending s)
  | completionWriteClaim => exact .next (ite_pending rfl rfl)
  | recordWriteEnd ok => exact execRecordWriteEnd_queueKept s ok
  | holdoffExpiry => exact atInstant_queueKept fun _ => rfl
  | reqTail v => exact onlyIf_queueKept (writeReqTail_pending s v)
  | cplHead v => exact onlyIf_queueKept (writeCplHead_pending s v)
  | enable v => exact onlyIf_queueKept (writeCtrl_pending s v)
  | softReset v => exact onlyIf_queueKept (writeCtrl_pending s v)
  | softResetEnd => exact .next (ite_pending rfl rfl)
  | intEnable v => exact onlyIf_queueKept (writeCtrl_pending s v)
  | registerWrite o w v => exact onlyIf_queueKept (writeRegister_pending s _ w v)
  | powerOnReset => exact .next rfl
  | resetNDeasserted => exact .next rfl
  | setupReadEnd d => exact execSetupReadEnd_queueKept s d
  | syncIn high => exact execSyncIn_queueKept s high
  | beat g => exact atInstant_queueKept fun v => takeBeat_pending v g
  | syncOutPulseEnd => exact atInstant_queueKept fun _ => rfl
  | samplingInstant p => exact atInstant_worked_queueKept fun _ => sampleNow_worked .refl
  | samplingReadEnd d => exact execSamplingReadEnd_queueKept s d
  | startInstant p => exact atInstant_worked_queueKept fun _ => startNow_worked .refl
  | inputImageWriteEnd ok => exact execInputImageWriteEnd_queueKept s ok
  | idleCheck p => exact atInstant_worked_queueKept fun _ => startOnLine_worked .refl
  | collision p bit => exact execCollision_queueKept s p bit
  | masterFrameEnd p => exact atInstant_worked_queueKept fun _ => frameSent_worked .refl
  | noReply p n => exact expire_queueKept s p _ _ n
  | gap p n => exact expire_queueKept s p _ _ n
  | stationReply p chars next => exact execStationReply_queueKept s p chars next
  | guardEnd p => exact atInstant_worked_queueKept fun _ => guardOver_worked .refl
  | wakeDominantEnd p => exact atInstant_worked_queueKept fun _ => pulseSent_worked .refl
  | quietTimeEnd p => exact atInstant_worked_queueKept fun _ => pulseOver_worked .refl
  | lineStuck p => exact atInstant_worked_queueKept fun _ => enterFault_worked .refl _
  | fltNAsserted p => exact .next rfl
  | fltNDeasserted p => exact .next rfl
  | overcurrent p => exact atInstant_worked_queueKept fun _ => enterFault_worked .refl _
  | attempt p => exact atInstant_worked_queueKept fun _ => beginAttempt_worked .refl
  | backoffExpiry p => exact atInstant_worked_queueKept fun _ => modSeq_worked .refl _
  | activation p => exact atInstant_worked_queueKept fun _ => activateHead_worked .refl
  | segmentHandOver p => exact atInstant_worked_queueKept fun _ => handSegment_worked .refl
  | svcAbandon p => exact atInstant_worked_queueKept fun _ => handAbandon_worked .refl
  | transferFetchEnd d => exact execTransferFetchEnd_queueKept s d
  | transferStoreEnd ok => exact execTransferStoreEnd_queueKept s ok
  | portReportWriteEnd ok => exact execPortReportWriteEnd_queueKept s ok
  | replyStartEdge p n => exact execReplyStartEdge_queueKept s p n
  | rxdLevelChange p b => exact onlyIf_queueKept (lineLevel_worked .refl b).pending

/-- Settles O3: what the command answers is the next state that `exec_queueKept` finds. -/
theorem noCommandTouchesTheQueue : Obligations.NoCommandTouchesTheQueue := by
  intro i s t h
  obtain ⟨v, hnext, hkept⟩ := exec_queueKept i s
  obtain rfl : v = t := Host.Outcome.next.inj (hnext.symm.trans h)
  exact hkept

/-- Settles O2: `exec_queueKept` finds the next state. -/
theorem everyCommandAnswersANextState : Obligations.EveryCommandAnswersANextState := by
  intro i s
  obtain ⟨t, hnext, -⟩ := exec_queueKept i s
  exact ⟨t, hnext⟩

/-! ### A step -/

theorem step_front (c : Instr) (rest : List Instr) (s : State) :
    step { s with pending := c :: rest } = exec c { s with pending := rest } := rfl

theorem step_row {c : Instr} (hp : s.pending = []) (hd : s.dueStep = some (.row c)) : step s = exec c s.chosen := by
  simp only [step, hp, idleStep, hd]

theorem step_unitArrival (hp : s.pending = []) (hd : s.dueStep = some .unitArrival) : step s = .next s.chosen.unitArrival := by
  simp only [step, hp, idleStep, hd]

theorem step_tick (hp : s.pending = []) (hd : s.dueStep = none) : step s = .next s.tick := by
  simp only [step, hp, idleStep, hd]

/-- A tick moves the time by the least amount, or nothing where RESET_N or a step still due holds it (R163; log entries 2 and 4). -/
theorem tick_time (s : State) : s.tick = s ∨ s.tick = { s with time := s.time + 1 } := by
  unfold State.tick
  split
  · exact .inl rfl
  · cases h : s.reach (s.time + 1) with
    | none => exact .inl rfl
    | some v => exact .inr (reach_eq h).1

/-- Settles O1: the queue's front, and on an empty queue a lemma for each kind of step of the part's own. -/
theorem stepRunsTheFrontCommand : Obligations.StepRunsTheFrontCommand :=
  ⟨step_front, fun s hp => ⟨fun _ => step_row hp, fun _ => step_portArrival hp, step_unitArrival hp,
    fun hd => ⟨step_tick hp hd, tick_time s⟩⟩⟩

end Sys2Proof.Machine
end
